-- ==== Sys2Proof/Word.lean ====
section
/-! DEFINITION. The word types of the Numira 4816: the quantities the manual treats as bits or lets wrap. -/

namespace Sys2Proof

/-- One byte of a frame. -/
abbrev Byte := BitVec 8

/-- A station's sample counter value: 32 bits, wrapping (R1). -/
abbrev Counter := BitVec 32

/-- A block number: 32 bits, wrapping (R4). -/
abbrev BlockNo := BitVec 32

/-- A cadence mark number: 32 bits, wrapping (R5). -/
abbrev MarkNo := BitVec 32

/-- A MAC address; its first byte on the wire is the most significant one. -/
abbrev Mac := BitVec 48

/-- A 24-bit two's complement audio sample (Introduction, Audio). -/
abbrev Sample := BitVec 24

/-- A count of periods of the 24.576 MHz reference. -/
abbrev Tick := Nat

end Sys2Proof
end

