-- ==== Sys2Proof/Config.lean ====
section
/-! DEFINITION. The fixed capacities of the part number: how many stations, tracks, confer groups and Fault Log classes
there are.  The part leaves no value free that a step needs, so no opaque constant stands here. -/

namespace Sys2Proof.Config

/-- Station Table entries (R19). -/
abbrev stationCount : Nat := 16

/-- Track Map entries (R61). -/
abbrev trackCount : Nat := 48

/-- Confer groups, numbered 1 to 8 on the wire and 0 to 7 here (R79). -/
abbrev groupCount : Nat := 8

/-- Court modes (R64). -/
abbrev modeCount : Nat := 5

/-- Roles (R61). -/
abbrev roleCount : Nat := 8

/-- Fault Log classes (R178). -/
abbrev faultClassCount : Nat := 6

end Sys2Proof.Config
end

