-- ==== Sys2Proof/Syntax.lean ====
section
/-! DEFINITION. The commands: one constructor of `Instr` per row of the opcode table.

A frame arrival carries the frame as received.  A timer or limit event names the station or stream it concerns.  A row of the
Management Unit's requests carries no operand of its own: it is the service of the request at the head of the Request Queue
(R169), whose parameters are the bytes of that queued REQUEST frame (log entry 31). -/

namespace Sys2Proof

/-- The two Ethernet ports: A faces the room network, B the record network. -/
inductive Port where
  | A
  | B
  deriving DecidableEq, Repr

/-- The two record outputs (R113): OPEN, the public record, and SEALED. -/
inductive Stream where
  | openS
  | sealedS
  deriving DecidableEq, Repr

/-- An untagged Ethernet frame without its frame check sequence: `body` is every byte after the EtherType, padding included. -/
structure Frame where
  dst : Mac
  src : Mac
  etherType : BitVec 16
  body : List Byte
  deriving DecidableEq, Repr

/-- The commands of the part, in the order of the opcode table. -/
inductive Instr where
  /-- POWER_ON (R141). -/
  | powerOn
  /-- SUPPLY_DIP (R141). -/
  | supplyDip
  /-- SOFT_RESET_FULL: the reply to SOFT_RESET FULL finishes transmission (R141). -/
  | softResetFull
  /-- SOFT_RESET_RUNTIME: the reply to SOFT_RESET RUNTIME finishes transmission (R141). -/
  | softResetRuntime
  /-- LINK_STATE_CHANGE: the physical layer of `port` reports its link UP or DOWN (R163). -/
  | linkStateChange (port : Port) (up : Bool)
  /-- RECEIVE_ERROR: bytes from the destination address to the last byte before the frame check sequence, the sequence read as
  one number, and whether the port received the frame whole (R154). -/
  | receiveError (port : Port) (whole : Bool) (bytes : List Byte) (fcs : BitVec 32)
  /-- LOOPED_COPY (R154). -/
  | loopedCopy (port : Port) (frame : Frame)
  /-- PASS_THROUGH (R156, R157, R159). -/
  | passThrough (port : Port) (frame : Frame)
  /-- MISDIRECTED (R156, R157). -/
  | misdirected (port : Port) (frame : Frame)
  /-- CADENCE_MARK: the frame on port A and the reference-tick count at which its reception completed (R2). -/
  | cadenceMark (frame : Frame) (time : Tick)
  /-- GUARD_EXPIRY (R7). -/
  | guardExpiry
  /-- SYNTHESIS_TIMER_EXPIRY (R8). -/
  | synthesisTimerExpiry
  /-- SILENCE_COUNT_LIMIT of one station (R24). -/
  | silenceCountLimit (station : Fin 16)
  /-- TALLY_REFRESH (R76). -/
  | tallyRefresh
  /-- RECORDER_STALLED of one stream (R125). -/
  | recorderStalled (stream : Stream)
  /-- CLOSE_UNCONFIRMED of one stream (R136). -/
  | closeUnconfirmed (stream : Stream)
  /-- LINE_TEST_END (R151). -/
  | lineTestEnd
  /-- NOTICE_HOLDOFF_EXPIRY (R176). -/
  | noticeHoldoffExpiry
  /-- STATION_AUDIO on port A (R25). -/
  | stationAudio (frame : Frame)
  /-- CREDIT on port B (R122). -/
  | credit (frame : Frame)
  /-- CLOSE_ACK on port B (R136). -/
  | closeAck (frame : Frame)
  /-- FRAME_TRANSMITTED on one port (R160). -/
  | frameTransmitted (port : Port)
  /-- STANDBY_ENTRY (R139). -/
  | standbyEntry
  /-- REQUEST on port B (R167). -/
  | request (frame : Frame)
  /-- UNKNOWN_REQUEST (R169). -/
  | unknownRequest
  /-- READ_ENTRIES of a table other than STATION_STATUS (R170). -/
  | readEntries
  /-- READ_STATION_STATUS: READ_ENTRIES of STATION_STATUS (R40). -/
  | readStationStatus
  /-- WRITE_ENTRIES of STATION_STATUS, FAULT_LOG or an unknown table (R171). -/
  | writeEntries
  /-- WRITE_STATION (R19 to R21). -/
  | writeStation
  /-- WRITE_TRACK_MAP (R62). -/
  | writeTrackMap
  /-- WRITE_DISPOSITION (R70). -/
  | writeDisposition
  /-- WRITE_TALLY_OVERRIDE (R77). -/
  | writeTallyOverride
  /-- WRITE_STREAM (R113). -/
  | writeStream
  /-- WRITE_DEVICE_CONFIG (R165). -/
  | writeDeviceConfig
  /-- SET_MODE (R65). -/
  | setMode
  /-- PUSH_MODE (R66). -/
  | pushMode
  /-- POP_MODE (R67). -/
  | popMode
  /-- OPEN_PROCEEDING (R130). -/
  | openProceeding
  /-- CLOSE_PROCEEDING (R131, R132). -/
  | closeProceeding
  /-- QUERY_STATUS (R175). -/
  | queryStatus
  /-- READ_FAULTS (R179). -/
  | readFaults
  /-- CLEAR_FAULTS (R179). -/
  | clearFaults
  /-- CLEAR_COUNTERS (R172). -/
  | clearCounters
  /-- ATTACH_TAP (R144). -/
  | attachTap
  /-- DETACH (R145). -/
  | detach
  /-- LINE_TEST (R149). -/
  | lineTest
  /-- SET_RECORD_TIME (R18). -/
  | setRecordTime
  /-- STANDBY (R138). -/
  | standby
  /-- SOFT_RESET (R141). -/
  | softReset
  /-- SET_CONTROLLER (R166). -/
  | setController
  deriving DecidableEq, Repr

end Sys2Proof
end

