-- ==== Sys2Proof/WellFormed.lean ====
section
/-! DEFINITION. Which commands are well formed: what can be said of a command from its operands alone. -/

namespace Sys2Proof

/-- A frame that arrives is at least the minimum Ethernet size and at most 1,522 bytes long, frame check sequence included: 14
bytes of addresses and EtherType and 4 of check leave 46 to 1,504 bytes (R154, R181). -/
def Frame.sizeOk (f : Frame) : Bool :=
  decide (46 ≤ f.body.length) && decide (f.body.length ≤ 1504)

/-- The kind code of the common header (section 12.1). -/
def Frame.kind (f : Frame) : Byte := f.body.getD 1 0

/-- Well-formed commands: an arriving frame has a legal size, and the frame of a row named after a kind carries that kind's
code (R154, section 12.1). -/
def Instr.wf : Instr → Bool
  | .loopedCopy _ f => f.sizeOk
  | .passThrough _ f => f.sizeOk
  | .misdirected _ f => f.sizeOk
  | .cadenceMark f _ => f.sizeOk && f.kind == 0x02#8
  | .stationAudio f => f.sizeOk && f.kind == 0x01#8
  | .credit f => f.sizeOk && f.kind == 0x18#8
  | .closeAck f => f.sizeOk && f.kind == 0x19#8
  | .request f => f.sizeOk && f.kind == 0x20#8
  | .powerOn => true
  | .supplyDip => true
  | .softResetFull => true
  | .softResetRuntime => true
  | .linkStateChange _ _ => true
  | .receiveError _ _ _ _ => true
  | .guardExpiry => true
  | .synthesisTimerExpiry => true
  | .silenceCountLimit _ => true
  | .tallyRefresh => true
  | .recorderStalled _ => true
  | .closeUnconfirmed _ => true
  | .lineTestEnd => true
  | .noticeHoldoffExpiry => true
  | .frameTransmitted _ => true
  | .standbyEntry => true
  | .unknownRequest => true
  | .readEntries => true
  | .readStationStatus => true
  | .writeEntries => true
  | .writeStation => true
  | .writeTrackMap => true
  | .writeDisposition => true
  | .writeTallyOverride => true
  | .writeStream => true
  | .writeDeviceConfig => true
  | .setMode => true
  | .pushMode => true
  | .popMode => true
  | .openProceeding => true
  | .closeProceeding => true
  | .queryStatus => true
  | .readFaults => true
  | .clearFaults => true
  | .clearCounters => true
  | .attachTap => true
  | .detach => true
  | .lineTest => true
  | .setRecordTime => true
  | .standby => true
  | .softReset => true
  | .setController => true

end Sys2Proof
end

