-- ==== Sys2Proof/Decode.lean ====
section
/-! DEFINITION. The command that a word spells by the table's bits.  No row of this part's table gives any bits (the part has no
register window and every exchange with it is a frame), so no word spells a command. -/

namespace Sys2Proof

/-- The command spelled by a table word: none, since no row of the table gives bits. -/
def decodeTableWord (_nbits _w : Nat) : Option Instr := none

end Sys2Proof
end

