-- ==== Sys2Proof/Machine/State.lean ====
section
/-! DEFINITION. The state of the part, block by block, the reasons a step can stop, and the state after a power-on reset. -/

namespace Sys2Proof.Machine

/-- Why the part stops with a fault.  The spec gives every command an effect, so no command raises a fault and the type has no
constructor. -/
inductive Fault where
  deriving DecidableEq, Repr

/-- Why the model answers no step. -/
inductive Refusal where
  /-- Raised by an arm of `exec` whose command has no meaning yet; safe. No arm of this model raises it. -/
  | notModelled (mnemonic : String)
  deriving DecidableEq, Repr

/-! ## Enumerated values -/

/-- Timebase states (section 1.2). -/
inductive TimebaseState where
  | search
  | locked
  | holdover
  deriving DecidableEq, Repr

/-- How a boundary was made (R3). -/
inductive BoundaryKind where
  | real
  | synthesised
  deriving DecidableEq, Repr

/-- Tracker modes (R19, R58). -/
inductive TrackerMode where
  | follow
  | hold
  | once
  deriving DecidableEq, Repr

/-- Station states (R22). -/
inductive StationState where
  | disabled
  | absent
  | acquire
  | track
  | coast
  | test
  deriving DecidableEq, Repr

/-- Court modes (R64). -/
inductive CourtMode where
  | onRecord
  | offRecord
  | sidebar
  | closedHearing
  | recess
  deriving DecidableEq, Repr

/-- Roles (R61). -/
inductive Role where
  | bench
  | witness
  | counsel1
  | counsel2
  | courtStaff
  | interpreter
  | juryBox
  | remote
  deriving DecidableEq, Repr

/-- Dispositions (R70): OPEN, SEALED, WITHHELD. -/
inductive Disposition where
  | openD
  | sealedD
  | withheldD
  deriving DecidableEq, Repr

/-- Lamp states (R75). -/
inductive Lamp where
  | off
  | red
  | amber
  | flash
  deriving DecidableEq, Repr

/-- Timebase quality of a block or run (R95). -/
inductive Quality where
  | locked
  | holdover
  deriving DecidableEq, Repr

/-- Entry causes (R96). -/
inductive EntryCause where
  | none
  | noStation
  | timing
  | lineTest
  deriving DecidableEq, Repr

/-- Segment kinds (section 6.3). -/
inductive SegKind where
  | audio
  | sealedK
  | withheldK
  | privileged
  | lost
  deriving DecidableEq, Repr

/-- Segment causes (section 6.3). -/
inductive SegCause where
  | none
  | mode
  | confer
  | forced
  | missing
  | overrun
  deriving DecidableEq, Repr

/-- Run causes (R107). -/
inductive RunCause where
  | withheld
  | outputStall
  deriving DecidableEq, Repr

/-- Proceeding states (R129). -/
inductive ProceedingState where
  | idle
  | armed
  | opened
  | draining
  | confirming
  deriving DecidableEq, Repr

/-- Close states of a stream (R129). -/
inductive CloseState where
  | none
  | waiting
  | closeSent
  | completed
  deriving DecidableEq, Repr

/-- Close outcomes of a stream (R129). -/
inductive CloseOutcome where
  | confirmed
  | sent
  | mismatch
  | unconfirmed
  deriving DecidableEq, Repr

/-- Reset causes (R141). -/
inductive ResetCause where
  | powerOn
  | supplyDip
  | softFull
  | softRuntime
  deriving DecidableEq, Repr

/-- Wake causes (R140). -/
inductive WakeCause where
  | frame (kind : Byte)
  | bench (station : Fin 16)
  deriving DecidableEq, Repr

/-- Port roles (R155). -/
inductive PortRole where
  | inlineRole
  | terminalRole
  deriving DecidableEq, Repr

/-- Line test results (R151). -/
inductive TestResult where
  | pass
  | fail
  | noResponse
  | aborted
  deriving DecidableEq, Repr

/-! ## Port Interface -/

/-- What follows the transmission of a REPLY: nothing, a soft reset (R141) or STANDBY entry (R138). -/
inductive AfterReply where
  | nothing
  | resetFull
  | resetRuntime
  | enterStandby
  deriving DecidableEq, Repr

/-- Which class of the arbiter a frame in transmission came from (R161, R162). -/
inductive TxOrigin where
  /-- A TALLY or TEST_COMMAND frame. -/
  | control
  /-- A MONITOR_AUDIO frame. -/
  | monitor
  /-- The head of the forwarding queue toward this port, still held in it (R159). -/
  | forwarded
  /-- A forwarded frame whose queue was emptied while it was in transmission (R155). -/
  | forwardedAlone
  | reply (after : AfterReply)
  | notice
  /-- A frame of the record being sent (R124). -/
  | record
  deriving DecidableEq, Repr

/-- A frame in transmission on a port. -/
structure InTransmission where
  origin : TxOrigin
  frame : Frame
  deriving DecidableEq, Repr

/-- A frame waiting in the port A control queue; `tally` tells TALLY from TEST_COMMAND (R161). -/
structure ControlFrame where
  tally : Bool
  frame : Frame
  deriving DecidableEq, Repr

/-- A frame waiting in the management transmit queue; a NOTICE has no `after` (R162). -/
structure ManagementFrame where
  notice : Bool
  after : AfterReply
  frame : Frame
  deriving DecidableEq, Repr

/-- The two turns of class 3 at port B (R162). -/
inductive Class3Turn where
  | record
  | passThrough
  deriving DecidableEq, Repr

/-- What the Port Interface keeps of one port (R154, R156, R158, R163). -/
structure PortStatus where
  linkUp : Bool
  receiveErrors : Nat
  loops : Nat
  misdirected : Nat
  malformed : Nat
  transmitting : Option InTransmission
  deriving DecidableEq, Repr

/-- The Port Interface (R154 to R164). -/
structure Ports where
  a : PortStatus
  b : PortStatus
  forwardAB : List Frame
  forwardBA : List Frame
  dropAB : Nat
  dropBA : Nat
  control : List ControlFrame
  tallyDrop : Nat
  management : List ManagementFrame
  /-- 7 replies have waited at once, and no reply has been transmitted since (log entry 50). -/
  repliesFull : Bool
  replyDrop : Nat
  turn : Class3Turn
  deriving DecidableEq, Repr

/-! ## Cadence Timebase -/

/-- One Mark History entry (R13). -/
structure MarkEntry where
  mark : MarkNo
  block : BlockNo
  deriving DecidableEq, Repr

/-- The record time (section 1.8): decimal fields and the half flag worth 5 ms. -/
structure RecordTime where
  hours : Nat
  minutes : Nat
  seconds : Nat
  hundredths : Nat
  half : Bool
  deriving DecidableEq, Repr

/-- The Cadence Timebase (R2 to R18). -/
structure Timebase where
  state : TimebaseState
  blockNumber : BlockNo
  expected : MarkNo
  /-- The last-boundary time L, or none. -/
  last : Option Tick
  /-- The instant at which the guard expires, while it runs. -/
  guardTimer : Option Tick
  /-- The instant at which the synthesis timer expires, while it runs. -/
  synthesisTimer : Option Tick
  candidateCount : Nat
  candidateMark : MarkNo
  candidateTime : Tick
  consecutive : Nat
  lastKind : BoundaryKind
  /-- Mark History, oldest entry first. -/
  history : List MarkEntry
  early : Nat
  relock : Nat
  jump : Nat
  recordTime : RecordTime
  presetHeld : Bool
  recordTimeFull : Bool
  deriving DecidableEq, Repr

/-! ## Tables -/

/-- One Station Table entry (R19). -/
structure StationEntry where
  address : Mac
  enabled : Bool
  channels : Nat
  windowOrder : Nat
  trackerMode : TrackerMode
  /-- The jitter window W, in samples. -/
  jitterWindow : Nat
  coastLimit : Nat
  jitterThreshold : Nat
  lateThreshold : Nat
  formatThreshold : Nat
  benchAuthority : Bool
  wakeEnable : Bool
  deriving DecidableEq, Repr

/-- One Track Map entry (R61); group 0 is none. -/
structure TrackEntry where
  mapped : Bool
  station : Fin 16
  channel : Fin 8
  role : Role
  group : Fin 9
  deriving DecidableEq, Repr

/-- One copy of the three staged tables (R72): the Disposition Table is five mode rows and the confer-permit row (R70). -/
structure Tables where
  stations : Vector StationEntry 16
  tracks : Vector TrackEntry 48
  dispositions : Vector (Vector Disposition 8) 5
  permit : Vector Bool 8
  deriving DecidableEq, Repr

/-- The active and shadow copies, whether a write is staged, and the map generation (R72 to R74). -/
structure TableSet where
  active : Tables
  shadow : Tables
  staged : Bool
  /-- The Station Table entries written since the last application (log entry 16). -/
  written : Vector Bool 16
  mapGeneration : BitVec 16
  deriving DecidableEq, Repr

/-! ## Stations -/

/-- Status of a boundary list entry (R43). -/
inductive BoundaryStatus where
  | pending
  | resolved (position : Counter)
  | void
  deriving DecidableEq, Repr

/-- One boundary list entry (R43). -/
structure BoundaryEntry where
  block : BlockNo
  status : BoundaryStatus
  deriving DecidableEq, Repr

/-- A station's tracker (R42). -/
structure Tracker where
  /-- E, in units of 1/65,536 sample, modulo 2^48. -/
  position : BitVec 48
  /-- R, in the same units per block. -/
  rate : Nat
  boundaries : List BoundaryEntry
  coastCount : Nat
  rateLimit : Bool
  lastD : Int
  peakD : Nat
  reanchor : Nat
  mode : TrackerMode
  deriving DecidableEq, Repr

/-- A frame held in a Receive Window (section 2.4): the counter of its first sample and its sample bytes. -/
structure HeldFrame where
  counter : Counter
  samples : List Byte
  deriving DecidableEq, Repr

/-- What the Station Receiver and the Boundary Tracker keep of one station (R22, R23, R35, R42). -/
structure Station where
  state : StationState
  /-- The Receive Window's frames in the order in which they were placed (log entry 24). -/
  window : List HeldFrame
  releasePoint : Option Counter
  evictedBelow : Option Counter
  newestSerial : Option Byte
  silence : Nat
  jitterCount : Nat
  lateCount : Nat
  formatCount : Nat
  evictCount : Nat
  tracker : Tracker
  deriving DecidableEq, Repr

/-! ## Mode Unit, Confer Unit, Tally Unit -/

/-- One entry of the mode latch list (R69). -/
structure LatchEntry where
  block : BlockNo
  mode : CourtMode
  deriving DecidableEq, Repr

/-- The Mode Unit (R64, R69). -/
structure ModeUnit where
  current : CourtMode
  /-- The Mode Stack, oldest saved mode first. -/
  stack : List CourtMode
  /-- The latch list, in block order. -/
  latch : List LatchEntry
  deriving DecidableEq, Repr

/-- One Toggle List entry (R79). -/
structure Toggle where
  down : Bool
  point : Counter
  late : Bool
  deriving DecidableEq, Repr

/-- One confer group (R79). -/
structure ConferGroup where
  engaged : Bool
  requested : Bool
  forced : Bool
  forcedPoint : Option Counter
  /-- The Toggle List, oldest first. -/
  toggles : List Toggle
  deriving DecidableEq, Repr

/-- The Tally Unit (R75 to R77); an override of `none` is NONE. -/
structure TallyUnit where
  lamps : Vector Lamp 48
  override : Vector (Option Lamp) 48
  refresh : Nat
  deriving DecidableEq, Repr

/-! ## Block Assembler and Record Output -/

/-- One entry of the kind list (R95). -/
structure KindEntry where
  block : BlockNo
  kind : BoundaryKind
  deriving DecidableEq, Repr

/-- The series of blocks that a WITHHELD run register or a stall run register holds (R105, R116). -/
structure RunRegister where
  mode : CourtMode
  mapGeneration : BitVec 16
  first : BlockNo
  last : BlockNo
  quality : Quality
  time : RecordTime
  deriving DecidableEq, Repr

/-- The Block Assembler (R91, R92, R95, R105, R111); the stream checks and sequences are kept with each stream. -/
structure Assembler where
  /-- The effective close delay D. -/
  closeDelay : Nat
  /-- The next block to close. -/
  next : Option BlockNo
  kinds : List KindEntry
  run : Option RunRegister
  folds : Nat
  deriving DecidableEq, Repr

/-- One segment of a track entry (section 6.3). -/
structure Segment where
  kind : SegKind
  cause : SegCause
  length : Nat
  deriving DecidableEq, Repr

/-- The summary fields of one track entry (R100). -/
structure SummaryItem where
  track : Fin 48
  n : Nat
  cause : EntryCause
  disposition : Disposition
  privileged : Bool
  lost : Bool
  folded : Bool
  deriving DecidableEq, Repr

/-- A block record (R101, R102): the summary's fields but for the stream sequence, and the payloads of its TRACK frames. -/
structure BlockRecord where
  proceeding : BitVec 64
  stream : Stream
  block : BlockNo
  mode : CourtMode
  quality : Quality
  time : RecordTime
  mapGeneration : BitVec 16
  first : Bool
  last : Bool
  lateConfer : Bool
  items : List SummaryItem
  tracks : List (List Byte)
  check : BitVec 32
  deriving DecidableEq, Repr

/-- A RUN record (R107) but for its stream sequence. -/
structure RunRecord where
  proceeding : BitVec 64
  stream : Stream
  cause : RunCause
  series : RunRegister
  check : BitVec 32
  deriving DecidableEq, Repr

/-- A record of a stream (R108); the fields of a CLOSE record are read when it is taken (R135). -/
inductive Record where
  | block (r : BlockRecord)
  | run (r : RunRecord)
  | close
  deriving DecidableEq, Repr

/-- A record in a stream's FIFO: stored in the Record Store, or handed without credit (R115, R124). -/
structure QueuedRecord where
  record : Record
  stored : Bool
  deriving DecidableEq, Repr

/-- One Stream Table entry (R113). -/
structure StreamEntry where
  enabled : Bool
  destination : Mac
  initialCredit : Nat
  stallLimit : Nat
  confirmLimit : Nat
  ackRequired : Bool
  deriving DecidableEq, Repr

/-- The figures of a stream's CLOSE record: record count and final stream check (R135). -/
structure CloseFigures where
  count : BitVec 32
  check : BitVec 32
  deriving DecidableEq, Repr

/-- What Record Output, the Block Assembler and Proceeding Control keep of one stream (R108, R109, R113 to R129). -/
structure StreamState where
  entry : StreamEntry
  takesPart : Bool
  credit : Nat
  /-- The stream's FIFO, oldest record first; the record being sent stays at its head (log entry 13). -/
  fifo : List QueuedRecord
  stallRun : Option RunRegister
  stallTimer : Option Nat
  /-- RECORDER_STALLED has been raised for the present stall. -/
  stallReported : Bool
  /-- The records held when the stall timer reached its limit (log entry 3). -/
  stallHeld : Nat
  stallCount : Nat
  stalledMark : Bool
  stalledCount : Nat
  ignoredCredit : Nat
  sequence : BitVec 32
  check : BitVec 32
  closeState : CloseState
  closeOutcome : Option CloseOutcome
  drainFailed : Bool
  confirmTimer : Option Nat
  /-- The figures of the CLOSE record, once it has been taken. -/
  closeFigures : Option CloseFigures
  deriving DecidableEq, Repr

/-- The record being sent: its stream and the frames not yet transmitted, the one offered or in transmission first (R124). -/
structure Sending where
  stream : Stream
  frames : List Frame
  deriving DecidableEq, Repr

/-- Record Output (R113 to R128). -/
structure RecordOutput where
  openS : StreamState
  sealedS : StreamState
  turn : Stream
  sending : Option Sending
  deriving DecidableEq, Repr

/-- Proceeding Control's own fields (R129). -/
structure Proceeding where
  state : ProceedingState
  id : BitVec 64
  first : Option BlockNo
  last : Option BlockNo
  deriving DecidableEq, Repr

/-! ## Tap/Test Engine -/

/-- The line-test checker (R150): the last 15 bits of the sequence, oldest in bit 14, and the expected counter. -/
structure Checker where
  generator : BitVec 15
  expected : Counter
  synchronised : Bool
  deriving DecidableEq, Repr

/-- A line test in progress (R144). -/
structure LineTest where
  station : Fin 16
  address : Mac
  duration : Nat
  elapsed : Nat
  /-- A frame has been handed to the checker. -/
  answered : Bool
  checker : Checker
  deriving DecidableEq, Repr

/-- The tap's attachment (R144). -/
structure Tap where
  track : Fin 48
  includeSealed : Bool
  port : Port
  destination : Mac
  deriving DecidableEq, Repr

/-- The engine is idle, or serves one job (R144). -/
inductive EngineState where
  | idle
  | tap (t : Tap)
  | test (t : LineTest)
  deriving DecidableEq, Repr

/-- The Tap/Test Engine (R144 to R153). -/
structure Engine where
  state : EngineState
  waiting : Option Frame
  meter : Nat
  monitorDrop : Nat
  bitsChecked : Nat
  bitErrors : Nat
  missingFrames : Nat
  result : Option TestResult
  deriving DecidableEq, Repr

/-! ## Management Unit and part -/

/-- The Device Configuration (R165). -/
structure DeviceConfig where
  ownAddress : Mac
  controller : Mac
  etherType : BitVec 16
  role : PortRole
  roomMaster : Mac
  closeDelay : Nat
  noticeMask : BitVec 20
  deriving DecidableEq, Repr

/-- A queued request: its source and the bytes after the EtherType (R168). -/
structure Request where
  source : Mac
  body : List Byte
  deriving DecidableEq, Repr

/-- The first occurrence of a Fault Log class (R178): the 6 subject bytes, the block number and up to 16 detail bytes. -/
structure Occurrence where
  subject : BitVec 48
  block : BlockNo
  detail : List Byte
  deriving DecidableEq, Repr

/-- One Fault Log class (R178). -/
structure FaultClass where
  first : Option Occurrence
  repeated : Bool
  deriving DecidableEq, Repr

/-- The Management Unit (R165 to R180) but for the Device Configuration and the reset cause. -/
structure Management where
  requests : List Request
  /-- What the head of the Request Queue waits for once a SOFT_RESET or STANDBY was answered (R169). -/
  armed : AfterReply
  flags : BitVec 20
  holdoff : Bool
  noticePending : Bool
  faults : Vector FaultClass 6
  rejected : Nat
  busy : Nat
  unknown : Nat
  deriving DecidableEq, Repr

/-- The part as a whole (R139, R140, R142, R143). -/
structure Part where
  awake : Bool
  wakeCause : Option WakeCause
  resetCause : ResetCause
  deriving DecidableEq, Repr

/-- The state of the part, and the commands that wait. -/
structure State where
  config : DeviceConfig
  part : Part
  ports : Ports
  timebase : Timebase
  stations : Vector Station 16
  tables : TableSet
  mode : ModeUnit
  groups : Vector ConferGroup 8
  tally : TallyUnit
  assembler : Assembler
  output : RecordOutput
  proceeding : Proceeding
  engine : Engine
  management : Management
  /-- The commands that wait, first in, first out; the model's own field. -/
  pending : List Instr
  deriving DecidableEq, Repr

/-! ## The state after a power-on reset -/

/-- The factory address: the spec gives no value (DESIGN CHOICE, log entry 4). -/
def factoryAddress : Mac := 0x4C4F52000001#48

/-- Reset value of a Station Table entry (R19). -/
def StationEntry.reset : StationEntry :=
  { address := 0, enabled := false, channels := 1, windowOrder := 6, trackerMode := .follow, jitterWindow := 3,
    coastLimit := 2000, jitterThreshold := 16, lateThreshold := 16, formatThreshold := 16, benchAuthority := false,
    wakeEnable := false }

/-- Reset value of a Track Map entry (R61). -/
def TrackEntry.reset : TrackEntry :=
  { mapped := false, station := 0, channel := 0, role := .bench, group := 0 }

/-- Reset contents of the Disposition Table's mode rows, ON_RECORD first and BENCH first in each row (R70). -/
def dispositionReset : Vector (Vector Disposition 8) 5 :=
  #v[Vector.replicate 8 .openD,
     Vector.replicate 8 .withheldD,
     #v[.sealedD, .withheldD, .sealedD, .sealedD, .sealedD, .withheldD, .withheldD, .withheldD],
     Vector.replicate 8 .sealedD,
     Vector.replicate 8 .withheldD]

/-- Reset contents of the confer-permit row (R70). -/
def permitReset : Vector Bool 8 := #v[false, false, true, true, false, false, false, false]

/-- Reset contents of the three staged tables. -/
def Tables.reset : Tables :=
  { stations := Vector.replicate 16 StationEntry.reset, tracks := Vector.replicate 48 TrackEntry.reset,
    dispositions := dispositionReset, permit := permitReset }

/-- Reset value of a tracker (R60). -/
def Tracker.reset : Tracker :=
  { position := 0, rate := 15728640, boundaries := [], coastCount := 0, rateLimit := false, lastD := 0, peakD := 0,
    reanchor := 0, mode := .follow }

/-- Reset value of a station whose entry is disabled (R41). -/
def Station.reset : Station :=
  { state := .disabled, window := [], releasePoint := none, evictedBelow := none, newestSerial := none, silence := 0,
    jitterCount := 0, lateCount := 0, formatCount := 0, evictCount := 0, tracker := Tracker.reset }

/-- The record time 00:00:00.00 with the half flag clear. -/
def RecordTime.zero : RecordTime := { hours := 0, minutes := 0, seconds := 0, hundredths := 0, half := false }

/-- Reset value of the Cadence Timebase (R16); the candidate's mark and time have none in the spec (log entry 8). -/
def Timebase.reset : Timebase :=
  { state := .search, blockNumber := 0, expected := 0, last := none, guardTimer := none, synthesisTimer := none,
    candidateCount := 0, candidateMark := 0, candidateTime := 0, consecutive := 0, lastKind := .real, history := [],
    early := 0, relock := 0, jump := 0, recordTime := RecordTime.zero, presetHeld := false, recordTimeFull := false }

/-- Reset value of a confer group (R90). -/
def ConferGroup.reset : ConferGroup :=
  { engaged := false, requested := false, forced := false, forcedPoint := none, toggles := [] }

/-- Reset value of a Stream Table entry (R113). -/
def StreamEntry.reset : StreamEntry :=
  { enabled := false, destination := 0, initialCredit := 16, stallLimit := 5, confirmLimit := 2, ackRequired := true }

/-- Reset value of a stream, given its Stream Table entry (R112, R128, R143). -/
def StreamState.resetWith (e : StreamEntry) : StreamState :=
  { entry := e, takesPart := false, credit := 0, fifo := [], stallRun := none, stallTimer := none, stallReported := false,
    stallHeld := 0, stallCount := 0, stalledMark := false, stalledCount := 0, ignoredCredit := 0, sequence := 0, check := 0xFFFFFFFF,
    closeState := .none, closeOutcome := none, drainFailed := false, confirmTimer := none, closeFigures := none }

/-- Reset value of the Tap/Test Engine (R153). -/
def Engine.reset : Engine :=
  { state := .idle, waiting := none, meter := 0, monitorDrop := 0, bitsChecked := 0, bitErrors := 0, missingFrames := 0,
    result := none }

/-- Reset value of the Device Configuration (R91, R155, R165), for a given factory address. -/
def DeviceConfig.resetWith (own : Mac) : DeviceConfig :=
  { ownAddress := own, controller := 0, etherType := 0x88B6, role := .inlineRole, roomMaster := 0, closeDelay := 2,
    noticeMask := 0xFFFFF }

/-- What a reset leaves of one port, given its link state (R164). -/
def PortStatus.resetWith (up : Bool) : PortStatus :=
  { linkUp := up, receiveErrors := 0, loops := 0, misdirected := 0, malformed := 0, transmitting := none }

/-- What a reset leaves of the Port Interface, given the two link states (R164). -/
def Ports.resetWith (upA upB : Bool) : Ports :=
  { a := PortStatus.resetWith upA, b := PortStatus.resetWith upB, forwardAB := [], forwardBA := [], dropAB := 0,
    dropBA := 0, control := [], tallyDrop := 0, management := [], repliesFull := false, replyDrop := 0,
    turn := .record }

/-- Reset value of the Management Unit's own state: RESET_DONE, bit 0, is the only flag set (R142, R180). -/
def Management.reset : Management :=
  { requests := [], armed := .nothing, flags := 1, holdoff := false, noticePending := false,
    faults := Vector.replicate 6 { first := none, repeated := false }, rejected := 0, busy := 0, unknown := 0 }

/-- The part right after a power-on reset, both links UP (log entry 5) and no command waiting. -/
def State.reset : State :=
  { config := DeviceConfig.resetWith factoryAddress
    part := { awake := true, wakeCause := none, resetCause := .powerOn }
    ports := Ports.resetWith true true
    timebase := Timebase.reset
    stations := Vector.replicate 16 Station.reset
    tables := { active := Tables.reset, shadow := Tables.reset, staged := false, written := Vector.replicate 16 false,
                mapGeneration := 0 }
    mode := { current := .recess, stack := [], latch := [] }
    groups := Vector.replicate 8 ConferGroup.reset
    tally := { lamps := Vector.replicate 48 .off, override := Vector.replicate 48 none, refresh := 0 }
    assembler := { closeDelay := 2, next := none, kinds := [], run := none, folds := 0 }
    output := { openS := StreamState.resetWith StreamEntry.reset, sealedS := StreamState.resetWith StreamEntry.reset,
                turn := .openS, sending := none }
    proceeding := { state := .idle, id := 0, first := none, last := none }
    engine := Engine.reset
    management := Management.reset
    pending := [] }

end Sys2Proof.Machine
end

