-- ==== Sys2Proof/Machine/Bytes.lean ====
section
/-! DEFINITION. Bytes, counters and checks: big-endian fields, signed counter differences, saturating counts, the CRC-32, and
updates of fixed tables by index. -/

namespace Sys2Proof.Machine

/-! ## Counters and counts -/

/-- The difference a − b of two 32-bit counters, read as a signed value (R1). -/
def counterDiff (a b : BitVec 32) : Int := (a - b).toInt

/-- Counter a lies before counter b (R1). -/
def isBefore (a b : BitVec 32) : Bool := decide (counterDiff a b < 0)

/-- Counter a lies at or before counter b (R1). -/
def isAtOrBefore (a b : BitVec 32) : Bool := decide (counterDiff a b ≤ 0)

/-- A count incremented by one that stays at its limit once there. -/
def satInc (limit n : Nat) : Nat := if n < limit then n + 1 else n

/-- A count that cannot pass its limit, increased by k. -/
def satAdd (limit n k : Nat) : Nat := if n + k ≤ limit then n + k else limit

/-- The counts of 16 bits saturate at 65,535. -/
def satInc16 (n : Nat) : Nat := satInc 65535 n

/-- The group bit: bit 0 of the first byte of a MAC address (R154). -/
def groupBit (m : Mac) : Bool := m.getLsbD 40

/-! ## Fixed tables -/

/-- Every entry of a fixed table replaced by its image. -/
def mapTable {α β : Type} {n : Nat} (f : α → β) (v : Vector α n) : Vector β n := Vector.ofFn fun i => f v[i]

/-- One entry of a fixed table changed. -/
def modifyAt {α : Type} {n : Nat} (v : Vector α n) (i : Fin n) (f : α → α) : Vector α n := v.set i (f v[i])

/-- Apply f for every index of a fixed table in ascending order. -/
def forEach {σ : Type} (n : Nat) (f : Fin n → σ → σ) (s : σ) : σ := (List.finRange n).foldl (fun t i => f i t) s

/-- An index below n, or none. -/
def finOf? (n k : Nat) : Option (Fin n) := if h : k < n then some ⟨k, h⟩ else none

/-! ## Big-endian fields -/

/-- The low k bytes of a number, most significant first. -/
def beBytes : Nat → Nat → List Byte
  | 0, _ => []
  | k + 1, n => BitVec.ofNat 8 (n / 256 ^ k) :: beBytes k n

/-- The number that bytes spell, most significant first. -/
def beNat (bs : List Byte) : Nat := bs.foldl (fun acc b => acc * 256 + b.toNat) 0

/-- The byte at an offset; a byte beyond the end reads as 0. -/
def byteAt (bs : List Byte) (off : Nat) : Byte := bs.getD off 0

/-- The k-byte field at an offset as a number. -/
def fieldAt (bs : List Byte) (off k : Nat) : Nat := beNat ((bs.drop off).take k)

/-- The 6-byte MAC address at an offset. -/
def macAt (bs : List Byte) (off : Nat) : Mac := BitVec.ofNat 48 (fieldAt bs off 6)

/-- The 4-byte counter at an offset. -/
def wordAt (bs : List Byte) (off : Nat) : BitVec 32 := BitVec.ofNat 32 (fieldAt bs off 4)

/-- The 6 bytes of a MAC address. -/
def macBytes (m : Mac) : List Byte := beBytes 6 m.toNat

/-- The 4 bytes of a 32-bit value. -/
def wordBytes (w : BitVec 32) : List Byte := beBytes 4 w.toNat

/-- The 2 bytes of a number below 65,536. -/
def half (n : Nat) : List Byte := beBytes 2 n

/-- One byte of a number below 256. -/
def byte (n : Nat) : List Byte := [BitVec.ofNat 8 n]

/-- The byte of a yes/no field (R181). -/
def yesNo (b : Bool) : List Byte := [if b then 1 else 0]

/-- A yes/no byte that holds 0 or 1 (R181). -/
def isYesNo (b : Byte) : Bool := b == 0 || b == 1

/-- k zero bytes. -/
def zeros (k : Nat) : List Byte := List.replicate k 0

/-- A number from 0 to 99 as two BCD digits (R181). -/
def bcdByte (n : Nat) : Byte := BitVec.ofNat 8 (n / 10 * 16 + n % 10)

/-- The number that two BCD digits spell, when both are digits (R18). -/
def bcdValue (b : Byte) : Option Nat :=
  if b.toNat / 16 ≤ 9 ∧ b.toNat % 16 ≤ 9 then some (b.toNat / 16 * 10 + b.toNat % 16) else none

/-! ## The CRC-32 (R187) -/

/-- The generator polynomial 04C11DB7h with its bits reflected, as a register that takes its input least significant bit first
divides by it. -/
def crcPolynomial : BitVec 32 := 0xEDB88320

/-- One bit shifted out of the register. -/
def crcShift (r : BitVec 32) : BitVec 32 := if r.getLsbD 0 then (r >>> 1) ^^^ crcPolynomial else r >>> 1

/-- The register after one byte, which enters least significant bit first. -/
def crcByte (r : BitVec 32) (b : Byte) : BitVec 32 :=
  crcShift (crcShift (crcShift (crcShift (crcShift (crcShift (crcShift (crcShift (r ^^^ b.setWidth 32))))))))

/-- The register run over bytes, without the final exclusive-OR (R109). -/
def crcRun (r : BitVec 32) (bs : List Byte) : BitVec 32 := bs.foldl crcByte r

/-- The CRC-32 of bytes (R187). -/
def crc32 (bs : List Byte) : BitVec 32 := crcRun 0xFFFFFFFF bs ^^^ 0xFFFFFFFF

end Sys2Proof.Machine
end

