-- ==== Sys2Proof/Machine/Limits.lean ====
section
/-! DEFINITION. The manual's fixed times and bounds. -/

namespace Sys2Proof.Machine

/-- SEARCH spacing window, in ticks (R5). -/
def searchSpacingLow : Tick := 120422
def searchSpacingHigh : Tick := 125338

/-- Early limit: below it an expected mark in LOCKED is early (R6). -/
def earlyLimit : Tick := 110592

/-- The guard, after L or a mark (R6, R7). -/
def guardTicks : Tick := 135168

/-- The synthesis spacing, also the nominal boundary spacing (R8). -/
def synthesisTicks : Tick := 122880

/-- Start of the re-lock window (R9). -/
def relockLow : Tick := 61440

/-- Consecutive real boundaries that return HOLDOVER to LOCKED (R9). -/
def relockCount : Nat := 3

/-- Mark History entries (R13). -/
def historySize : Nat := 16

/-- Silent boundaries that make a station ABSENT (R24). -/
def silenceLimit : Nat := 20

/-- Nominal R, and the ends of its clamp (R50). -/
def nominalRate : Nat := 15728640
def rateLow : Int := 15725440
def rateHigh : Int := 15731840

/-- Legal block lengths (R57). -/
def shortestBlock : Int := 232
def longestBlock : Int := 248

/-- Span beyond which a point is stale and a checker frame re-synchronises (R85, R88, R150). -/
def staleSpan : Int := 1048576

/-- Saved modes (R66). -/
def stackSize : Nat := 4

/-- Toggle List entries (R82). -/
def toggleListSize : Nat := 8

/-- Boundaries between two tally refreshes (R76). -/
def refreshPeriod : Nat := 200

/-- Boundaries in a second: the unit of stall and confirm limits (R125, R136). -/
def boundariesPerSecond : Nat := 200

/-- Blocks that a run may cover, and its block count field may show (R106, R117). -/
def runLimit : Nat := 12000

/-- Slots of the Record Store, and those that SEALED records may hold (R115). -/
def storeSlots : Nat := 2048
def sealedSlots : Nat := 1024

/-- Largest credit count (R121). -/
def creditLimit : Nat := 255

/-- Segments of a track entry (R99). -/
def segmentLimit : Nat := 16

/-- Forwarding queue and control queue places (R159, R161). -/
def forwardQueueSize : Nat := 64
def controlQueueSize : Nat := 64

/-- REPLY places of the management transmit queue (R162). -/
def replyPlaces : Nat := 7

/-- Request Queue places (R168). -/
def requestQueueSize : Nat := 4

/-- Boundaries after which a line test with no frame ends (R151), and the longest duration (R149). -/
def testSilence : Nat := 200
def testLongest : Nat := 12000

/-- Largest effective close delay (R38, R91). -/
def closeDelayMax : Nat := 8

/-- The largest 32-bit count (R150). -/
def count32Max : Nat := 4294967295

/-- Samples per channel of a station audio frame. -/
def frameSamples : Nat := 48

end Sys2Proof.Machine
end

