-- ==== Sys2Proof/Machine/Codes.lean ====
section
/-! DEFINITION. The codes of enumerated fields (R181, R183, R185): each as a number written, and as a code read. -/

namespace Sys2Proof.Machine

/-! ## Frame kinds (section 12.1) -/

def kindStationAudio : Byte := 0x01
def kindCadenceMark : Byte := 0x02
def kindTally : Byte := 0x03
def kindTestCommand : Byte := 0x04
def kindBlockSummary : Byte := 0x10
def kindTrack : Byte := 0x11
def kindRun : Byte := 0x12
def kindClose : Byte := 0x13
def kindCredit : Byte := 0x18
def kindCloseAck : Byte := 0x19
def kindMonitorAudio : Byte := 0x1A
def kindRequest : Byte := 0x20
def kindReply : Byte := 0x21
def kindNotice : Byte := 0x22

/-- The kinds of Frame and Record Formats (R158). -/
def knownKinds : List Byte :=
  [kindStationAudio, kindCadenceMark, kindTally, kindTestCommand, kindBlockSummary, kindTrack, kindRun, kindClose,
   kindCredit, kindCloseAck, kindMonitorAudio, kindRequest, kindReply, kindNotice]

/-! ## Enumerated fields -/

def CourtMode.code : CourtMode → Nat
  | .onRecord => 0
  | .offRecord => 1
  | .sidebar => 2
  | .closedHearing => 3
  | .recess => 4

def courtModeOf : Nat → Option CourtMode
  | 0 => some .onRecord
  | 1 => some .offRecord
  | 2 => some .sidebar
  | 3 => some .closedHearing
  | 4 => some .recess
  | _ => none

/-- The row of the Disposition Table of a mode (R70). -/
def CourtMode.row : CourtMode → Fin 5
  | .onRecord => 0
  | .offRecord => 1
  | .sidebar => 2
  | .closedHearing => 3
  | .recess => 4

/-- The column of the Disposition Table of a role, which is also its code (R70, R181). -/
def Role.column : Role → Fin 8
  | .bench => 0
  | .witness => 1
  | .counsel1 => 2
  | .counsel2 => 3
  | .courtStaff => 4
  | .interpreter => 5
  | .juryBox => 6
  | .remote => 7

def roleOf : Nat → Option Role
  | 0 => some .bench
  | 1 => some .witness
  | 2 => some .counsel1
  | 3 => some .counsel2
  | 4 => some .courtStaff
  | 5 => some .interpreter
  | 6 => some .juryBox
  | 7 => some .remote
  | _ => none

def Disposition.code : Disposition → Nat
  | .openD => 0
  | .sealedD => 1
  | .withheldD => 2

def dispositionOf : Nat → Option Disposition
  | 0 => some .openD
  | 1 => some .sealedD
  | 2 => some .withheldD
  | _ => none

def streamCode : Stream → Nat
  | .openS => 0
  | .sealedS => 1

def streamOf : Nat → Option Stream
  | 0 => some .openS
  | 1 => some .sealedS
  | _ => none

def Quality.code : Quality → Nat
  | .locked => 0
  | .holdover => 1

def EntryCause.code : EntryCause → Nat
  | .none => 0
  | .noStation => 1
  | .timing => 2
  | .lineTest => 3

def Lamp.code : Lamp → Nat
  | .off => 0
  | .red => 1
  | .amber => 2
  | .flash => 3

/-- A code of the Tally Override: FFh is NONE, any other a lamp code; the outer option is the out-of-range case (R77). -/
def overrideOf : Nat → Option (Option Lamp)
  | 0 => some (some .off)
  | 1 => some (some .red)
  | 2 => some (some .amber)
  | 3 => some (some .flash)
  | 255 => some none
  | _ => none

def TrackerMode.code : TrackerMode → Nat
  | .follow => 0
  | .hold => 1
  | .once => 2

def trackerModeOf : Nat → Option TrackerMode
  | 0 => some .follow
  | 1 => some .hold
  | 2 => some .once
  | _ => none

def StationState.code : StationState → Nat
  | .disabled => 0
  | .absent => 1
  | .acquire => 2
  | .track => 3
  | .coast => 4
  | .test => 5

def SegKind.code : SegKind → Nat
  | .audio => 1
  | .sealedK => 2
  | .withheldK => 3
  | .privileged => 4
  | .lost => 5

def SegCause.code : SegCause → Nat
  | .none => 0
  | .mode => 1
  | .confer => 2
  | .forced => 3
  | .missing => 4
  | .overrun => 5

def RunCause.code : RunCause → Nat
  | .withheld => 0
  | .outputStall => 1

def ProceedingState.code : ProceedingState → Nat
  | .idle => 0
  | .armed => 1
  | .opened => 2
  | .draining => 3
  | .confirming => 4

def CloseState.code : CloseState → Nat
  | .none => 0
  | .waiting => 1
  | .closeSent => 2
  | .completed => 3

def CloseOutcome.code : CloseOutcome → Nat
  | .confirmed => 0
  | .sent => 1
  | .mismatch => 2
  | .unconfirmed => 3

def ResetCause.code : ResetCause → Nat
  | .powerOn => 0
  | .supplyDip => 1
  | .softFull => 2
  | .softRuntime => 3

def TimebaseState.code : TimebaseState → Nat
  | .search => 0
  | .locked => 1
  | .holdover => 2

def BoundaryKind.code : BoundaryKind → Nat
  | .real => 0
  | .synthesised => 1

def PortRole.code : PortRole → Nat
  | .inlineRole => 0
  | .terminalRole => 1

def portRoleOf : Nat → Option PortRole
  | 0 => some .inlineRole
  | 1 => some .terminalRole
  | _ => none

def portCode : Port → Nat
  | .A => 0
  | .B => 1

def portOf : Nat → Option Port
  | 0 => some .A
  | 1 => some .B
  | _ => none

def TestResult.code : TestResult → Nat
  | .pass => 0
  | .fail => 1
  | .noResponse => 2
  | .aborted => 3

def Class3Turn.code : Class3Turn → Nat
  | .record => 0
  | .passThrough => 1

/-! ## Result codes of a REPLY (R185) -/

inductive ResultCode where
  | ok
  | staged
  | busy
  | state
  | range
  | groupSpan
  | unreadable
  | access
  | unknown
  deriving DecidableEq, Repr

def ResultCode.code : ResultCode → Nat
  | .ok => 0
  | .staged => 1
  | .busy => 2
  | .state => 3
  | .range => 4
  | .groupSpan => 5
  | .unreadable => 6
  | .access => 7
  | .unknown => 8

/-! ## The record time (R181) -/

/-- The 5 bytes of a record time. -/
def RecordTime.bytes (t : RecordTime) : List Byte :=
  [bcdByte t.hours, bcdByte t.minutes, bcdByte t.seconds, bcdByte t.hundredths] ++ yesNo t.half

/-- The record time that 5 bytes spell, or none when a digit, the minutes, the seconds or the half byte is out of range
(R18, R181). -/
def recordTimeOf (bs : List Byte) : Option RecordTime :=
  match bcdValue (byteAt bs 0), bcdValue (byteAt bs 1), bcdValue (byteAt bs 2), bcdValue (byteAt bs 3) with
  | some h, some m, some s, some c =>
    if m ≤ 59 ∧ s ≤ 59 ∧ isYesNo (byteAt bs 4) = true then
      some { hours := h, minutes := m, seconds := s, hundredths := c, half := byteAt bs 4 == 1 }
    else none
  | _, _, _, _ => none

/-- A record time advanced by 5 ms, or none at 99:59:59.99 with the half flag set (R17). -/
def RecordTime.advance (t : RecordTime) : Option RecordTime :=
  if t.half = false then some { t with half := true }
  else if t.hundredths < 99 then some { t with half := false, hundredths := t.hundredths + 1 }
  else if t.seconds < 59 then some { t with half := false, hundredths := 0, seconds := t.seconds + 1 }
  else if t.minutes < 59 then some { t with half := false, hundredths := 0, seconds := 0, minutes := t.minutes + 1 }
  else if t.hours < 99 then
    some { half := false, hundredths := 0, seconds := 0, minutes := 0, hours := t.hours + 1 }
  else none

end Sys2Proof.Machine
end

