-- ==== Sys2Proof/Machine/Ops.lean ====
section
/-! DEFINITION. The named operations over the state that every block uses: access to ports, stations and streams, building a
frame, the queues toward the ports, and the Fault Log. -/

namespace Sys2Proof.Machine

/-! ## Access -/

/-- One port's status. -/
def State.port (s : State) : Port → PortStatus
  | .A => s.ports.a
  | .B => s.ports.b

/-- One port's status changed. -/
def modPort (p : Port) (f : PortStatus → PortStatus) (s : State) : State :=
  match p with
  | .A => { s with ports := { s.ports with a := f s.ports.a } }
  | .B => { s with ports := { s.ports with b := f s.ports.b } }

/-- One station's reception state changed. -/
def modStation (i : Fin 16) (f : Station → Station) (s : State) : State :=
  { s with stations := modifyAt s.stations i f }

/-- One station's tracker changed. -/
def modTracker (i : Fin 16) (f : Tracker → Tracker) (s : State) : State :=
  modStation i (fun x => { x with tracker := f x.tracker }) s

/-- One confer group changed. -/
def modGroup (g : Fin 8) (f : ConferGroup → ConferGroup) (s : State) : State :=
  { s with groups := modifyAt s.groups g f }

/-- One stream's state. -/
def RecordOutput.stream (o : RecordOutput) : Stream → StreamState
  | .openS => o.openS
  | .sealedS => o.sealedS

/-- One stream's state. -/
def State.stream (s : State) (st : Stream) : StreamState := s.output.stream st

/-- One stream's state changed. -/
def modStream (st : Stream) (f : StreamState → StreamState) (s : State) : State :=
  match st with
  | .openS => { s with output := { s.output with openS := f s.output.openS } }
  | .sealedS => { s with output := { s.output with sealedS := f s.output.sealedS } }

/-- The other stream. -/
def otherStream : Stream → Stream
  | .openS => .sealedS
  | .sealedS => .openS

/-- The active Station Table entry of a station. -/
def State.entry (s : State) (i : Fin 16) : StationEntry := s.tables.active.stations[i]

/-- The timebase produces boundaries in LOCKED and HOLDOVER (R3). -/
def State.producing (s : State) : Bool := s.timebase.state != .search

/-- The proceeding is OPEN or DRAINING. -/
def State.recording (s : State) : Bool :=
  s.proceeding.state == .opened || s.proceeding.state == .draining

/-! ## Building frames (R160, R181) -/

/-- The bytes after the EtherType of a frame the part builds: the common header, the payload, and zero padding up to the 46
bytes that an Ethernet frame requires there (R181). -/
def lrtBody (kind : Byte) (payload : List Byte) : List Byte :=
  let bytes := [1, kind] ++ half payload.length ++ zeros 4 ++ payload
  bytes ++ zeros (46 - bytes.length)

/-- A frame that the part builds: its own address as source and the EtherType in force (R155, R160). -/
def ownFrame (s : State) (dst : Mac) (kind : Byte) (payload : List Byte) : Frame :=
  { dst := dst, src := s.config.ownAddress, etherType := s.config.etherType, body := lrtBody kind payload }

/-- The first 16 bytes of a frame, from its destination address on (log entry 20). -/
def frameStart (f : Frame) : List Byte := macBytes f.dst ++ macBytes f.src ++ half f.etherType.toNat ++ f.body.take 2

/-! ## Queues toward the ports -/

/-- A TALLY frame offered to the control queue: discarded and counted when the queue holds 64 frames (R161). -/
def queueTally (f : Frame) (s : State) : State :=
  if s.ports.control.length < controlQueueSize then
    { s with ports := { s.ports with control := s.ports.control ++ [{ tally := true, frame := f }] } }
  else
    { s with ports := { s.ports with tallyDrop := satInc16 s.ports.tallyDrop } }

/-- The control queue without its newest TALLY frame. -/
def dropNewestTally (q : List ControlFrame) : List ControlFrame := (q.reverse.eraseP (·.tally)).reverse

/-- A TEST_COMMAND is placed in the control queue even when it is full: the newest TALLY frame makes room and is counted, or,
where there is none, the oldest TEST_COMMAND (R161). -/
def queueTestCommand (f : Frame) (s : State) : State :=
  let c : ControlFrame := { tally := false, frame := f }
  if s.ports.control.length < controlQueueSize then
    { s with ports := { s.ports with control := s.ports.control ++ [c] } }
  else if s.ports.control.any (·.tally) then
    { s with ports := { s.ports with control := dropNewestTally s.ports.control ++ [c],
                                     tallyDrop := satInc16 s.ports.tallyDrop } }
  else
    { s with ports := { s.ports with control := s.ports.control.drop 1 ++ [c] } }

/-- The REPLY frames that wait in the management transmit queue. -/
def repliesWaiting (s : State) : Nat := (s.ports.management.filter (fun m => !m.notice)).length

/-- A REPLY placed in the management transmit queue (R162); the seventh to wait holds back the service of requests (log entry
50). -/
def queueReply (after : AfterReply) (f : Frame) (s : State) : State :=
  { s with ports := { s.ports with
      management := s.ports.management ++ [{ notice := false, after := after, frame := f }],
      repliesFull := s.ports.repliesFull || decide (replyPlaces ≤ repliesWaiting s + 1) } }

/-- A NOTICE placed in the management transmit queue, where it replaces one that still waits, in its place (R162). -/
def queueNotice (f : Frame) (s : State) : State :=
  let m : ManagementFrame := { notice := true, after := .nothing, frame := f }
  if s.ports.management.any (·.notice) then
    { s with ports := { s.ports with
        management := s.ports.management.map (fun x => if x.notice then m else x) } }
  else
    { s with ports := { s.ports with management := s.ports.management ++ [m] } }

/-- A frame that classification forwards from the given port: appended to the queue of its direction in INLINE, or dropped and
counted when that queue holds 64 frames; discarded in TERMINAL (R159). -/
def forwardFrom (p : Port) (f : Frame) (s : State) : State :=
  match s.config.role with
  | .terminalRole => s
  | .inlineRole =>
    match p with
    | .A =>
      if s.ports.forwardAB.length < forwardQueueSize then
        { s with ports := { s.ports with forwardAB := s.ports.forwardAB ++ [f] } }
      else { s with ports := { s.ports with dropAB := satInc16 s.ports.dropAB } }
    | .B =>
      if s.ports.forwardBA.length < forwardQueueSize then
        { s with ports := { s.ports with forwardBA := s.ports.forwardBA ++ [f] } }
      else { s with ports := { s.ports with dropBA := satInc16 s.ports.dropBA } }

/-! ## The Fault Log (R178) -/

/-- The six classes in the order of their entries. -/
def faultFrameFormat : Fin 6 := 0
def faultUnknownStation : Fin 6 := 1
def faultTiming : Fin 6 := 2
def faultOutput : Fin 6 := 3
def faultClose : Fin 6 := 4
def faultManagement : Fin 6 := 5

/-- An occurrence recorded in a class: the first occurrence when the class is empty, REPEATED when it is not (R178). -/
def FaultClass.record (o : Occurrence) (c : FaultClass) : FaultClass :=
  match c.first with
  | none => { c with first := some o }
  | some _ => { c with repeated := true }

/-- An occurrence written to a class of the Fault Log. -/
def logFault (k : Fin 6) (o : Occurrence) (s : State) : State :=
  { s with management := { s.management with faults := modifyAt s.management.faults k (FaultClass.record o) } }

end Sys2Proof.Machine
end

