-- ==== Sys2Proof/Machine/Flags.lean ====
section
/-! DEFINITION. The event flags and notices of the Management Unit (R173 to R177). -/

namespace Sys2Proof.Machine

/-- The event flags in the order of R173; the i-th is bit i of a flag set (R181). -/
inductive EventFlag where
  | resetDone
  | timebaseHoldover
  | timebaseLocked
  | timebaseJump
  | stationState
  | stationThreshold
  | unknownStation
  | modeChanged
  | modeStackOverflow
  | conferForced
  | timingFault
  | outputStall
  | recorderStalled
  | proceedingState
  | closeFailed
  | tableApplied
  | testDone
  | tapClip
  | woken
  | recordTimeFull
  deriving DecidableEq, Repr

/-- A flag's bit in a flag set (R181). -/
def EventFlag.bit : EventFlag → Nat
  | .resetDone => 0
  | .timebaseHoldover => 1
  | .timebaseLocked => 2
  | .timebaseJump => 3
  | .stationState => 4
  | .stationThreshold => 5
  | .unknownStation => 6
  | .modeChanged => 7
  | .modeStackOverflow => 8
  | .conferForced => 9
  | .timingFault => 10
  | .outputStall => 11
  | .recorderStalled => 12
  | .proceedingState => 13
  | .closeFailed => 14
  | .tableApplied => 15
  | .testDone => 16
  | .tapClip => 17
  | .woken => 18
  | .recordTimeFull => 19

/-- The flag set that holds one flag alone. -/
def EventFlag.mask (f : EventFlag) : BitVec 20 := (1 : BitVec 20) <<< f.bit

/-- A flag is set. -/
def flagSet (s : State) (f : EventFlag) : Bool := s.management.flags.getLsbD f.bit

/-- The payload of a NOTICE: the flag set, the reset cause, the proceeding state and the block number (R176, R185). -/
def noticePayload (s : State) : List Byte :=
  beBytes 4 s.management.flags.toNat ++ byte s.part.resetCause.code ++ byte s.proceeding.state.code ++ zeros 2
    ++ wordBytes s.timebase.blockNumber

/-- A NOTICE built to the Controller Address as it stands, and the holdoff timer started (R142, R176). -/
def buildNotice (s : State) : State :=
  let t := queueNotice (ownFrame s s.config.controller kindNotice (noticePayload s)) s
  { t with management := { t.management with holdoff := true } }

/-- What the change of a flag from clear to set does: a NOTICE when its mask entry is yes, the Controller Address is nonzero and
the holdoff timer is stopped; the pending mark when the timer runs (R176, R177). -/
def noticeRise (f : EventFlag) (s : State) : State :=
  if s.config.controller = 0 ∨ s.config.noticeMask.getLsbD f.bit = false then s
  else if s.management.holdoff then { s with management := { s.management with noticePending := true } }
  else buildNotice s

/-- Raising a flag sets it; a raise of a flag already set is not a change (R173). -/
def raise (f : EventFlag) (s : State) : State :=
  if flagSet s f then s
  else noticeRise f { s with management := { s.management with flags := s.management.flags ||| f.mask } }

/-- The notice holdoff timer expires; the Controller Address is judged as it stands then (R176, R177; log entry 49). -/
def endHoldoff (s : State) : State :=
  let due := s.management.noticePending && (s.config.controller != 0)
    && (s.management.flags &&& s.config.noticeMask != 0)
  let t := { s with management := { s.management with holdoff := false, noticePending := false } }
  if due then buildNotice t else t

end Sys2Proof.Machine
end

