-- ==== Sys2Proof/Machine/Operands.lean ====
section
/-! DEFINITION. What the part reads from an arriving frame: the common header, the classification of R156 and R157, the fields of
each kind, and the parameters of a request. -/

namespace Sys2Proof.Machine

/-! ## The common header (section 12.1) -/

/-- The kind code. -/
def bodyKind (body : List Byte) : Byte := byteAt body 1

/-- The payload: every byte after the 8-byte common header, padding included. -/
def payloadOf (body : List Byte) : List Byte := body.drop 8

/-- The length field. -/
def headerLength (body : List Byte) : Nat := fieldAt body 2 2

/-- The header carries version 1 and zero in its reserved fields. -/
def headerPlain (body : List Byte) : Bool :=
  decide (8 ≤ body.length) && byteAt body 0 == 1 && (body.drop 4).take 4 == zeros 4

/-- A payload of the stated length was received: at least that many bytes, and bytes beyond it only as the padding of a frame at
the minimum Ethernet size, which has 46 bytes after the EtherType (R158, R186). -/
def lengthFits (body : List Byte) (len : Nat) : Bool :=
  decide (body.length = 8 + len) || (decide (body.length = 46) && decide (8 + len ≤ 46))

/-- A header well-formed for a kind of fixed length (R158). -/
def wellFormed (body : List Byte) (len : Nat) : Bool :=
  headerPlain body && decide (headerLength body = len) && lengthFits body len

/-! ## Classification (R154 to R158) -/

/-- The rows of R156 and R157, with the looped copy of R154 before them. -/
inductive ArrivalClass where
  | looped
  | passThrough
  | stationAudio
  | cadenceMark
  | request
  | credit
  | closeAck
  | misdirected
  deriving DecidableEq, Repr

/-- A frame of legal size can arrive on a port whose link is UP (R154, R163). -/
def canArrive (s : State) (p : Port) (f : Frame) : Bool :=
  (s.port p).linkUp && decide (46 ≤ f.body.length) && decide (f.body.length ≤ 1504)

/-- An LRT frame carries the EtherType in force (R154). -/
def isLrt (s : State) (f : Frame) : Bool := f.etherType == s.config.etherType

/-- An LRT frame on port A (R156). -/
def classifyA (s : State) (f : Frame) : ArrivalClass :=
  if bodyKind f.body = kindStationAudio then .stationAudio
  else if bodyKind f.body = kindCadenceMark then .cadenceMark
  else if f.dst = s.config.ownAddress then .misdirected
  else .passThrough

/-- An LRT frame on port B (R157). -/
def classifyB (s : State) (f : Frame) : ArrivalClass :=
  if f.dst ≠ s.config.ownAddress then .passThrough
  else if bodyKind f.body = kindRequest then .request
  else if bodyKind f.body = kindCredit then .credit
  else if bodyKind f.body = kindCloseAck then .closeAck
  else .misdirected

/-- The class of a frame that arrives (R154, R156, R157). -/
def classify (s : State) (p : Port) (f : Frame) : ArrivalClass :=
  if f.src = s.config.ownAddress then .looped
  else if isLrt s f = false then .passThrough
  else match p with
    | .A => classifyA s f
    | .B => classifyB s f

/-- A frame arrives on a port and falls in a class. -/
def arrivesAs (s : State) (p : Port) (f : Frame) (c : ArrivalClass) : Bool :=
  canArrive s p f && classify s p f == c

/-- A received frame that does not arrive: not received whole, of an illegal size, or with a frame check sequence that is not the
CRC-32 over its bytes (R154).  The bytes run from the destination address to the last byte before the check; with the check's
4 bytes they make 64 to 1,522 (log entry 9). -/
def receptionFails (whole : Bool) (bytes : List Byte) (fcs : BitVec 32) : Bool :=
  !whole || decide (bytes.length + 4 < 64) || decide (1522 < bytes.length + 4) || fcs != crc32 bytes

/-! ## STATION_AUDIO (R182) -/

/-- A button event as carried: code, channel, serial and sample counter. -/
structure ButtonEvent where
  code : Byte
  channel : Byte
  serial : Byte
  counter : Counter
  deriving DecidableEq, Repr

def audioChannels (body : List Byte) : Nat := (byteAt (payloadOf body) 0).toNat
def audioPattern (body : List Byte) : Bool := (byteAt (payloadOf body) 1).getLsbD 0
def audioEventCount (body : List Byte) : Nat := (byteAt (payloadOf body) 2).toNat
def audioCounter (body : List Byte) : Counter := wordAt (payloadOf body) 4
def audioMark (body : List Byte) : MarkNo := wordAt (payloadOf body) 8
def audioMarkCounter (body : List Byte) : Counter := wordAt (payloadOf body) 12

/-- The event at an offset of the payload. -/
def eventAt (payload : List Byte) (off : Nat) : ButtonEvent :=
  { code := byteAt payload off, channel := byteAt payload (off + 1), serial := byteAt payload (off + 2),
    counter := wordAt payload (off + 4) }

/-- The events in the order the frame carries them. -/
def audioEvents (body : List Byte) : List ButtonEvent :=
  (List.range (audioEventCount body)).map (fun e => eventAt (payloadOf body) (16 + 8 * e))

/-- The sample bytes. -/
def audioSamples (body : List Byte) : List Byte := (payloadOf body).drop (16 + 8 * audioEventCount body)

/-! ## Requests (R185, R186) -/

/-- The eight tables (section 11.3). -/
inductive TableCode where
  | station
  | trackMap
  | disposition
  | tallyOverride
  | stream
  | deviceConfig
  | stationStatus
  | faultLog
  deriving DecidableEq, Repr

def tableOf : Nat → Option TableCode
  | 0 => some .station
  | 1 => some .trackMap
  | 2 => some .disposition
  | 3 => some .tallyOverride
  | 4 => some .stream
  | 5 => some .deviceConfig
  | 6 => some .stationStatus
  | 7 => some .faultLog
  | _ => none

/-- Entries of each table (section 11.3). -/
def TableCode.entries : TableCode → Nat
  | .station => 16
  | .trackMap => 48
  | .disposition => 6
  | .tallyOverride => 48
  | .stream => 2
  | .deviceConfig => 1
  | .stationStatus => 16
  | .faultLog => 6

/-- Entry size of each table in bytes (R185). -/
def TableCode.entrySize : TableCode → Nat
  | .station => 20
  | .trackMap => 8
  | .disposition => 8
  | .tallyOverride => 1
  | .stream => 12
  | .deviceConfig => 28
  | .stationStatus => 36
  | .faultLog => 28

/-- What a queued request asks for: one value per row of the table that serves requests (R169, section 11.2). -/
inductive RequestKind where
  | unknownRequest
  | readEntries
  | readStationStatus
  | writeEntries
  | writeStation
  | writeTrackMap
  | writeDisposition
  | writeTallyOverride
  | writeStream
  | writeDeviceConfig
  | setMode
  | pushMode
  | popMode
  | openProceeding
  | closeProceeding
  | queryStatus
  | readFaults
  | clearFaults
  | clearCounters
  | attachTap
  | detach
  | lineTest
  | setRecordTime
  | standby
  | softReset
  | setController
  deriving DecidableEq, Repr

/-- Tag, request code and table code of a request, in its payload. -/
def requestCode (body : List Byte) : Nat := (byteAt (payloadOf body) 2).toNat
def requestTable (body : List Byte) : Nat := (byteAt (payloadOf body) 4).toNat
def requestFirst (body : List Byte) : Nat := (byteAt (payloadOf body) 5).toNat
def requestCount (body : List Byte) : Nat := (byteAt (payloadOf body) 6).toNat

/-- The length that the header check requires of a request: for WRITE_ENTRIES of a known table, 8 and its entries; for one of an
unknown table, any length of at least 8; none for an unknown code (R185, R186). -/
def requestLengthOk (body : List Byte) : Bool :=
  let len := headerLength body
  match requestCode body with
  | 0x02 =>
    match tableOf (requestTable body) with
    | some t => decide (len = 8 + requestCount body * t.entrySize)
    | none => decide (8 ≤ len)
  | 0x05 | 0x07 | 0x08 | 0x09 | 0x0D | 0x10 => decide (len = 4)
  | 0x01 | 0x03 | 0x04 | 0x0A | 0x0B | 0x0E | 0x11 => decide (len = 8)
  | 0x06 | 0x0F | 0x12 => decide (len = 12)
  | 0x0C => decide (len = 16)
  | _ => false

/-- The row of a WRITE_ENTRIES request, by its table code. -/
def writeKind (table : Nat) : RequestKind :=
  match tableOf table with
  | some .station => .writeStation
  | some .trackMap => .writeTrackMap
  | some .disposition => .writeDisposition
  | some .tallyOverride => .writeTallyOverride
  | some .stream => .writeStream
  | some .deviceConfig => .writeDeviceConfig
  | some .stationStatus => .writeEntries
  | some .faultLog => .writeEntries
  | none => .writeEntries

/-- The row of a request with a good header. -/
def goodKind (body : List Byte) : RequestKind :=
  match requestCode body with
  | 0x01 => if tableOf (requestTable body) = some .stationStatus then .readStationStatus else .readEntries
  | 0x02 => writeKind (requestTable body)
  | 0x03 => .setMode
  | 0x04 => .pushMode
  | 0x05 => .popMode
  | 0x06 => .openProceeding
  | 0x07 => .closeProceeding
  | 0x08 => .queryStatus
  | 0x09 => .readFaults
  | 0x0A => .clearFaults
  | 0x0B => .clearCounters
  | 0x0C => .attachTap
  | 0x0D => .detach
  | 0x0E => .lineTest
  | 0x0F => .setRecordTime
  | 0x10 => .standby
  | 0x11 => .softReset
  | 0x12 => .setController
  | _ => .unknownRequest

/-- The row that serves a queued request: UNKNOWN_REQUEST when its header is malformed or its code unknown (R169, R186). -/
def requestKind (body : List Byte) : RequestKind :=
  if headerPlain body && requestLengthOk body && lengthFits body (headerLength body) then goodKind body
  else .unknownRequest

/-- The two tag bytes and the request code that a reply copies from a request's payload, whose length is that of the length field,
padding not counted (R181, R186). -/
def requestEcho (body : List Byte) : List Byte :=
  let p := (payloadOf body).take (headerLength body)
  (if 2 ≤ p.length then p.take 2 else zeros 2) ++ (if 3 ≤ p.length then [byteAt p 2] else zeros 1)

end Sys2Proof.Machine
end

