-- ==== Sys2Proof/Machine/Stations.lean ====
section
/-! DEFINITION. Station states: what entry into each state does (R22 to R24, R54), the flush of confer groups that goes with it
(R89), and the error counts with their thresholds (R35 to R39). -/

namespace Sys2Proof.Machine

/-! ## Confer groups and their stations (R79, R89) -/

/-- The station of a group: the station that its mapped tracks name, or none (R79). Group 0 here is group 1 of the manual. -/
def groupStation (t : Tables) (g : Fin 8) : Option (Fin 16) :=
  (t.tracks.toList.find? (fun e => e.mapped && e.group.val == g.val + 1)).map (·.station)

/-- A flushed group (R89). -/
def ConferGroup.flush (c : ConferGroup) : ConferGroup :=
  { c with toggles := [], forced := false, forcedPoint := none, engaged := c.requested }

/-- Every group of a station is flushed (R89). -/
def flushStation (i : Fin 16) (s : State) : State :=
  { s with groups := Vector.ofFn fun g =>
      if groupStation s.tables.active g = some i then s.groups[g].flush else s.groups[g] }

/-- Every group is flushed (R89, R137). -/
def flushAll (s : State) : State := { s with groups := mapTable ConferGroup.flush s.groups }

/-- The groups whose station differs between two table copies are flushed (R89). -/
def flushMoved (before after : Tables) (s : State) : State :=
  { s with groups := Vector.ofFn fun g =>
      if groupStation before g = groupStation after g then s.groups[g] else s.groups[g].flush }

/-! ## Station states -/

/-- A tracker runs in ACQUIRE, TRACK and COAST (R42). -/
def StationState.running : StationState → Bool
  | .acquire => true
  | .track => true
  | .coast => true
  | .disabled => false
  | .absent => false
  | .test => false

/-- A station is timed in TRACK and COAST. -/
def StationState.timed : StationState → Bool
  | .track => true
  | .coast => true
  | .acquire => false
  | .disabled => false
  | .absent => false
  | .test => false

/-- An entry is ORDER_INVALID: enabled with a window order outside 4 to 7 (R19). -/
def StationEntry.orderInvalid (e : StationEntry) : Bool :=
  e.enabled && !(decide (4 ≤ e.windowOrder) && decide (e.windowOrder ≤ 7))

/-- An entry is enabled and valid. -/
def StationEntry.valid (e : StationEntry) : Bool := e.enabled && !e.orderInvalid

/-- A change of station state raises STATION_STATE (R22). -/
def setStationState (i : Fin 16) (x : StationState) (s : State) : State :=
  if s.stations[i].state = x then s
  else raise .stationState (modStation i (fun st => { st with state := x }) s)

/-- A stopped tracker: an empty boundary list and a coast count of 0 (R42). -/
def Tracker.stop (t : Tracker) : Tracker := { t with boundaries := [], coastCount := 0 }

/-- The reception state emptied and the tracker stopped, the event-serial history kept (R23). -/
def Station.emptied (x : Station) : Station :=
  { x with window := [], releasePoint := none, evictedBelow := none, silence := 0, tracker := x.tracker.stop }

/-- Entry into ABSENT from silence, an applied entry or an identity change, or into DISABLED (R23, R89). -/
def enterIdleState (i : Fin 16) (x : StationState) (s : State) : State :=
  flushStation i (setStationState i x
    (modStation i (fun st => { st.emptied with newestSerial := none }) s))

/-- Entry into ABSENT (R23). -/
def enterAbsent (i : Fin 16) (s : State) : State := enterIdleState i .absent s

/-- Entry into DISABLED (R23). -/
def enterDisabled (i : Fin 16) (s : State) : State := enterIdleState i .disabled s

/-- Entry into TEST (R23, R149). -/
def enterTest (i : Fin 16) (s : State) : State := setStationState i .test (modStation i Station.emptied s)

/-- RESOLVED entries become VOID and the coast count 0 (R54). -/
def Tracker.toAcquisition (t : Tracker) : Tracker :=
  { t with
    boundaries := t.boundaries.map (fun e =>
      match e.status with
      | .resolved _ => { e with status := .void }
      | .pending => e
      | .void => e)
    coastCount := 0 }

/-- Entry into ACQUIRE, or a jump or FORMAT threshold met there (R23, R54). -/
def enterAcquire (i : Fin 16) (s : State) : State :=
  setStationState i .acquire
    (modStation i (fun st =>
      { st with releasePoint := none, evictedBelow := none, tracker := st.tracker.toAcquisition }) s)

/-! ## Error counts and thresholds (R35 to R39) -/

/-- An increment from one value to another takes a threshold (R36). -/
def takesThreshold (before after threshold : Nat) : Bool :=
  decide (threshold ≠ 0) && decide (before ≠ after) && decide (after = threshold)

/-- The counts of 8 bits saturate at 255 (R35). -/
def satInc8 (n : Nat) : Nat := satInc 255 n

/-- The JITTER threshold: an effective mode FOLLOW becomes HOLD (R37). -/
def jitterEffect (i : Fin 16) (s : State) : State :=
  modTracker i (fun t => if t.mode = .follow then { t with mode := .hold } else t) (raise .stationThreshold s)

/-- One measurement taken as jitter is counted (R35 to R37, R49). -/
def countJitter (i : Fin 16) (s : State) : State :=
  let before := s.stations[i].jitterCount
  let after := satInc8 before
  let t := modStation i (fun st => { st with jitterCount := after }) s
  if takesThreshold before after (s.entry i).jitterThreshold then jitterEffect i t else t

/-- The LATE threshold: D rises by one below 8, and the LATE count returns to 0 (R38). -/
def lateEffect (i : Fin 16) (s : State) : State :=
  let t := modStation i (fun st => { st with lateCount := 0 }) (raise .stationThreshold s)
  { t with assembler := { t.assembler with closeDelay := satInc closeDelayMax t.assembler.closeDelay } }

/-- One late frame is counted (R35, R36, R38). -/
def countLate (i : Fin 16) (s : State) : State :=
  let before := s.stations[i].lateCount
  let after := satInc8 before
  let t := modStation i (fun st => { st with lateCount := after }) s
  if takesThreshold before after (s.entry i).lateThreshold then lateEffect i t else t

/-- The FORMAT threshold: the window is emptied, the FORMAT count returns to 0, and a station with a running tracker goes to
ACQUIRE or meets the threshold there (R39, R54). -/
def formatEffect (i : Fin 16) (s : State) : State :=
  let t := modStation i (fun st => { st with window := [], formatCount := 0 }) (raise .stationThreshold s)
  if t.stations[i].state.running then enterAcquire i t else t

/-- One FORMAT error is counted and written to the Fault Log with the frame it came from (R26, R35, R36, R39). -/
def countFormat (i : Fin 16) (f : Frame) (s : State) : State :=
  let before := s.stations[i].formatCount
  let after := satInc8 before
  let t := logFault faultFrameFormat
    { subject := BitVec.ofNat 48 i.val, block := s.timebase.blockNumber, detail := frameStart f }
    (modStation i (fun st => { st with formatCount := after }) s)
  if takesThreshold before after (s.entry i).formatThreshold then formatEffect i t else t

/-- The error counts and the figures that an identity change clears are set to 0 (R21, R35, R59). -/
def Station.clearIdentity (x : Station) : Station :=
  { x with jitterCount := 0, lateCount := 0, formatCount := 0, evictCount := 0,
           tracker := { x.tracker with reanchor := 0, lastD := 0, peakD := 0 } }

/-- The counts that CLEAR_COUNTERS and the entry into ARMED set to 0 (R35, R59, R172). -/
def Station.clearCounts (x : Station) : Station :=
  { x with jitterCount := 0, lateCount := 0, formatCount := 0, evictCount := 0,
           tracker := { x.tracker with reanchor := 0 } }

end Sys2Proof.Machine
end

