-- ==== Sys2Proof/Machine/Tracker.lean ====
section
/-! DEFINITION. The Boundary Tracker: prediction, correction, acquisition, deadlines, block lengths and timing faults
(R42 to R59). -/

namespace Sys2Proof.Machine

/-! ## Fixed-point positions (R47, R50) -/

/-- A position rounded to the nearest sample, half up (R47). -/
def roundPosition (e : BitVec 48) : Counter :=
  if 32768 ≤ e.toNat % 65536 then BitVec.ofNat 32 (e.toNat / 65536 + 1) else BitVec.ofNat 32 (e.toNat / 65536)

/-- A sample counter as a position with a zero fraction (R51). -/
def positionOf (m : Counter) : BitVec 48 := BitVec.ofNat 48 (m.toNat * 65536)

/-- An update of R clamped to its range, and whether the clamp acted (R50). -/
def clampRate (r : Int) : Nat × Bool :=
  if r < rateLow then (rateLow.toNat, true)
  else if rateHigh < r then (rateHigh.toNat, true)
  else (r.toNat, false)

/-- The prediction step: R is added to E, modulo 2^48 (R47). -/
def Tracker.predict (t : Tracker) : Tracker :=
  { t with position := t.position + BitVec.ofNat 48 t.rate }

/-- A correction by d: a quarter of it on E, and 256 units of R for each sample, clamped (R49, R50). -/
def Tracker.correct (t : Tracker) (d : Int) : Tracker :=
  let r := clampRate ((t.rate : Int) + d * 256)
  { t with position := t.position + BitVec.ofInt 48 (d * 16384), rate := r.1, rateLimit := r.2 }

/-- Last d and peak absolute d after a resolution with a measurement (R53). -/
def Tracker.noteD (t : Tracker) (d : Int) : Tracker :=
  { t with lastD := d, peakD := if t.peakD < d.natAbs then d.natAbs else t.peakD }

/-! ## The boundary list (R43) -/

/-- The status of a boundary in a list, or none. -/
def statusOf (l : List BoundaryEntry) (j : BlockNo) : Option BoundaryStatus :=
  (l.find? (fun e => e.block == j)).map (·.status)

/-- A list with one boundary's status replaced. -/
def withStatus (l : List BoundaryEntry) (j : BlockNo) (x : BoundaryStatus) : List BoundaryEntry :=
  l.map (fun e => if e.block = j then { e with status := x } else e)

/-- The entries older than boundary j: those before it in the list. -/
def olderThan (l : List BoundaryEntry) (j : BlockNo) : List BoundaryEntry := l.takeWhile (fun e => e.block != j)

/-- The boundaries older than j that are PENDING, oldest first. -/
def olderPending (l : List BoundaryEntry) (j : BlockNo) : List BlockNo :=
  ((olderThan l j).filter (fun e => e.status == .pending)).map (·.block)

/-- The tracker with boundary j's status replaced. -/
def Tracker.setBoundary (t : Tracker) (j : BlockNo) (x : BoundaryStatus) : Tracker :=
  { t with boundaries := withStatus t.boundaries j x }

/-! ## Resolution -/

/-- Boundary j resolved without a measurement, in TRACK or COAST (R48). -/
def resolveByPrediction (i : Fin 16) (j : BlockNo) (s : State) : State :=
  let p := s.stations[i].tracker.predict
  let t := p.setBoundary j (.resolved (roundPosition p.position))
  match t.mode with
  | .follow =>
    let u := setStationState i .coast (modTracker i (fun _ => { t with coastCount := t.coastCount + 1 }) s)
    if (s.entry i).coastLimit < t.coastCount + 1 then enterAcquire i u else u
  | .hold => modTracker i (fun _ => t) s
  | .once => modTracker i (fun _ => t) s

/-- The station returns to TRACK with the given tracker, whose coast count becomes 0. -/
def trackWith (i : Fin 16) (t : Tracker) (s : State) : State :=
  setStationState i .track (modTracker i (fun _ => { t with coastCount := 0 }) s)

/-- Boundary j resolved with the measurement m, in TRACK or COAST (R47, R49, R51, R52, R53). -/
def resolveByMeasurement (i : Fin 16) (j : BlockNo) (m : Counter) (s : State) : State :=
  let p := s.stations[i].tracker.predict
  let predicted := roundPosition p.position
  let d := counterDiff m predicted
  let noted := p.noteD d
  let anchored := { noted.setBoundary j (.resolved m) with position := positionOf m }
  match p.mode with
  | .follow =>
    if d.natAbs ≤ (s.entry i).jitterWindow then
      let c := noted.correct d
      trackWith i (c.setBoundary j (.resolved (roundPosition c.position))) s
    else if s.stations[i].state = .coast then
      trackWith i { anchored with reanchor := satInc16 anchored.reanchor } s
    else
      countJitter i (trackWith i (noted.setBoundary j (.resolved predicted)) s)
  | .hold => trackWith i (noted.setBoundary j (.resolved predicted)) s
  | .once => trackWith i { anchored with mode := .hold } s

/-! ## Releasing frames (R30, R31) -/

/-- The counter after a held frame's last sample. -/
def HeldFrame.endCounter (h : HeldFrame) : Counter := h.counter + BitVec.ofNat 32 frameSamples

/-- The window releases every frame whose end is at or below a boundary. -/
def releaseFrames (b : Counter) (w : List HeldFrame) : List HeldFrame :=
  w.filter (fun h => !isAtOrBefore h.endCounter b)

/-- PENDING entries older than j become VOID, and j is RESOLVED at m (R55). -/
def acquireList (l : List BoundaryEntry) (j : BlockNo) (m : Counter) : List BoundaryEntry :=
  withStatus ((olderPending l j).foldl (fun acc b => withStatus acc b .void) l) j (.resolved m)

/-- A measurement in ACQUIRE acquires the station on boundary j (R31, R55). -/
def acquireOn (i : Fin 16) (j : BlockNo) (m : Counter) (s : State) : State :=
  setStationState i .track (modStation i (fun st =>
    { st with
      window := releaseFrames m st.window
      releasePoint := some m
      evictedBelow := none
      tracker := { st.tracker with
        boundaries := acquireList st.tracker.boundaries j m
        position := positionOf m
        rate := nominalRate
        rateLimit := false
        coastCount := 0 } }) s)

/-! ## Mark reports (R44, R45) -/

/-- Mark History's answer to a mark number (R13). -/
def lookupMark (h : List MarkEntry) (m : MarkNo) : Option BlockNo :=
  (h.find? (fun e => e.mark == m)).map (·.block)

/-- An older PENDING boundary is resolved by prediction, unless an earlier one of them sent the station to ACQUIRE (R45). -/
def resolveOlder (i : Fin 16) (s : State) (b : BlockNo) : State :=
  if s.stations[i].state.timed then resolveByPrediction i b s else s

/-- A measurement of the PENDING boundary j is used by station state (R45). -/
def useMeasurement (i : Fin 16) (j : BlockNo) (m : Counter) (s : State) : State :=
  if s.stations[i].state = .acquire then acquireOn i j m s
  else
    let t := (olderPending s.stations[i].tracker.boundaries j).foldl (resolveOlder i) s
    if t.stations[i].state = .acquire then acquireOn i j m t else resolveByMeasurement i j m t

/-- The tracker takes a mark report, or ignores it (R44). -/
def takeReport (i : Fin 16) (m : MarkNo) (c : Counter) (s : State) : State :=
  match lookupMark s.timebase.history m with
  | none => s
  | some j =>
    if statusOf s.stations[i].tracker.boundaries j = some .pending then useMeasurement i j c s else s

/-! ## Boundaries and close points (R43, R46, R56, R57) -/

/-- A running tracker appends a PENDING entry for boundary j (R43). -/
def Station.appendPending (j : BlockNo) (x : Station) : Station :=
  if x.state.running then
    { x with tracker := { x.tracker with boundaries := x.tracker.boundaries ++ [{ block := j, status := .pending }] } }
  else x

/-- Every running tracker appends a PENDING entry for boundary j (R43). -/
def appendPendingAll (j : BlockNo) (s : State) : State :=
  { s with stations := mapTable (Station.appendPending j) s.stations }

/-- The deadline of boundary j (R46). -/
def resolveDeadline (i : Fin 16) (j : BlockNo) (s : State) : State :=
  if statusOf s.stations[i].tracker.boundaries j = some .pending then
    if s.stations[i].state.timed then resolveByPrediction i j s
    else modTracker i (fun t => t.setBoundary j .void) s
  else s

/-- A block's timing at one station: its start and its length in samples. -/
structure Timing where
  start : Counter
  length : Nat
  deriving DecidableEq, Repr

/-- The positions of the two boundaries of block k at a station in TRACK or COAST, when both are RESOLVED. -/
def blockEnds (x : Station) (k : BlockNo) : Option (Counter × Counter) :=
  if x.state.timed then
    match statusOf x.tracker.boundaries k, statusOf x.tracker.boundaries (k + 1) with
    | some (.resolved b), some (.resolved e) => some (b, e)
    | _, _ => none
  else none

/-- A length that a block may have (R56). -/
def legalLength (n : Int) : Bool := decide (shortestBlock ≤ n) && decide (n ≤ longestBlock)

/-- The timing fault of block k (R57). -/
def timingFault (i : Fin 16) (k : BlockNo) (b e : Counter) (s : State) : State :=
  logFault faultTiming
    { subject := BitVec.ofNat 48 i.val, block := k, detail := wordBytes b ++ wordBytes e ++ wordBytes (e - b) }
    (raise .timingFault (enterAcquire i s))

/-- The station side of the close point of block k up to the length check (R56, R57). -/
def closeTiming (i : Fin 16) (k : BlockNo) (s : State) : State × Option Timing :=
  if s.stations[i].state.running then
    let t := resolveDeadline i (k + 1) s
    match blockEnds t.stations[i] k with
    | some (b, e) =>
      if legalLength (counterDiff e b) then (t, some { start := b, length := (counterDiff e b).toNat })
      else (timingFault i k b e t, none)
    | none => (t, none)
  else (s, none)

/-- The timings that the stations hand over for one block: one entry per station index. -/
abbrev Timings := List (Option Timing)

/-- A station's timing among those handed over. -/
def timingOf (ts : Timings) (i : Fin 16) : Option Timing := ts.getD i.val none

/-- Every station's timing for block k, in index order (R56). -/
def closeTimings (k : BlockNo) (s : State) : State × Timings :=
  (List.finRange 16).foldl (fun acc i =>
    let r := closeTiming i k acc.1
    (r.1, acc.2 ++ [r.2])) (s, [])

/-- The window side of a close point at a station with a timing: consumed frames leave, the release point moves, and an
evicted-below at or below it becomes none (R30). -/
def Station.release (b : Counter) (x : Station) : Station :=
  { x with
    window := releaseFrames b x.window
    releasePoint := some b
    evictedBelow := match x.evictedBelow with
      | some e => if isAtOrBefore e b then none else some e
      | none => none }

/-- Every station with a timing for the block releases its consumed frames (R30). -/
def releaseAll (ts : Timings) (s : State) : State :=
  { s with stations := Vector.ofFn fun i =>
      match timingOf ts i with
      | some t => s.stations[i].release (t.start + BitVec.ofNat 32 t.length)
      | none => s.stations[i] }

/-- A tracker without its entry for boundary k (R56). -/
def Station.removeBoundary (k : BlockNo) (x : Station) : Station :=
  { x with tracker := { x.tracker with boundaries := x.tracker.boundaries.filter (fun e => e.block != k) } }

/-- The trackers remove their entry for boundary k (R56). -/
def removeBoundary (k : BlockNo) (s : State) : State :=
  { s with stations := mapTable (Station.removeBoundary k) s.stations }

/-- A jump sends every station in TRACK, COAST or ACQUIRE to acquisition (R11, R22, R54). -/
def jumpStations (s : State) : State :=
  forEach 16 (fun i t => if t.stations[i].state.running then enterAcquire i t else t) s

end Sys2Proof.Machine
end

