-- ==== Sys2Proof/Machine/Lamps.lean ====
section
/-! DEFINITION. The Tally Unit: lamps, TALLY frames and the refresh (R75 to R77), and the lookups in the Track Map that it shares
with the Confer Unit (R61). -/

namespace Sys2Proof.Machine

/-- The mapped track of a station channel, or none (R61). -/
def trackAt (t : Tables) (i : Fin 16) (ch : Nat) : Option (Fin 48) :=
  (List.finRange 48).find? (fun k => t.tracks[k].mapped && t.tracks[k].station == i && t.tracks[k].channel.val == ch)

/-- The disposition of a role in a mode (R71). -/
def dispositionIn (t : Tables) (m : CourtMode) (r : Role) : Disposition := t.dispositions[m.row][r.column]

/-- The confer group of an entry, or none for group 0. -/
def TrackEntry.groupIndex (e : TrackEntry) : Option (Fin 8) := finOf? 8 (e.group.val - 1) |>.filter (fun _ => e.group.val != 0)

/-- The track's group requests ENGAGED and its role has confer-permit (R75, case 5). -/
def flashes (s : State) (e : TrackEntry) : Bool :=
  match e.groupIndex with
  | some g => s.groups[g].requested && s.tables.active.permit[e.role.column]
  | none => false

/-- The lamp that the current mode and the confer state give a mapped track without an override (R75, cases 4 to 7). -/
def lampByMode (s : State) (e : TrackEntry) : Lamp :=
  match dispositionIn s.tables.active s.mode.current e.role with
  | .withheldD => .off
  | .openD => if flashes s e then .flash else .red
  | .sealedD => if flashes s e then .flash else .amber

/-- The lamp of a track: the first case of R75 that applies. -/
def lampOf (s : State) (k : Fin 48) : Lamp :=
  if s.recording = false then .off
  else if s.tables.active.tracks[k].mapped = false then .off
  else match s.tally.override[k] with
    | some l => l
    | none => lampByMode s s.tables.active.tracks[k]

/-- The lamp codes of a station's channels, channel 0 first (R76). -/
def stationLamps (s : State) (i : Fin 16) : List Byte :=
  (List.range (s.entry i).channels).map (fun ch =>
    match trackAt s.tables.active i ch with
    | some k => BitVec.ofNat 8 (s.tally.lamps[k]).code
    | none => 0)

/-- The payload of a TALLY frame to a station (R182). -/
def tallyPayload (s : State) (i : Fin 16) : List Byte :=
  byte (s.entry i).channels ++ zeros 1 ++ stationLamps s i

/-- A station to which TALLY frames go: enabled, valid and with a nonzero address (R76). -/
def takesTally (s : State) (i : Fin 16) : Bool := (s.entry i).valid && ((s.entry i).address != 0)

/-- A TALLY frame built for a station, if one goes to it (R76). -/
def sendTally (i : Fin 16) (s : State) : State :=
  if takesTally s i then queueTally (ownFrame s (s.entry i).address kindTally (tallyPayload s i)) s else s

/-- A station holds a mapped track of the active Track Map whose lamp differs between two lamp states (R76; log entry 47). -/
def lampsDiffer (t : Tables) (before after : Vector Lamp 48) (i : Fin 16) : Bool :=
  (List.finRange 48).any (fun k =>
    t.tracks[k].mapped && t.tracks[k].station == i && before[k] != after[k])

/-- The lamps recomputed, and one TALLY frame to each station that holds a mapped track whose lamp changed, in station order;
nothing in STANDBY (R75, R76). -/
def recomputeLamps (s : State) : State :=
  if s.part.awake then
    let before := s.tally.lamps
    let t := { s with tally := { s.tally with lamps := Vector.ofFn (lampOf s) } }
    forEach 16 (fun i u => if lampsDiffer u.tables.active before t.tally.lamps i then sendTally i u else u) t
  else s

/-- The refresh frames to every enabled, valid station, and the refresh count back at 0 (R76). -/
def sendRefresh (s : State) : State :=
  let t := forEach 16 sendTally s
  { t with tally := { t.tally with refresh := 0 } }

/-- One period counted toward the refresh; the count stays at 200 until the refresh is taken (R76, log entry 3). -/
def countRefresh (s : State) : State :=
  { s with tally := { s.tally with refresh := satInc refreshPeriod s.tally.refresh } }

end Sys2Proof.Machine
end

