-- ==== Sys2Proof/Machine/Tap.lean ====
section
/-! DEFINITION. The Tap/Test Engine: line test, PRBS-15 checker and the ends of a test (R144, R149 to R152). -/

namespace Sys2Proof.Machine

/-! ## Line test -/

/-- The payload of a TEST_COMMAND: BEGIN 1 with the duration, or END 2 with 0 (R182). -/
def testCommandPayload (begins : Bool) (duration : Nat) : List Byte :=
  if begins then byte 1 ++ zeros 1 ++ half duration else byte 2 ++ zeros 1 ++ half 0

/-- A TEST_COMMAND sent to an address on port A. -/
def sendTestCommand (address : Mac) (begins : Bool) (duration : Nat) (s : State) : State :=
  queueTestCommand (ownFrame s address kindTestCommand (testCommandPayload begins duration)) s

/-- The engine's state replaced. -/
def setEngine (e : EngineState) (s : State) : State := { s with engine := { s.engine with state := e } }

/-- The end of a test: TEST_COMMAND END, the station from TEST to ACQUIRE, the result, TEST_DONE, and the engine IDLE, in that
order (R151). -/
def endTest (r : TestResult) (s : State) : State :=
  match s.engine.state with
  | .test t =>
    let s1 := sendTestCommand t.address false 0 s
    let s2 := if s1.stations[t.station].state = .test then enterAcquire t.station s1 else s1
    let s3 := { s2 with engine := { s2.engine with result := some r } }
    setEngine .idle (raise .testDone s3)
  | .idle => s
  | .tap _ => s

/-- Every mapped track that names the station is WITHHELD in the row of the current mode (R149, step 3). -/
def allWithheld (s : State) (i : Fin 16) : Bool :=
  s.tables.active.tracks.toList.all (fun e =>
    !(e.mapped && e.station == i) || dispositionIn s.tables.active s.mode.current e.role == .withheldD)

/-- The proceeding states in which the permission of a line test is examined (R149, R152). -/
def permissionExamined (s : State) : Bool := s.proceeding.state == .armed || s.recording

/-- The permission of a running test re-examined; a test that fails it ends ABORTED (R152). -/
def reexamineTest (s : State) : State :=
  match s.engine.state with
  | .test t => if permissionExamined s && !allWithheld s t.station then endTest .aborted s else s
  | .idle => s
  | .tap _ => s

/-- A test of station i ends ABORTED because the station left TEST through an applied write (R21, R152). -/
def abortTestOf (i : Fin 16) (s : State) : State :=
  match s.engine.state with
  | .test t => if t.station = i then endTest .aborted s else s
  | .idle => s
  | .tap _ => s

/-- The end of a test is due: its duration has elapsed, or 200 periods with no frame (R151). -/
def testDue (t : LineTest) : Bool :=
  decide (t.duration ≤ t.elapsed) || (decide (testSilence ≤ t.elapsed) && !t.answered)

/-- The result of a test whose end is due (R151). -/
def testResult (e : Engine) (t : LineTest) : TestResult :=
  if t.answered = false then .noResponse
  else if e.bitErrors = 0 ∧ e.missingFrames = 0 then .pass
  else .fail

/-- One period counted toward a running test; the count stays at the duration (R151, log entry 3). -/
def countTest (s : State) : State :=
  match s.engine.state with
  | .test t => setEngine (.test { t with elapsed := satInc t.duration t.elapsed }) s
  | .idle => s
  | .tap _ => s

/-! ## The checker (R150) -/

/-- The bits of one byte, most significant first. -/
def byteBits (b : Byte) : List Bool :=
  [b.getLsbD 7, b.getLsbD 6, b.getLsbD 5, b.getLsbD 4, b.getLsbD 3, b.getLsbD 2, b.getLsbD 1, b.getLsbD 0]

/-- The bits of a pattern frame's sample words in the order sent (R150). -/
def sampleBits (samples : List Byte) : List Bool := samples.flatMap byteBits

/-- The generator's next bit: the exclusive-OR of the bits 14 and 15 places before it (R150). -/
def nextBit (g : BitVec 15) : Bool := xor (g.getLsbD 13) (g.getLsbD 14)

/-- The generator with one bit shifted in. -/
def pushBit (g : BitVec 15) (b : Bool) : BitVec 15 := (g <<< 1) ||| (if b then 1 else 0)

/-- The generator advanced by one bit of its own. -/
def stepGenerator (g : BitVec 15) : BitVec 15 := pushBit g (nextBit g)

/-- The generator advanced by n bits. -/
def advanceGenerator : Nat → BitVec 15 → BitVec 15
  | 0, g => g
  | n + 1, g => advanceGenerator n (stepGenerator g)

/-- The generator after comparing bits with its own, and how many differed. -/
def compareBits : List Bool → BitVec 15 → BitVec 15 × Nat
  | [], g => (g, 0)
  | b :: bs, g =>
    let r := compareBits bs (stepGenerator g)
    (r.1, r.2 + (if b = nextBit g then 0 else 1))

/-- Bits compared against a generator: the engine's counts and the checker's generator move on (R150). -/
def checkBits (bits : List Bool) (c : Checker) (e : Engine) : Checker × Engine :=
  let r := compareBits bits c.generator
  ({ c with generator := r.1 },
   { e with bitsChecked := satAdd count32Max e.bitsChecked bits.length, bitErrors := satAdd count32Max e.bitErrors r.2 })

/-- Missing frames counted. -/
def countMissing (g : Nat) (e : Engine) : Engine :=
  { e with missingFrames := satAdd count32Max e.missingFrames g }

/-- The checker synchronises on a frame: its first 15 bits seed the generator and the rest are compared (R150, case 1). -/
def seedChecker (counter : Counter) (bits : List Bool) (c : Checker) (e : Engine) : Checker × Engine :=
  checkBits (bits.drop 15)
    { c with generator := (bits.take 15).foldl pushBit 0, synchronised := true,
             expected := counter + BitVec.ofNat 32 frameSamples } e

/-- A frame compared in sequence (R150, case 2). -/
def continueChecker (counter : Counter) (bits : List Bool) (c : Checker) (e : Engine) : Checker × Engine :=
  checkBits bits { c with expected := counter + BitVec.ofNat 32 frameSamples } e

/-- The checker takes a frame: the five cases of R150. -/
def runChecker (counter : Counter) (bits : List Bool) (c : Checker) (e : Engine) : Checker × Engine :=
  let diff := counterDiff counter c.expected
  if c.synchronised = false then seedChecker counter bits c e
  else if diff = 0 then continueChecker counter bits c e
  else if diff < 0 then (c, e)
  else if diff % 48 = 0 ∧ diff ≤ staleSpan then
    let g := (diff / 48).toNat
    continueChecker counter bits { c with generator := advanceGenerator (bits.length * g) c.generator } (countMissing g e)
  else seedChecker counter bits c (countMissing 1 e)

/-- A checked frame of the station under test is handed to the checker (R150). -/
def checkPattern (counter : Counter) (samples : List Byte) (s : State) : State :=
  match s.engine.state with
  | .test t =>
    let r := runChecker counter (sampleBits samples) t.checker s.engine
    { s with engine := { r.2 with state := .test { t with answered := true, checker := r.1 } } }
  | .idle => s
  | .tap _ => s

end Sys2Proof.Machine
end

