-- ==== Sys2Proof/Machine/Modes.lean ====
section
/-! DEFINITION. The Mode Unit: replacing, pushing and popping the current mode, and the mode latch (R64 to R69). -/

namespace Sys2Proof.Machine

/-- The current mode and Mode Stack of a Mode Unit. -/
structure ModePair where
  current : CourtMode
  stack : List CourtMode
  deriving DecidableEq, Repr

/-- A mode made current with the Mode Stack emptied (R65). -/
def replacePair (m : CourtMode) : ModePair := { current := m, stack := [] }

/-- A push: the current mode saved as the newest, the oldest discarded first when 4 are held (R66). -/
def pushPair (m : CourtMode) (p : ModePair) : ModePair :=
  { current := m,
    stack := (if p.stack.length < stackSize then p.stack else p.stack.drop (p.stack.length - stackSize + 1)) ++ [p.current] }

/-- A pop: the newest saved mode becomes current, or none with the stack empty (R67). -/
def popPair (p : ModePair) : Option ModePair :=
  match p.stack.getLast? with
  | some m => some { current := m, stack := p.stack.dropLast }
  | none => none

/-- END_SIDEBAR: a pop in SIDEBAR, OFF_RECORD on an empty stack, dropped in any other mode (R67). -/
def endSidebarPair (p : ModePair) : ModePair :=
  if p.current = .sidebar then (popPair p).getD { current := .offRecord, stack := [] } else p

/-- The Mode Unit's pair. -/
def State.modePair (s : State) : ModePair := { current := s.mode.current, stack := s.mode.stack }

/-- A push onto this pair overflows (R66). -/
def pushOverflows (p : ModePair) : Bool := decide (stackSize ≤ p.stack.length)

/-- A mode operation taken: the pair replaced, MODE_CHANGED raised when it changed, MODE_STACK_OVERFLOW when a push overflowed,
and after a change of the current mode the lamps recomputed and a line test re-examined (R66, R68, R75, R152). A push that
overflows and leaves mode and stack as they were raises MODE_STACK_OVERFLOW alone (log entry 46). That the TALLY frames are built
before a TEST_COMMAND END is log entry 53. -/
def applyMode (overflow : Bool) (p : ModePair) (s : State) : State :=
  let s1 := { s with mode := { s.mode with current := p.current, stack := p.stack } }
  let s2 := if p = s.modePair then s1 else raise .modeChanged s1
  let s3 := if overflow then raise .modeStackOverflow s2 else s2
  if p.current = s.mode.current then s3 else reexamineTest (recomputeLamps s3)

/-- SET_MODE and the three replacing buttons (R65). -/
def replaceMode (m : CourtMode) (s : State) : State := applyMode false (replacePair m) s

/-- PUSH_MODE and the two pushing buttons (R66). -/
def pushModeTo (m : CourtMode) (s : State) : State := applyMode (pushOverflows s.modePair) (pushPair m s.modePair) s

/-- END_SIDEBAR (R67). -/
def endSidebar (s : State) : State := applyMode false (endSidebarPair s.modePair) s

/-- The mode latch: the current mode becomes the mode of block j (R69). -/
def latchMode (j : BlockNo) (s : State) : State :=
  { s with mode := { s.mode with latch := s.mode.latch ++ [{ block := j, mode := s.mode.current }] } }

/-- The latched mode of block k; the current mode where no entry holds k, which no run reaches (log entry 36). -/
def latchedMode (s : State) (k : BlockNo) : CourtMode :=
  match s.mode.latch.find? (fun e => e.block == k) with
  | some e => e.mode
  | none => s.mode.current

/-- The latch entry of block k is removed (R69). -/
def removeLatch (k : BlockNo) (s : State) : State :=
  { s with mode := { s.mode with latch := s.mode.latch.filter (fun e => e.block != k) } }

/-- The mode events of R34. -/
inductive ModeEvent where
  | goOnRecord
  | goOffRecord
  | beginSidebar
  | endSidebar
  | beginClosed
  | callRecess
  deriving DecidableEq, Repr

/-- A mode event taken by the Mode Unit (R65 to R67). -/
def applyModeEvent (e : ModeEvent) (s : State) : State :=
  match e with
  | .goOnRecord => replaceMode .onRecord s
  | .goOffRecord => replaceMode .offRecord s
  | .callRecess => replaceMode .recess s
  | .beginSidebar => pushModeTo .sidebar s
  | .beginClosed => pushModeTo .closedHearing s
  | .endSidebar => endSidebar s

end Sys2Proof.Machine
end

