-- ==== Sys2Proof/Machine/Confer.lean ====
section
/-! DEFINITION. The Confer Unit: taking toggles, consuming them at a close point, and leaving FORCED (R79 to R88). -/

namespace Sys2Proof.Machine

/-! ## Taking a toggle (R80 to R84) -/

/-- The group that a toggle of a station channel belongs to, or none (R80). -/
def toggleGroup (t : Tables) (i : Fin 16) (ch : Nat) : Option (Fin 8) :=
  match trackAt t i ch with
  | some k => t.tracks[k].groupIndex
  | none => none

/-- A counter, or a bound that it lies before (R1). -/
def laterOf (a b : Counter) : Counter := if isBefore a b then b else a

/-- The point of the newest entry of a Toggle List. -/
def newestPoint (l : List Toggle) : Option Counter := (l.getLast?).map (·.point)

/-- A point raised to a bound that it lies before, and whether it was raised. -/
def raisePoint (bound : Option Counter) (p : Counter × Bool) : Counter × Bool :=
  match bound with
  | some b => if isBefore p.1 b then (b, true) else p
  | none => p

/-- The Toggle List entry of a toggle at counter c: raised to the closed-up-to point and then to the newest entry (R82,
step 4). -/
def toggleEntry (down : Bool) (closedUpTo : Option Counter) (l : List Toggle) (c : Counter) : Toggle :=
  let p := raisePoint (newestPoint l) (raisePoint closedUpTo (c, false))
  { down := down, point := p.1, late := p.2 }

/-- A toggle discarded while the group is FORCED raises the forced point when its counter lies after it (R1, R84). -/
def ConferGroup.discardForced (c : Counter) (g : ConferGroup) : ConferGroup :=
  { g with forcedPoint := match g.forcedPoint with
      | some p => some (laterOf c p)
      | none => some c }

/-- A toggle that finds the list full makes the group FORCED (R83). -/
def ConferGroup.force (c : Counter) (g : ConferGroup) : ConferGroup :=
  { g with forced := true, forcedPoint := some (match newestPoint g.toggles with
      | some p => laterOf c p
      | none => c) }

/-- A toggle taken in OPEN, DRAINING or CONFIRMING that changes the requested state (R82, steps 3 to 5). -/
def recordToggle (g : Fin 8) (i : Fin 16) (down : Bool) (c : Counter) (s : State) : State :=
  if s.groups[g].forced then modGroup g (ConferGroup.discardForced c) s
  else if s.groups[g].toggles.length < toggleListSize then
    modGroup g (fun x =>
      { x with toggles := x.toggles ++ [toggleEntry down s.stations[i].releasePoint x.toggles c] }) s
  else raise .conferForced (modGroup g (ConferGroup.force c) s)

/-- A toggle of group g (R81, R82): a repeat of the requested state is dropped; otherwise the request is set, the lamps follow it,
and outside a proceeding the engaged state follows at once. -/
def takeToggleOf (g : Fin 8) (i : Fin 16) (down : Bool) (c : Counter) (s : State) : State :=
  if s.groups[g].requested = down then s
  else if s.proceeding.state = .idle ∨ s.proceeding.state = .armed then
    recomputeLamps (modGroup g (fun x => { x with requested := down, engaged := down }) s)
  else recordToggle g i down c (recomputeLamps (modGroup g (fun x => { x with requested := down }) s))

/-- A confer event handed on by the Station Receiver; it is dropped where no mapped track with a group names the channel (R80). -/
def takeToggle (i : Fin 16) (ch : Nat) (down : Bool) (c : Counter) (s : State) : State :=
  match toggleGroup s.tables.active i ch with
  | some g => takeToggleOf g i down c s
  | none => s

/-! ## Consumption at a close point (R85, R86) -/

/-- What a group hands the Block Assembler for one block. -/
structure GroupBlock where
  /-- Privileged intervals as offsets, start inclusive and end exclusive. -/
  intervals : List (Nat × Nat)
  forced : Bool
  late : Bool
  deriving DecidableEq, Repr

/-- An entry that far after the block is stale (R85, step 1). -/
def isStale (blockEnd : Counter) (p : Counter) : Bool := decide (staleSpan < counterDiff p blockEnd)

/-- The entries taken at a close: those before the block's end, and stale ones (R85, step 1). -/
def isTaken (blockEnd : Counter) (t : Toggle) : Bool := isBefore t.point blockEnd || isStale blockEnd t.point

/-- The offset at which a taken entry acts (R85, step 1). -/
def entryOffset (start blockEnd : Counter) (t : Toggle) : Nat :=
  if isStale blockEnd t.point then 0 else (counterDiff t.point start).toNat

/-- Intervals gathered so far, and the start of the open one while the state is ENGAGED (R85, step 2). -/
structure IntervalScan where
  intervals : List (Nat × Nat)
  openAt : Option Nat
  deriving DecidableEq, Repr

/-- An interval closed at an offset; one that does not reach past its start is dropped (R85, step 2; log entry 21). -/
def closeInterval (l : List (Nat × Nat)) (a b : Nat) : List (Nat × Nat) := if a < b then l ++ [(a, b)] else l

/-- One taken entry acts on the scan (R85, step 2). Entries act in list order, a stale one at offset 0, so an interval that a stale
DOWN starts may overlap one before it (log entry 48). -/
def scanEntry (start blockEnd : Counter) (x : IntervalScan) (t : Toggle) : IntervalScan :=
  match x.openAt with
  | none => if t.down then { x with openAt := some (entryOffset start blockEnd t) } else x
  | some a =>
    if t.down then x
    else { intervals := closeInterval x.intervals a (entryOffset start blockEnd t), openAt := none }

/-- The scan of all taken entries from the engaged state (R85, steps 2 and 3). -/
def scanEntries (engaged : Bool) (start blockEnd : Counter) (l : List Toggle) : IntervalScan :=
  l.foldl (scanEntry start blockEnd) { intervals := [], openAt := if engaged then some 0 else none }

/-- The intervals with the open one ended at the block's length (R85, step 2). -/
def IntervalScan.finish (n : Nat) (x : IntervalScan) : List (Nat × Nat) :=
  match x.openAt with
  | some a => closeInterval x.intervals a n
  | none => x.intervals

/-- A group's station has a timing for the block (R85). -/
def groupTiming (s : State) (ts : Timings) (g : Fin 8) : Option Timing :=
  match groupStation s.tables.active g with
  | some i => timingOf ts i
  | none => none

/-- The counter at which a timed block ends. -/
def Timing.blockEnd (t : Timing) : Counter := t.start + BitVec.ofNat 32 t.length

/-- The entries that a group takes for a timed block. -/
def takenEntries (t : Timing) (g : ConferGroup) : List Toggle := g.toggles.filter (isTaken t.blockEnd)

/-- The scan of a group's taken entries. -/
def groupScan (t : Timing) (g : ConferGroup) : IntervalScan :=
  scanEntries g.engaged t.start t.blockEnd (takenEntries t g)

/-- What a group hands over for a timed block (R85, steps 2, 4 and 5). -/
def handGroup (t : Timing) (g : ConferGroup) : GroupBlock :=
  { intervals := (groupScan t g).finish t.length, forced := g.forced,
    late := (takenEntries t g).any (fun e => e.late || isStale t.blockEnd e.point) }

/-- A group after its consumption (R85, steps 1 and 3). -/
def ConferGroup.consume (t : Timing) (g : ConferGroup) : ConferGroup :=
  { g with toggles := g.toggles.filter (fun e => !isTaken t.blockEnd e), engaged := (groupScan t g).openAt.isSome }

/-- What a group hands over for a block (R85, R86). -/
def groupBlock (s : State) (ts : Timings) (g : Fin 8) : GroupBlock :=
  match groupTiming s ts g with
  | some t => handGroup t s.groups[g]
  | none => { intervals := [], forced := s.groups[g].forced, late := false }

/-- What every group hands over for a block, in group order. -/
def groupBlocks (s : State) (ts : Timings) : Vector GroupBlock 8 := Vector.ofFn (groupBlock s ts)

/-- Every group with a timing consumes its entries (R85, R86). -/
def consumeGroups (ts : Timings) (s : State) : State :=
  { s with groups := Vector.ofFn fun g =>
      match groupTiming s ts g with
      | some t => s.groups[g].consume t
      | none => s.groups[g] }

/-! ## Leaving FORCED (R88) -/

/-- The conditions of R88 at a close point with a timing. -/
def ConferGroup.leavesForced (t : Timing) (g : ConferGroup) : Bool :=
  g.forced && g.toggles.isEmpty &&
    (match g.forcedPoint with
     | some p => isBefore p t.blockEnd || isStale t.blockEnd p
     | none => true)

/-- A group re-examined after the block of a close point (R88). -/
def ConferGroup.reexamine (t : Timing) (g : ConferGroup) : ConferGroup :=
  if g.leavesForced t then { g with forced := false, forcedPoint := none, engaged := g.requested } else g

/-- Every FORCED group with a timing is re-examined (R88). -/
def reexamineForced (ts : Timings) (s : State) : State :=
  { s with groups := Vector.ofFn fun g =>
      match groupTiming s ts g with
      | some t => s.groups[g].reexamine t
      | none => s.groups[g] }

end Sys2Proof.Machine
end

