-- ==== Sys2Proof/Machine/Tables.lean ====
section
/-! DEFINITION. Table entries as bytes (R185), the checks of WRITE_ENTRIES (R19, R20, R62, R70, R77, R113, R165), and what a
write or an application of staged writes does (R21, R72 to R74, R89, R91, R155). -/

namespace Sys2Proof.Machine

/-! ## Entries read from bytes -/

/-- The bytes of entry e of a WRITE_ENTRIES payload. -/
def entrySlice (payload : List Byte) (size e : Nat) : List Byte := (payload.drop (8 + e * size)).take size

/-- All of a list of readings, or none when one of them fails. -/
def allOf {α : Type} : List (Option α) → Option (List α)
  | [] => some []
  | none :: _ => none
  | some a :: rest => (allOf rest).map (fun l => a :: l)

/-- The entries that a write names, each read by `read`; none when one of them is out of range (R171, step 5). -/
def readWritten {α : Type} (read : List Byte → Option α) (size count : Nat) (payload : List Byte) : Option (List α) :=
  allOf ((List.range count).map (fun e => read (entrySlice payload size e)))

/-- Entries written into a fixed table from an index on. -/
def writeFrom {α : Type} {n : Nat} : Nat → List α → Vector α n → Vector α n
  | _, [], v => v
  | k, a :: rest, v => writeFrom (k + 1) rest (if h : k < n then v.set k a else v)

/-- Which indices of a fixed table a write names. -/
def writtenFlags (n first count : Nat) : Vector Bool n :=
  Vector.ofFn fun i => decide (first ≤ i.val) && decide (i.val < first + count)

/-- A Station Table entry read from its 20 bytes: refused for a group address, a channel count outside 1 to 8, a tracker mode
code outside its list or a yes/no byte above 1; W and the coast limit are stored as adjusted (R19, R181). -/
def readStation (bs : List Byte) : Option StationEntry :=
  let address := macAt bs 0
  let channels := fieldAt bs 7 1
  match trackerModeOf (fieldAt bs 9 1) with
  | none => none
  | some mode =>
    if groupBit address || decide (channels = 0) || decide (8 < channels)
        || !(isYesNo (byteAt bs 6) && isYesNo (byteAt bs 16) && isYesNo (byteAt bs 17)) then none
    else some
      { address := address, enabled := byteAt bs 6 == 1, channels := channels, windowOrder := fieldAt bs 8 1,
        trackerMode := mode, jitterWindow := min (fieldAt bs 10 1) 7, coastLimit := max (fieldAt bs 11 2) 1,
        jitterThreshold := fieldAt bs 13 1, lateThreshold := fieldAt bs 14 1, formatThreshold := fieldAt bs 15 1,
        benchAuthority := byteAt bs 16 == 1, wakeEnable := byteAt bs 17 == 1 }

/-- A Track Map entry read from its 8 bytes: check 1 of R62, for an unmapped entry too (log entry 22). -/
def readTrack (bs : List Byte) : Option TrackEntry :=
  match finOf? 16 (fieldAt bs 1 1), finOf? 8 (fieldAt bs 2 1), roleOf (fieldAt bs 3 1), finOf? 9 (fieldAt bs 4 1) with
  | some st, some ch, some r, some g =>
    if isYesNo (byteAt bs 0) then
      some { mapped := byteAt bs 0 == 1, station := st, channel := ch, role := r, group := g }
    else none
  | _, _, _, _ => none

/-- A row of the Disposition Table as written: a disposition or a confer-permit flag per role (R70). -/
inductive DispositionRow where
  | mode (row : List Disposition)
  | permit (row : List Bool)
  deriving DecidableEq, Repr

/-- Entry `k` of the Disposition Table read from its 8 bytes (R70, R181). -/
def readDisposition (k : Nat) (bs : List Byte) : Option DispositionRow :=
  if k < 5 then (allOf ((List.range 8).map (fun r => dispositionOf (fieldAt bs r 1)))).map .mode
  else if (List.range 8).all (fun r => isYesNo (byteAt bs r)) then
    some (.permit ((List.range 8).map (fun r => byteAt bs r == 1)))
  else none

/-- A Stream Table entry read from its 12 bytes: refused for a group destination or one enabled with destination 0; the limits
are stored as adjusted (R113, R181). -/
def readStream (bs : List Byte) : Option StreamEntry :=
  let destination := macAt bs 2
  if !(isYesNo (byteAt bs 0) && isYesNo (byteAt bs 1)) || groupBit destination
      || (byteAt bs 0 == 1 && destination == 0) then none
  else some
    { enabled := byteAt bs 0 == 1, ackRequired := byteAt bs 1 == 1, destination := destination,
      initialCredit := fieldAt bs 8 1, stallLimit := min (max (fieldAt bs 9 1) 1) 60,
      confirmLimit := min (max (fieldAt bs 10 1) 1) 10 }

/-- A Device Configuration entry read from its 28 bytes: the own address and the Controller Address of the entry are ignored, and
the configured close delay is stored as adjusted (R165, R181). -/
def readDeviceConfig (c : DeviceConfig) (bs : List Byte) : Option DeviceConfig :=
  match portRoleOf (fieldAt bs 14 1) with
  | none => none
  | some role =>
    if fieldAt bs 12 2 < 0x600 ∨ groupBit (macAt bs 16) = true ∨ 1048576 ≤ fieldAt bs 24 4 then none
    else some
      { c with etherType := BitVec.ofNat 16 (fieldAt bs 12 2), role := role, roomMaster := macAt bs 16,
               closeDelay := min (max (fieldAt bs 15 1) 1) 8, noticeMask := BitVec.ofNat 20 (fieldAt bs 24 4) }

/-! ## Entries as bytes -/

/-- A Station Table entry's 20 bytes (R185). -/
def StationEntry.bytes (e : StationEntry) : List Byte :=
  macBytes e.address ++ yesNo e.enabled ++ byte e.channels ++ byte e.windowOrder ++ byte e.trackerMode.code
    ++ byte e.jitterWindow ++ half e.coastLimit ++ byte e.jitterThreshold ++ byte e.lateThreshold
    ++ byte e.formatThreshold ++ yesNo e.benchAuthority ++ yesNo e.wakeEnable ++ zeros 2

/-- A Track Map entry's 8 bytes (R185). -/
def TrackEntry.bytes (e : TrackEntry) : List Byte :=
  yesNo e.mapped ++ byte e.station.val ++ byte e.channel.val ++ byte e.role.column.val ++ byte e.group.val ++ zeros 3

/-- The 8 bytes of entry k of the Disposition Table (R70, R185). -/
def Tables.dispositionBytes (t : Tables) (k : Nat) : List Byte :=
  match finOf? 5 k with
  | some r => (t.dispositions[r]).toList.flatMap (fun d => byte d.code)
  | none => t.permit.toList.flatMap yesNo

/-- A Stream Table entry's 12 bytes (R185). -/
def StreamEntry.bytes (e : StreamEntry) : List Byte :=
  yesNo e.enabled ++ yesNo e.ackRequired ++ macBytes e.destination ++ byte e.initialCredit ++ byte e.stallLimit
    ++ byte e.confirmLimit ++ zeros 1

/-- The Device Configuration's 28 bytes (R185). -/
def DeviceConfig.bytes (c : DeviceConfig) : List Byte :=
  macBytes c.ownAddress ++ macBytes c.controller ++ half c.etherType.toNat ++ byte c.role.code ++ byte c.closeDelay
    ++ macBytes c.roomMaster ++ zeros 2 ++ beBytes 4 c.noticeMask.toNat

/-! ## Checks across entries -/

/-- No two enabled entries hold one nonzero station address (R20); an ORDER_INVALID entry counts as enabled (log entry 45). -/
def Tables.addressesDistinct (t : Tables) : Bool :=
  (List.finRange 16).all (fun i => (List.finRange 16).all (fun j =>
    decide (i = j) || !t.stations[i].enabled || !t.stations[j].enabled || (t.stations[i].address == 0)
      || (t.stations[i].address != t.stations[j].address)))

/-- No mapped track names a channel that its station does not send (R20, R62 check 3). -/
def Tables.channelsFit (t : Tables) : Bool :=
  (List.finRange 48).all (fun k =>
    !t.tracks[k].mapped || decide (t.tracks[k].channel.val < (t.stations[t.tracks[k].station]).channels))

/-- No two mapped tracks name one station channel (R62 check 2). -/
def Tables.channelsDistinct (t : Tables) : Bool :=
  (List.finRange 48).all (fun k => (List.finRange 48).all (fun l =>
    decide (k = l) || !t.tracks[k].mapped || !t.tracks[l].mapped || (t.tracks[k].station != t.tracks[l].station)
      || (t.tracks[k].channel != t.tracks[l].channel)))

/-- No confer group is held by mapped tracks of two stations (R62 check 4). -/
def Tables.groupsTogether (t : Tables) : Bool :=
  (List.finRange 48).all (fun k => (List.finRange 48).all (fun l =>
    !t.tracks[k].mapped || !t.tracks[l].mapped || decide (t.tracks[k].group.val = 0)
      || (t.tracks[k].group != t.tracks[l].group) || (t.tracks[k].station == t.tracks[l].station)))

/-- A copy that R20 and R62 allow. -/
def Tables.consistent (t : Tables) : Bool :=
  t.addressesDistinct && t.channelsFit && t.channelsDistinct && t.groupsTogether

/-- The copy that a write goes to and is checked against: the active one in IDLE, the shadow one while writes are staged
(R72). -/
def writeCopy (s : State) : Tables :=
  if s.proceeding.state = .idle then s.tables.active else s.tables.shadow

/-- What a write of the staged tables asks for: the copy as it would stand, or the refusal. -/
abbrev TableWrite := Except ResultCode Tables

/-- A write of Station Table entries checked under R19 and R20. -/
def stationWrite (t : Tables) (first count : Nat) (payload : List Byte) : TableWrite :=
  match readWritten readStation 20 count payload with
  | none => .error .range
  | some es =>
    let u := { t with stations := writeFrom first es t.stations }
    if u.addressesDistinct && u.channelsFit then .ok u else .error .range

/-- A write of Track Map entries checked under R62, in its order. -/
def trackWrite (t : Tables) (first count : Nat) (payload : List Byte) : TableWrite :=
  match readWritten readTrack 8 count payload with
  | none => .error .range
  | some es =>
    let u := { t with tracks := writeFrom first es t.tracks }
    if u.channelsDistinct && u.channelsFit then (if u.groupsTogether then .ok u else .error .groupSpan)
    else .error .range

/-- A row of dispositions or flags as a fixed table. -/
def rowOf {α : Type} (d : α) (l : List α) : Vector α 8 := Vector.ofFn fun r => l.getD r.val d

/-- One row written into the Disposition Table. -/
def Tables.writeRow (t : Tables) (k : Nat) (r : DispositionRow) : Tables :=
  match r with
  | .mode row =>
    match finOf? 5 k with
    | some m => { t with dispositions := modifyAt t.dispositions m (fun _ => rowOf .withheldD row) }
    | none => t
  | .permit row => { t with permit := rowOf false row }

/-- The rows of a write, entry `first` on, each read as its index has it. -/
def readRows (first count : Nat) (payload : List Byte) : Option (List (Nat × DispositionRow)) :=
  allOf ((List.range count).map (fun e =>
    (readDisposition (first + e) (entrySlice payload 8 e)).map (fun r => (first + e, r))))

/-- A write of Disposition Table entries checked under R70. -/
def dispositionWrite (t : Tables) (first count : Nat) (payload : List Byte) : TableWrite :=
  match readRows first count payload with
  | none => .error .range
  | some rows => .ok (rows.foldl (fun u kr => u.writeRow kr.1 kr.2) t)

/-! ## The effects of applied entries -/

/-- The identity of a station entry: address, window order and channel count (R21). -/
def StationEntry.sameIdentity (a b : StationEntry) : Bool :=
  a.address == b.address && a.windowOrder == b.windowOrder && a.channels == b.channels

/-- What an applied entry does to its station's state (R21, cases 1 to 3). -/
def applyEntryState (i : Fin 16) (old new : StationEntry) (s : State) : State :=
  if new.valid = false then (if s.stations[i].state = .disabled then s else enterDisabled i s)
  else if old.valid = false then enterAbsent i s
  else if old.sameIdentity new then s
  else modStation i Station.clearIdentity (enterAbsent i s)

/-- An applied entry: the station's state, the end of a line test of a station that left TEST, and the tracker mode (R21); its
TEST_COMMAND END comes before the TALLY frames of the application (log entry 53). -/
def applyEntry (i : Fin 16) (old new : StationEntry) (s : State) : State :=
  let t := applyEntryState i old new s
  let u := if s.stations[i].state = .test ∧ t.stations[i].state ≠ .test then abortTestOf i t else t
  modTracker i (fun x => { x with mode := new.trackerMode }) u

/-- The station effects of R21 for every written entry, in index order. -/
def applyEntries (written : Vector Bool 16) (before after : Tables) (s : State) : State :=
  forEach 16 (fun i t => if written[i] then applyEntry i before.stations[i] after.stations[i] t else t) s

/-- New contents of the three tables become active in both copies, the map generation rises by one, and the stations, the confer
groups and the lamps follow, in that order (R72, R73, R74, R75, R89; log entry 53). -/
def activate (written : Vector Bool 16) (new : Tables) (s : State) : State :=
  let before := s.tables.active
  let t := { s with tables :=
    { active := new, shadow := new, staged := false, written := Vector.replicate 16 false,
      mapGeneration := s.tables.mapGeneration + 1 } }
  recomputeLamps (flushMoved before new (applyEntries written before new t))

/-- Staged writes are applied: as `activate`, and TABLE_APPLIED; nothing with no write staged (R73). -/
def applyStaged (s : State) : State :=
  if s.tables.staged then raise .tableApplied (activate s.tables.written s.tables.shadow s) else s

/-- Two sets of written entries together. -/
def unionFlags (a b : Vector Bool 16) : Vector Bool 16 := Vector.ofFn fun i => a[i] || b[i]

/-- An accepted write of the staged tables: carried out in IDLE, held in the shadow copy in any other state (R72). -/
def commitTables (written : Vector Bool 16) (new : Tables) (s : State) : State :=
  if s.proceeding.state = .idle then activate written new s
  else { s with tables := { s.tables with shadow := new, staged := true, written := unionFlags s.tables.written written } }

/-- The result of an accepted write of the staged tables (R72). -/
def commitResult (s : State) : ResultCode := if s.proceeding.state = .idle then .ok else .staged

/-! ## The Device Configuration -/

/-- The frame in transmission, marked as standing alone when it came from a forwarding queue. -/
def InTransmission.alone (x : InTransmission) : InTransmission :=
  match x.origin with
  | .forwarded => { x with origin := .forwardedAlone }
  | _ => x

/-- The frames of a forwarding queue that a change to TERMINAL discards: all but the head while it is in transmission (R155, R159;
log entry 52). -/
def discarded (q : List Frame) (x : Option InTransmission) : Nat :=
  match x with
  | some y => if y.origin = .forwarded then q.length - 1 else q.length
  | none => q.length

/-- A change to TERMINAL empties both forwarding queues and counts the frames dropped; a frame in transmission runs to its end
(R155). -/
def emptyForwarding (s : State) : State :=
  { s with ports := { s.ports with
      forwardAB := [], forwardBA := [],
      dropAB := satAdd 65535 s.ports.dropAB (discarded s.ports.forwardAB s.ports.b.transmitting),
      dropBA := satAdd 65535 s.ports.dropBA (discarded s.ports.forwardBA s.ports.a.transmitting),
      a := { s.ports.a with transmitting := s.ports.a.transmitting.map InTransmission.alone },
      b := { s.ports.b with transmitting := s.ports.b.transmitting.map InTransmission.alone } } }

/-- An accepted write of the Device Configuration: every field takes effect together, and the configured close delay is loaded
into D (R91, R155, R165). -/
def writeConfig (c : DeviceConfig) (s : State) : State :=
  let t := { s with config := c, assembler := { s.assembler with closeDelay := c.closeDelay } }
  if s.config.role = .inlineRole ∧ c.role = .terminalRole then emptyForwarding t else t

end Sys2Proof.Machine
end

