-- ==== Sys2Proof/Machine/Assembly.lean ====
section
/-! DEFINITION. The Block Assembler: track entries, segments, block records, WITHHELD runs, checks and the record time (R17, R93 to
R110, R183, R184). -/

namespace Sys2Proof.Machine

/-! ## Samples, cells and segments (R98, R99) -/

/-- One sample of an entry: its kind and cause, and its value when the Assembler reads one. -/
structure Cell where
  kind : SegKind
  cause : SegCause
  value : Option Sample
  deriving DecidableEq, Repr

/-- A run of equal kind and cause lengthened by one more sample in front, or a new segment (R99). -/
def joinCell (k : SegKind) (c : SegCause) : List Segment → List Segment
  | [] => [{ kind := k, cause := c, length := 1 }]
  | g :: rest =>
    if g.kind = k ∧ g.cause = c then { g with length := g.length + 1 } :: rest
    else { kind := k, cause := c, length := 1 } :: g :: rest

/-- The segments of a series of cells, in sample order (R99). -/
def segmentsOf (cells : List Cell) : List Segment := cells.foldr (fun c acc => joinCell c.kind c.cause acc) []

/-- The samples that a list of segments covers. -/
def segmentSum (l : List Segment) : Nat := (l.map (·.length)).sum

/-- A sample taken into the sixteenth segment of a folded entry (R99). -/
def lostCell : Cell := { kind := .lost, cause := .missing, value := none }

/-- A series of cells yields more than 16 segments (R99). -/
def needsFold (cells : List Cell) : Bool := decide (segmentLimit < (segmentsOf cells).length)

/-- The samples that the first 15 segments cover. -/
def keptSamples (cells : List Cell) : Nat := segmentSum ((segmentsOf cells).take (segmentLimit - 1))

/-- The cells of an entry: every sample after the first 15 segments is LOST with cause MISSING when there are more than 16
(R99). -/
def foldCells (cells : List Cell) : List Cell :=
  if needsFold cells then
    cells.take (keptSamples cells) ++ List.replicate (cells.length - keptSamples cells) lostCell
  else cells

/-- The frame of a window whose samples include counter c (R98, case 2). -/
def frameHolding (w : List HeldFrame) (c : Counter) : Option HeldFrame :=
  w.find? (fun h => decide ((c - h.counter).toNat < frameSamples))

/-- The sample of a channel in a held frame at counter c (R98, case 3; R182). -/
def sampleOf (h : HeldFrame) (channels channel : Nat) (c : Counter) : Sample :=
  BitVec.ofNat 24 (fieldAt h.samples (((c - h.counter).toNat * channels + channel) * 3) 3)

/-- What a group hands over for a track's entry: none where the track has no group or its role no confer-permit (R87, R98). -/
abbrev Privilege := Option GroupBlock

/-- An offset lies inside one of a group's intervals (R98, case 1). -/
def insideInterval (l : List (Nat × Nat)) (o : Nat) : Bool := l.any (fun p => decide (p.1 ≤ o) && decide (o < p.2))

/-- The privileged cell at an offset, or none (R98, case 1). -/
def privilegedCell (p : Privilege) (o : Nat) : Option Cell :=
  match p with
  | none => none
  | some g =>
    if g.forced then some { kind := .privileged, cause := .forced, value := none }
    else if insideInterval g.intervals o then some { kind := .privileged, cause := .confer, value := none }
    else none

/-- The cell of a sample that is not held (R98, case 2). -/
def lostAt (evictedBelow : Option Counter) (c : Counter) : Cell :=
  match evictedBelow with
  | some e => if isBefore c e then { kind := .lost, cause := .overrun, value := none } else lostCell
  | none => lostCell

/-- What one track's entry is built from. -/
structure TrackSource where
  timing : Timing
  station : Station
  channels : Nat
  channel : Nat
  privilege : Privilege
  /-- The kind of a carried sample: AUDIO under OPEN, SEALED under SEALED. -/
  carried : SegKind
  deriving DecidableEq, Repr

/-- The cell at an offset of a track's block (R98). -/
def cellAt (x : TrackSource) (o : Nat) : Cell :=
  let c := x.timing.start + BitVec.ofNat 32 o
  match privilegedCell x.privilege o with
  | some p => p
  | none =>
    match frameHolding x.station.window c with
    | none => lostAt x.station.evictedBelow c
    | some h => { kind := x.carried, cause := .none, value := some (sampleOf h x.channels x.channel c) }

/-- The cells of a track's block, before any folding. -/
def rawCells (x : TrackSource) : List Cell := (List.range x.timing.length).map (cellAt x)

/-- The cells of a WITHHELD track (R97). -/
def withheldCells (n : Nat) : List Cell := List.replicate n { kind := .withheldK, cause := .mode, value := none }

/-! ## Track entries (R96 to R100) -/

/-- A track entry as built for the OPEN stream. -/
structure TrackBuild where
  track : Fin 48
  station : Fin 16
  channel : Fin 8
  role : Role
  group : Fin 9
  cause : EntryCause
  disposition : Disposition
  cells : List Cell
  folded : Bool
  deriving DecidableEq, Repr

/-- The entry cause of a track by its station's state and timing (R96). -/
def entryCause (x : StationState) (t : Option Timing) : EntryCause :=
  match x with
  | .test => .lineTest
  | .disabled => .noStation
  | .absent => .noStation
  | .acquire => .timing
  | .track => if t.isSome then .none else .timing
  | .coast => if t.isSome then .none else .timing

/-- What the confer groups handed over applies to a track (R87, R98). -/
def privilegeOf (s : State) (gb : Vector GroupBlock 8) (e : TrackEntry) : Privilege :=
  match e.groupIndex with
  | some g => if s.tables.active.permit[e.role.column] then some gb[g] else none
  | none => none

/-- The source of a track's samples in a timed block. -/
def trackSource (s : State) (gb : Vector GroupBlock 8) (e : TrackEntry) (t : Timing) (carried : SegKind) : TrackSource :=
  { timing := t, station := s.stations[e.station], channels := (s.entry e.station).channels, channel := e.channel.val,
    privilege := privilegeOf s gb e, carried := carried }

/-- The unfolded cells of a track in a timed block, by its disposition (R97, R98). -/
def timedCells (s : State) (gb : Vector GroupBlock 8) (e : TrackEntry) (d : Disposition) (t : Timing) : List Cell :=
  match d with
  | .withheldD => withheldCells t.length
  | .openD => rawCells (trackSource s gb e t .audio)
  | .sealedD => rawCells (trackSource s gb e t .sealedK)

/-- The track entry of a mapped track, given its cause and its cells. -/
def buildEntry (k : Fin 48) (e : TrackEntry) (cause : EntryCause) (d : Disposition) (cells : List Cell) : TrackBuild :=
  { track := k, station := e.station, channel := e.channel, role := e.role, group := e.group, cause := cause,
    disposition := d, cells := foldCells cells, folded := needsFold cells }

/-- The track entry of a track in a block of mode m (R96 to R99). -/
def trackEntry (s : State) (m : CourtMode) (ts : Timings) (gb : Vector GroupBlock 8) (k : Fin 48) : TrackBuild :=
  let e := s.tables.active.tracks[k]
  let d := dispositionIn s.tables.active m e.role
  let t := timingOf ts e.station
  let cause := entryCause s.stations[e.station].state t
  match cause, t with
  | .none, some x => buildEntry k e cause d (timedCells s gb e d x)
  | _, _ => buildEntry k e cause d []

/-- The entries of every mapped track, in ascending track number (R94). -/
def buildEntries (s : State) (m : CourtMode) (ts : Timings) (gb : Vector GroupBlock 8) : List TrackBuild :=
  ((List.finRange 48).filter (fun k => s.tables.active.tracks[k].mapped)).map (trackEntry s m ts gb)

/-- The summary fields of an entry (R100). -/
def TrackBuild.item (b : TrackBuild) : SummaryItem :=
  { track := b.track, n := b.cells.length, cause := b.cause, disposition := b.disposition,
    privileged := b.cells.any (fun c => c.kind == .privileged), lost := b.cells.any (fun c => c.kind == .lost),
    folded := b.folded }

/-! ## Encoding (R183, R184) -/

/-- A cell as the SEALED stream shows it: SEALED becomes AUDIO (R102, R184). -/
def Cell.unseal (c : Cell) : Cell := if c.kind = .sealedK then { c with kind := .audio } else c

/-- The cells of an entry as a stream shows them. -/
def shownCells (st : Stream) (b : TrackBuild) : List Cell :=
  match st with
  | .openS => b.cells
  | .sealedS => b.cells.map Cell.unseal

/-- A segment's 4 bytes. -/
def Segment.bytes (g : Segment) : List Byte := byte (g.kind.code * 16 + g.cause.code) ++ zeros 1 ++ half g.length

/-- A sample's 3 bytes. -/
def sampleBytes (v : Sample) : List Byte := beBytes 3 v.toNat

/-- The bytes of a cell's value when its segment carries audio. -/
def Cell.audioBytes (c : Cell) : List Byte := if c.kind = .audio then sampleBytes (c.value.getD 0) else []

/-- The payload of a TRACK frame (R101, R184). -/
def trackPayload (st : Stream) (b : TrackBuild) : List Byte :=
  let cells := shownCells st b
  let segs := segmentsOf cells
  byte b.track.val ++ byte b.station.val ++ byte b.channel.val ++ byte b.cause.code ++ half cells.length
    ++ byte segs.length ++ zeros 1 ++ segs.flatMap Segment.bytes ++ cells.flatMap Cell.audioBytes

/-- The block check: the CRC-32 over the TRACK payloads in track order (R104). -/
def blockCheck (payloads : List (List Byte)) : BitVec 32 := crc32 payloads.flatten

/-- The entry-list bytes of a track. -/
def SummaryItem.bytes (x : SummaryItem) : List Byte :=
  byte x.track.val ++ byte x.n ++ byte (x.cause.code * 16 + x.disposition.code)
    ++ byte ((if x.privileged then 1 else 0) + (if x.lost then 2 else 0) + (if x.folded then 4 else 0))

/-- The payload of a BLOCK_SUMMARY, given its stream sequence (R101, R183). -/
def BlockRecord.summaryPayload (r : BlockRecord) (sequence : BitVec 32) : List Byte :=
  beBytes 8 r.proceeding.toNat ++ wordBytes sequence ++ wordBytes r.block ++ byte (streamCode r.stream)
    ++ byte r.mode.code ++ byte r.quality.code
    ++ byte ((if r.first then 1 else 0) + (if r.last then 2 else 0) + (if r.lateConfer then 4 else 0))
    ++ r.time.bytes ++ zeros 1 ++ half r.mapGeneration.toNat ++ wordBytes r.check ++ byte r.items.length ++ zeros 3
    ++ r.items.flatMap SummaryItem.bytes

/-- The number of blocks from the first to the last of a series, inclusive. -/
def RunRegister.span (r : RunRegister) : Nat := (r.last - r.first).toNat + 1

/-- The block count that a run carries (R117). -/
def RunRegister.count (r : RunRegister) : Nat := min r.span runLimit

/-- Bytes 12 to 35 of a RUN payload. -/
def runFields (stream : Stream) (cause : RunCause) (r : RunRegister) : List Byte :=
  byte (streamCode stream) ++ byte cause.code ++ byte r.mode.code ++ byte r.quality.code ++ wordBytes r.first
    ++ wordBytes r.last ++ half r.count ++ half r.mapGeneration.toNat ++ r.time.bytes ++ zeros 3

/-- The run check: over RUN payload bytes 0 to 7 followed by bytes 12 to 35 (R107, R184). -/
def runCheck (proceeding : BitVec 64) (stream : Stream) (cause : RunCause) (r : RunRegister) : BitVec 32 :=
  crc32 (beBytes 8 proceeding.toNat ++ runFields stream cause r)

/-- A RUN record built from its series (R107). -/
def buildRun (proceeding : BitVec 64) (stream : Stream) (cause : RunCause) (r : RunRegister) : RunRecord :=
  { proceeding := proceeding, stream := stream, cause := cause, series := r,
    check := runCheck proceeding stream cause r }

/-- The payload of a RUN frame, given its stream sequence (R183). -/
def RunRecord.payload (r : RunRecord) (sequence : BitVec 32) : List Byte :=
  beBytes 8 r.proceeding.toNat ++ wordBytes sequence ++ runFields r.stream r.cause r.series ++ wordBytes r.check

/-! ## The records of a block (R93, R101 to R103) -/

/-- Block k belongs to the proceeding (R93). -/
def belongs (p : Proceeding) (k : BlockNo) : Bool :=
  (match p.first with
   | some f => decide (0 ≤ counterDiff k f)
   | none => false) &&
  (match p.last with
   | some l => decide (counterDiff k l ≤ 0)
   | none => true)

/-- The close point of block k is a block close (R93). -/
def isBlockClose (s : State) (k : BlockNo) : Bool := s.recording && belongs s.proceeding k

/-- The timebase quality of block k (R95). -/
def qualityOf (s : State) (k : BlockNo) : Quality :=
  if s.assembler.kinds.any (fun e => (e.block == k || e.block == k + 1) && e.kind == .synthesised) then .holdover
  else .locked

/-- A group's late mark marks a summary through an entry it lists (R103). -/
def lateMarks (s : State) (gb : Vector GroupBlock 8) (b : TrackBuild) : Bool :=
  (match finOf? 8 (b.group.val - 1) with
   | some g => decide (b.group.val ≠ 0) && gb[g].late
   | none => false)
    && decide (b.cells.length ≠ 0) && s.tables.active.permit[b.role.column] && b.disposition != .withheldD

/-- The block record of a stream over the entries it lists (R101 to R104). -/
def blockRecord (s : State) (k : BlockNo) (m : CourtMode) (gb : Vector GroupBlock 8) (st : Stream)
    (listed : List TrackBuild) : BlockRecord :=
  let payloads := listed.map (trackPayload st)
  { proceeding := s.proceeding.id, stream := st, block := k, mode := m, quality := qualityOf s k,
    time := s.timebase.recordTime, mapGeneration := s.tables.mapGeneration, first := s.proceeding.first == some k,
    last := s.proceeding.last == some k, lateConfer := listed.any (lateMarks s gb), items := listed.map TrackBuild.item,
    tracks := payloads, check := blockCheck payloads }

/-- A block qualifies for a WITHHELD run (R105). -/
def qualifies (s : State) (k : BlockNo) (entries : List TrackBuild) : Bool :=
  s.proceeding.first != some k && s.proceeding.last != some k && !entries.isEmpty
    && entries.all (fun b => b.disposition == .withheldD) && s.output.openS.takesPart

/-- The worse of two qualities. -/
def worseQuality (a b : Quality) : Quality := if a = .holdover ∨ b = .holdover then .holdover else .locked

/-- A run of the one block k. -/
def runOfBlock (s : State) (k : BlockNo) (m : CourtMode) : RunRegister :=
  { mode := m, mapGeneration := s.tables.mapGeneration, first := k, last := k, quality := qualityOf s k,
    time := s.timebase.recordTime }

/-- A run extended by block k. -/
def RunRegister.extend (r : RunRegister) (k : BlockNo) (q : Quality) : RunRegister :=
  { r with last := k, quality := worseQuality r.quality q }

/-- The run register and the runs handed on at the close of a qualifying block: extension or new run, and the run handed at
12,000 blocks (R106). -/
def joinRun (reg : Option RunRegister) (new : RunRegister) : Option RunRegister × List RunRegister :=
  let kept := fun (r : RunRegister) (before : List RunRegister) =>
    if runLimit ≤ r.span then ((none : Option RunRegister), before ++ [r]) else (some r, before)
  match reg with
  | none => kept new []
  | some r =>
    if r.mode = new.mode ∧ r.mapGeneration = new.mapGeneration then kept (r.extend new.last new.quality) []
    else kept new [r]

/-- The records handed to the OPEN stream at a block close, and the run register after it (R106, R110). -/
def openRecords (s : State) (k : BlockNo) (m : CourtMode) (gb : Vector GroupBlock 8) (entries : List TrackBuild) :
    Option RunRegister × List Record :=
  let runs := fun (l : List RunRegister) => l.map (fun r => Record.run (buildRun s.proceeding.id .openS .withheld r))
  if s.output.openS.takesPart = false then (s.assembler.run, [])
  else if qualifies s k entries then
    let r := joinRun s.assembler.run (runOfBlock s k m)
    (r.1, runs r.2)
  else (none, runs s.assembler.run.toList ++ [.block (blockRecord s k m gb .openS entries)])

/-- The entries that a SEALED record lists (R102). -/
def sealedEntries (entries : List TrackBuild) : List TrackBuild := entries.filter (fun b => b.disposition == .sealedD)

/-- The records handed to the SEALED stream at a block close (R102, R110). -/
def sealedRecords (s : State) (k : BlockNo) (m : CourtMode) (gb : Vector GroupBlock 8) (entries : List TrackBuild) :
    List Record :=
  if s.output.sealedS.takesPart = false ∨ (sealedEntries entries).isEmpty = true then []
  else [.block (blockRecord s k m gb .sealedS (sealedEntries entries))]

/-! ## The record time (R17) -/

/-- The modes whose blocks advance the record time. -/
def CourtMode.advances : CourtMode → Bool
  | .onRecord => true
  | .sidebar => true
  | .closedHearing => true
  | .offRecord => false
  | .recess => false

/-- The record time advanced at the close of a block of mode m (R17). -/
def advanceRecordTime (m : CourtMode) (s : State) : State :=
  if m.advances then
    match s.timebase.recordTime.advance with
    | some t => { s with timebase := { s.timebase with recordTime := t } }
    | none =>
      if s.timebase.recordTimeFull then s
      else raise .recordTimeFull { s with timebase := { s.timebase with recordTimeFull := true } }
  else s

/-- The folded entries of a block counted (R99, R111). -/
def countFolds (entries : List TrackBuild) (s : State) : State :=
  { s with assembler := { s.assembler with
      folds := satAdd 65535 s.assembler.folds (entries.filter (fun b => b.folded)).length } }

/-- The WITHHELD run register replaced. -/
def setRun (r : Option RunRegister) (s : State) : State := { s with assembler := { s.assembler with run := r } }

/-! ## The kind list (R95) -/

/-- The kind of boundary j appended. -/
def appendKind (j : BlockNo) (k : BoundaryKind) (s : State) : State :=
  { s with assembler := { s.assembler with kinds := s.assembler.kinds ++ [{ block := j, kind := k }] } }

/-- The kind entry of boundary k removed. -/
def removeKind (k : BlockNo) (s : State) : State :=
  { s with assembler := { s.assembler with kinds := s.assembler.kinds.filter (fun e => e.block != k) } }

end Sys2Proof.Machine
end

