-- ==== Sys2Proof/Machine/Output.lean ====
section
/-! DEFINITION. Record Output: the Record Store, stall runs, credits, the stall timer and the record sender (R113 to R125, R134,
R135), and the monitor tap (R146 to R148). -/

namespace Sys2Proof.Machine

/-! ## The Record Store (R115) -/

/-- The stored records of a stream. -/
def StreamState.held (x : StreamState) : Nat := (x.fifo.filter (·.stored)).length

/-- The records handed without credit that a stream holds. -/
def StreamState.handed (x : StreamState) : Nat := (x.fifo.filter (fun q => !q.stored)).length

/-- The records of both streams in the store. -/
def RecordOutput.occupancy (o : RecordOutput) : Nat := o.openS.held + o.sealedS.held

/-- The free slots of a stream (R115). -/
def RecordOutput.freeSlots (o : RecordOutput) : Stream → Nat
  | .openS => storeSlots - o.occupancy
  | .sealedS => min (storeSlots - o.occupancy) (sealedSlots - o.sealedS.held)

/-- The blocks that a record covers, with the fields that a stall run takes from it (R116); a CLOSE record covers none. -/
def Record.series : Record → Option RunRegister
  | .block r => some { mode := r.mode, mapGeneration := r.mapGeneration, first := r.block, last := r.block,
                       quality := r.quality, time := r.time }
  | .run r => some r.series
  | .close => none

/-- A series that absorbs a later one (R117). -/
def RunRegister.absorb (r x : RunRegister) : RunRegister := r.extend x.last x.quality

/-! ## The stall timer (R125) -/

/-- A stream is starved: a stored record and no credit. -/
def StreamState.starved (x : StreamState) : Bool := x.takesPart && decide (0 < x.held) && decide (x.credit = 0)

/-- The stall timer follows the starved condition. -/
def StreamState.followStall (x : StreamState) : StreamState :=
  if x.starved then
    match x.stallTimer with
    | some _ => x
    | none => { x with stallTimer := some 0, stallReported := false }
  else { x with stallTimer := none, stallReported := false }

/-- The stall limit in boundaries. -/
def StreamState.stallBound (x : StreamState) : Nat := x.entry.stallLimit * boundariesPerSecond

/-- A running stall timer advanced by one boundary, before any close of that boundary; it stays at the limit, and the records held as
it reaches the limit are noted (R125, section 7.7). -/
def StreamState.countStall (x : StreamState) : StreamState :=
  { x with stallTimer := x.stallTimer.map (satInc x.stallBound),
           stallHeld := if x.stallTimer.map (· + 1) = some x.stallBound then x.held else x.stallHeld }

/-- The stall timer stands at the limit. -/
def StreamState.stallDue (x : StreamState) : Bool :=
  match x.stallTimer with
  | some n => decide (x.stallBound ≤ n)
  | none => false

/-! ## Storing records (R116 to R119) -/

/-- A record put at the tail of a stream's FIFO. -/
def StreamState.append (r : Record) (stored : Bool) (x : StreamState) : StreamState :=
  { x with fifo := x.fifo ++ [{ record := r, stored := stored }] }

/-- A stall run started (R116). -/
def startStallRun (st : Stream) (x : RunRegister) (s : State) : State :=
  raise .outputStall (modStream st (fun y => { y with stallRun := some x, stallCount := satInc16 y.stallCount }) s)

/-- One record handed to a stream: absorbed into an open stall run, stored in a free slot, or the start of a stall run (R116,
R117). -/
def storeRecord (st : Stream) (s : State) (r : Record) : State :=
  match (s.stream st).stallRun, r.series with
  | some run, some x => modStream st (fun y => { y with stallRun := some (run.absorb x) }) s
  | none, some x =>
    if 0 < s.output.freeSlots st then modStream st (StreamState.append r true) s else startStallRun st x s
  | _, none => modStream st (StreamState.append r false) s

/-- The stall run of the register stored at the tail of the FIFO, and the register emptied (R118). -/
def storeStallRun (st : Stream) (s : State) : State :=
  match (s.stream st).stallRun with
  | some run =>
    modStream st (fun y =>
      { (y.append (.run (buildRun s.proceeding.id st .outputStall run)) true) with stallRun := none }) s
  | none => s

/-- The stall run is closed at a block close that hands r records (R118). -/
def closesStallRun (s : State) (st : Stream) (r : Nat) : Bool :=
  decide (2 ≤ s.output.freeSlots st) && decide (r + 1 ≤ s.output.freeSlots st)

/-- The records handed to a stream at one block close (R116 to R118). -/
def handRecords (st : Stream) (l : List Record) (s : State) : State :=
  if (s.stream st).takesPart then
    let t := if (s.stream st).stallRun.isSome && closesStallRun s st l.length then storeStallRun st s else s
    modStream st StreamState.followStall (l.foldl (storeRecord st) t)
  else s

/-- The last block of the proceeding has been closed. -/
def lastClosed (s : State) : Bool :=
  match s.proceeding.last, s.assembler.next with
  | some l, some n => isBefore l n
  | _, _ => false

/-- After the LAST block, a stall run is stored as soon as its stream has one free slot (R119). -/
def storeLateRun (st : Stream) (s : State) : State :=
  if (s.stream st).takesPart && decide (0 < s.output.freeSlots st) then
    modStream st StreamState.followStall (storeStallRun st s)
  else s

/-- Both streams' late runs, once the last block has closed in DRAINING (R119); that OPEN's comes first where one slot is free is log
entry 55. -/
def storeLateRuns (s : State) : State :=
  if s.proceeding.state = .draining ∧ lastClosed s = true then storeLateRun .sealedS (storeLateRun .openS s) else s

/-! ## Drain failure (R134) -/

/-- The records at the head of the FIFO that the sender has taken. -/
def takenRecords (s : State) (st : Stream) : List QueuedRecord :=
  match s.output.sending with
  | some x => if x.stream = st then (s.stream st).fifo.take 1 else []
  | none => []

/-- The records of a stream that the sender has not taken. -/
def untakenRecords (s : State) (st : Stream) : List QueuedRecord :=
  (s.stream st).fifo.drop (takenRecords s st).length

/-- The series of the records that a drain failure discards, oldest first, and then the stall run (R134, step 2). -/
def failedSeries (s : State) (st : Stream) : List RunRegister :=
  ((untakenRecords s st).filter (·.stored)).filterMap (fun q => q.record.series) ++ (s.stream st).stallRun.toList

/-- One series that covers a list of them (R134, step 2). -/
def mergeSeries : List RunRegister → Option RunRegister
  | [] => none
  | r :: rest => some (rest.foldl RunRegister.absorb r)

/-- The FIFO after a drain failure: the record being sent, records handed without credit, and the run. -/
def failedFifo (s : State) (st : Stream) (run : Option RunRegister) : List QueuedRecord :=
  takenRecords s st ++ (untakenRecords s st).filter (fun q => !q.stored) ++
    (run.toList.map (fun r => { record := .run (buildRun s.proceeding.id st .outputStall r), stored := false }))

/-- The drain failure of a stream (R134); a failure that finds nothing to merge builds no run and starts none (log entry 14). -/
def drainFail (st : Stream) (s : State) : State :=
  let run := mergeSeries (failedSeries s st)
  let fresh := (s.stream st).stallRun.isNone && run.isSome
  let t := modStream st (fun y =>
    { y with fifo := failedFifo s st run, stallRun := none, drainFailed := true,
             stallCount := if fresh then satInc16 y.stallCount else y.stallCount }) s
  modStream st StreamState.followStall (if fresh then raise .outputStall t else t)

/-- A drain failure is due: DRAINING, the last block closed, and a stall reported at its limit (R134). -/
def drainFailureDue (s : State) (st : Stream) : Bool :=
  s.proceeding.state == .draining && lastClosed s && (s.stream st).stallDue && (s.stream st).stallReported
    && !(s.stream st).drainFailed

/-- A due drain failure taken; the slots it frees may let the late runs be stored (R119, R134). -/
def takeDrainFailure (st : Stream) (s : State) : State :=
  if drainFailureDue s st then storeLateRuns (drainFail st s) else s

/-! ## The sender (R123, R124, R135) -/

/-- The head of a stream's FIFO may be taken (R123). -/
def StreamState.eligible (x : StreamState) : Bool :=
  match x.fifo.head? with
  | some q => !q.stored || decide (0 < x.credit)
  | none => false

/-- The stream whose head record the sender takes, or none (R123). -/
def senderChoice (o : RecordOutput) : Option Stream :=
  if (o.stream o.turn).eligible then some o.turn
  else if (o.stream (otherStream o.turn)).eligible then some (otherStream o.turn)
  else none

/-- The check of a record that enters the stream check, or none for a CLOSE record (R109). -/
def Record.check : Record → Option (BitVec 32)
  | .block r => some r.check
  | .run r => some r.check
  | .close => none

/-- The figures of a CLOSE record taken now: the records sent so far and the final check (R135). -/
def StreamState.figures (x : StreamState) : CloseFigures := { count := x.sequence, check := x.check ^^^ 0xFFFFFFFF }

/-- The payload of a CLOSE frame (R135, R183). -/
def closePayload (s : State) (st : Stream) : List Byte :=
  let x := s.stream st
  beBytes 8 s.proceeding.id.toNat ++ wordBytes x.sequence ++ byte (streamCode st) ++ zeros 3
    ++ wordBytes (s.proceeding.first.getD 0) ++ wordBytes (s.proceeding.last.getD 0) ++ wordBytes x.figures.count
    ++ wordBytes x.figures.check

/-- The frames of a record of a stream taken now, with its sequence written (R123, R124). -/
def recordFrames (s : State) (st : Stream) (r : Record) : List Frame :=
  let x := s.stream st
  let frame := ownFrame s x.entry.destination
  match r with
  | .block b => frame kindBlockSummary (b.summaryPayload x.sequence) :: b.tracks.map (frame kindTrack)
  | .run b => [frame kindRun (b.payload x.sequence)]
  | .close => [frame kindClose (closePayload s st)]

/-- A stream's fields as its head record is taken: the sequence moves on, the check runs over the record's check, and a stored
record spends one credit (R108, R109, R123). -/
def StreamState.take (q : QueuedRecord) (x : StreamState) : StreamState :=
  { x with
    sequence := x.sequence + 1
    check := match q.record.check with
      | some c => crcRun x.check (wordBytes c)
      | none => x.check
    credit := if q.stored then x.credit - 1 else x.credit
    closeFigures := match q.record with
      | .close => some x.figures
      | .block _ => x.closeFigures
      | .run _ => x.closeFigures }

/-- The sender takes the head record of a stream (R123). -/
def takeRecord (st : Stream) (q : QueuedRecord) (s : State) : State :=
  let frames := recordFrames s st q.record
  let t := modStream st (fun x => (x.take q).followStall) s
  { t with output := { t.output with turn := otherStream st, sending := some { stream := st, frames := frames } } }

/-- The sender takes a record when none is being sent and a stream is eligible (R123). -/
def runSender (s : State) : State :=
  match s.output.sending, senderChoice s.output with
  | none, some st =>
    match (s.stream st).fifo.head? with
    | some q => takeRecord st q s
    | none => s
  | _, _ => s

/-- A grant added to a stream's credit; a sum above 255 is stored as 255 (R121). -/
def StreamState.addCredit (g : Nat) (x : StreamState) : StreamState := { x with credit := satAdd creditLimit x.credit g }

/-! ## The monitor tap (R146 to R148) -/

/-- The value that the tap sends for a cell (R146). -/
def tapValue (includeSealed : Bool) (c : Cell) : Sample :=
  if c.kind = .audio ∨ (c.kind = .sealedK ∧ includeSealed = true) then c.value.getD 0 else 0

/-- The largest absolute value among samples (R148). -/
def peakOf (l : List Sample) : Nat := l.foldl (fun m v => max m v.toInt.natAbs) 0

/-- A sample at a limit of the range. -/
def atLimit (v : Sample) : Bool := v == 0x7FFFFF || v == 0x800000

/-- The samples of a monitor frame. -/
def tapSamples (t : Tap) (entry : Option TrackBuild) : List Sample :=
  match entry with
  | some b => b.cells.map (tapValue t.includeSealed)
  | none => []

/-- The payload of a MONITOR_AUDIO frame (R146, R182). -/
def monitorPayload (t : Tap) (k : BlockNo) (entry : Option TrackBuild) : List Byte :=
  let samples := tapSamples t entry
  let cause := match entry with
    | some b => b.cause
    | none => .none
  wordBytes k ++ byte t.track.val ++ yesNo entry.isSome ++ byte cause.code ++ yesNo t.includeSealed
    ++ half samples.length ++ zeros 2 ++ samples.flatMap sampleBytes

/-- The engine with a monitor frame built: a frame that still waits is replaced and counted (R147). -/
def Engine.offer (f : Frame) (peak : Nat) (e : Engine) : Engine :=
  { e with waiting := some f, meter := max e.meter peak,
           monitorDrop := if e.waiting.isSome then satInc16 e.monitorDrop else e.monitorDrop }

/-- The tap takes the entries of a block close (R146 to R148). -/
def runTap (k : BlockNo) (entries : List TrackBuild) (s : State) : State :=
  match s.engine.state with
  | .tap t =>
    let entry := entries.find? (fun b => b.track == t.track)
    let samples := tapSamples t entry
    let f := ownFrame s t.destination kindMonitorAudio (monitorPayload t k entry)
    let u := { s with engine := s.engine.offer f (peakOf samples) }
    if samples.any atLimit then raise .tapClip u else u
  | .idle => s
  | .test _ => s

end Sys2Proof.Machine
end

