-- ==== Sys2Proof/Machine/Proceedings.lean ====
section
/-! DEFINITION. Proceeding Control: opening, closing, draining, the close handshake and the return to IDLE (R129 to R137). -/

namespace Sys2Proof.Machine

/-- A change of proceeding state raises PROCEEDING_STATE, and the lamps follow it (R75, R129). -/
def setProceedingState (p : ProceedingState) (s : State) : State :=
  recomputeLamps (raise .proceedingState { s with proceeding := { s.proceeding with state := p } })

/-! ## Opening (R18, R114, R130) -/

/-- A stream at the entry into ARMED: a stream whose entry is enabled takes part (R114, R127, R129, R130; log entry 33). -/
def StreamState.arm (x : StreamState) : StreamState :=
  { x with
    takesPart := x.entry.enabled
    credit := if x.entry.enabled then x.entry.initialCredit else x.credit
    stallRun := none
    stallTimer := none
    stallReported := false
    stallHeld := 0
    stallCount := 0
    stalledMark := false
    stalledCount := 0
    ignoredCredit := 0
    sequence := 0
    check := 0xFFFFFFFF
    closeState := .none
    closeOutcome := none
    drainFailed := false
    confirmTimer := none
    closeFigures := none }

/-- The Cadence Timebase's fields at the entry into ARMED (R15, R18). -/
def Timebase.arm (t : Timebase) : Timebase :=
  { t with early := 0, relock := 0, jump := 0,
           recordTime := if t.presetHeld then t.recordTime else RecordTime.zero,
           presetHeld := false, recordTimeFull := false }

/-- The fields of every block at the entry into ARMED (R130). -/
def armFields (id : BitVec 64) (s : State) : State :=
  { s with
    proceeding := { state := .armed, id := id, first := none, last := none }
    output := { s.output with openS := s.output.openS.arm, sealedS := s.output.sealedS.arm, turn := .openS }
    assembler := { s.assembler with run := none, folds := 0 }
    timebase := s.timebase.arm
    stations := mapTable Station.clearCounts s.stations }

/-- The entry into ARMED: the fields of every block, PROCEEDING_STATE, and a line test re-examined (R130, R152). -/
def enterArmed (id : BitVec 64) (s : State) : State := reexamineTest (raise .proceedingState (armFields id s))

/-- OPEN_PROCEEDING is accepted: IDLE, a timebase not in SEARCH, and a stream enabled (R130). -/
def opensProceeding (s : State) : Bool :=
  s.proceeding.state == .idle && s.producing && (s.output.openS.entry.enabled || s.output.sealedS.entry.enabled)

/-- In ARMED, boundary j is the start of the first block (R131). -/
def openAtBoundary (j : BlockNo) (s : State) : State :=
  if s.proceeding.state = .armed then
    setProceedingState .opened { s with proceeding := { s.proceeding with first := some j } }
  else s

/-! ## The return to IDLE (R73, R89, R126, R137) -/

/-- A stream at the return to IDLE (R126). -/
def StreamState.leave (x : StreamState) : StreamState :=
  { x with takesPart := false, stallTimer := none, stallReported := false }

/-- The return to IDLE by a completed close or by CLOSE_PROCEEDING in ARMED (R137). -/
def returnToIdle (s : State) : State :=
  let t := setProceedingState .idle
    { s with output := { s.output with openS := s.output.openS.leave, sealedS := s.output.sealedS.leave } }
  flushAll (applyStaged t)

/-! ## Draining and the handshake (R132 to R136) -/

/-- CLOSE_PROCEEDING in OPEN: the block in progress becomes the last block (R132). -/
def startDraining (s : State) : State :=
  setProceedingState .draining { s with proceeding := { s.proceeding with last := some s.timebase.blockNumber } }

/-- A stream that takes part is drained; a record being sent stays in the FIFO until its last frame has left (R133). -/
def StreamState.drained (x : StreamState) : Bool := !x.takesPart || (x.fifo.isEmpty && x.stallRun.isNone)

/-- A stream at the entry into CONFIRMING: its CLOSE record at the tail of its FIFO (R133, R135). -/
def StreamState.confirm (x : StreamState) : StreamState :=
  if x.takesPart then { (x.append .close false) with closeState := .waiting } else x

/-- The entry into CONFIRMING (R133). -/
def enterConfirming (s : State) : State :=
  setProceedingState .confirming
    { s with output := { s.output with openS := s.output.openS.confirm, sealedS := s.output.sealedS.confirm } }

/-- The drained condition examined, at the close of the last block and at each completed record (R133). -/
def examineDrained (s : State) : State :=
  if s.proceeding.state = .draining ∧ lastClosed s = true ∧ s.output.openS.drained = true
      ∧ s.output.sealedS.drained = true then enterConfirming s
  else s

/-- A stream that takes part has COMPLETED. -/
def StreamState.finished (x : StreamState) : Bool := !x.takesPart || x.closeState == .completed

/-- The return to IDLE once every stream that takes part has COMPLETED (R137). -/
def examineCompleted (s : State) : State :=
  if s.proceeding.state = .confirming ∧ s.output.openS.finished = true ∧ s.output.sealedS.finished = true then
    returnToIdle s
  else s

/-- A stream's close ends with an outcome (R136). -/
def completeStream (st : Stream) (o : CloseOutcome) (s : State) : State :=
  examineCompleted (modStream st (fun x =>
    { x with closeState := .completed, closeOutcome := some o, confirmTimer := none }) s)

/-- The last frame of a stream's CLOSE record has been transmitted (R135). -/
def closeSent (st : Stream) (s : State) : State :=
  let t := modStream st (fun x => { x with closeState := .closeSent }) s
  if (s.stream st).entry.ackRequired then modStream st (fun x => { x with confirmTimer := some 0 }) t
  else completeStream st .sent t

/-- The confirm limit in boundaries. -/
def StreamState.confirmBound (x : StreamState) : Nat := x.entry.confirmLimit * boundariesPerSecond

/-- A running confirm timer advanced by one boundary; it stays at the limit (R135, R136; log entry 3). -/
def StreamState.countConfirm (x : StreamState) : StreamState :=
  { x with confirmTimer := x.confirmTimer.map (satInc x.confirmBound) }

/-- The confirm timer of a stream in CLOSE_SENT stands at its limit (R136). -/
def StreamState.confirmDue (x : StreamState) : Bool :=
  x.closeState == .closeSent &&
    (match x.confirmTimer with
     | some n => decide (x.confirmBound ≤ n)
     | none => false)

/-- The figures of a stream's CLOSE record. -/
def StreamState.sentFigures (x : StreamState) : CloseFigures := x.closeFigures.getD x.figures

/-- A CLOSE occurrence in the Fault Log: the figures sent, and those reported or zero (R136, R178, R185). -/
def logClose (st : Stream) (reported : CloseFigures) (s : State) : State :=
  let sent := (s.stream st).sentFigures
  logFault faultClose
    { subject := BitVec.ofNat 48 (streamCode st), block := s.timebase.blockNumber,
      detail := wordBytes sent.count ++ wordBytes sent.check ++ wordBytes reported.count ++ wordBytes reported.check } s

/-- The completion of a stream's close with a fault (R136). -/
def failClose (st : Stream) (o : CloseOutcome) (reported : CloseFigures) (s : State) : State :=
  completeStream st o (logClose st reported (raise .closeFailed s))

/-- An ack taken completes its stream (R136). -/
def takeAck (st : Stream) (reported : CloseFigures) (s : State) : State :=
  if reported = (s.stream st).sentFigures then completeStream st .confirmed s else failClose st .mismatch reported s

/-- A record of a stream has been sent whole: it leaves the FIFO and the next may be taken; after the last block the late runs,
the drained condition and the close handshake follow (R119, R124, R133, R135). -/
def completeRecord (st : Stream) (s : State) : State :=
  let head := (s.stream st).fifo.head?
  let t := modStream st (fun x => { x with fifo := x.fifo.drop 1 }.followStall)
    { s with output := { s.output with sending := none } }
  match head with
  | some q => if q.record = .close then closeSent st t else examineDrained (storeLateRuns t)
  | none => t

end Sys2Proof.Machine
end

