-- ==== Sys2Proof/Machine/Boundary.lean ====
section
/-! DEFINITION. A boundary and the close points that fall at it (R3, R13, R24, R92 to R94). -/

namespace Sys2Proof.Machine

/-! ## Close points -/

/-- The Block Assembler builds and hands on the records of block k (R94, R110). -/
def closeBlock (k : BlockNo) (ts : Timings) (gb : Vector GroupBlock 8) (s : State) : State :=
  let m := latchedMode s k
  let entries := buildEntries s m ts gb
  let forOpen := openRecords s k m gb entries
  let forSealed := sealedRecords s k m gb entries
  let t := advanceRecordTime m (setRun forOpen.1 (countFolds entries s))
  runTap k entries (handRecords .sealedS forSealed (handRecords .openS forOpen.2 t))

/-- Staged writes applied at a close point, and the permission of a line test examined after them (R73, R152; log entry 53). -/
def applyAtClose (s : State) : State := if s.tables.staged then reexamineTest (applyStaged s) else s

/-- What follows the close of the last block in DRAINING: late runs, drain failures already due, and the drained condition (R119,
R133, R134; log entry 18). -/
def afterLastBlock (k : BlockNo) (s : State) : State :=
  if s.proceeding.state = .draining ∧ s.proceeding.last = some k then
    examineDrained (takeDrainFailure .sealedS (takeDrainFailure .openS (storeLateRuns s)))
  else s

/-- What the neighbouring blocks finish after a close point: windows released, FORCED groups re-examined, the entries of boundary k
removed, and the next block to close moved on (R92, R94). -/
def finishClose (k : BlockNo) (ts : Timings) (s : State) : State :=
  let t := removeKind k (removeLatch k (removeBoundary k (reexamineForced ts (releaseAll ts s))))
  { t with assembler := { t.assembler with next := some (k + 1) } }

/-- The close point of block k (R30, R56, R73, R85, R92 to R94; log entry 18). -/
def closePoint (k : BlockNo) (s : State) : State :=
  let r := closeTimings k (applyAtClose s)
  let gb := groupBlocks r.1 r.2
  let t := consumeGroups r.2 r.1
  let u := if isBlockClose t k then closeBlock k r.2 gb t else t
  afterLastBlock k (finishClose k r.2 u)

/-- The next n close points, each handled whole before the next (R92). -/
def closePoints : Nat → State → State
  | 0, s => s
  | n + 1, s =>
    match s.assembler.next with
    | some k => closePoints n (closePoint k s)
    | none => s

/-- How many close points fall at boundary j (R92). -/
def closesDue (s : State) (j : BlockNo) : Nat :=
  match s.assembler.next with
  | some k => (counterDiff j k - (s.assembler.closeDelay : Int)).toNat
  | none => 0

/-- The Block Assembler's part of boundary j: the first boundary sets the next block to close, a later one handles the close points
that are due (R92). -/
def closeAtBoundary (j : BlockNo) (s : State) : State :=
  match s.assembler.next with
  | none => { s with assembler := { s.assembler with next := some j } }
  | some _ => closePoints (closesDue s j) s

/-! ## Counts at a boundary -/

/-- A running station's silence count advanced (R24). -/
def Station.countSilence (x : Station) : Station :=
  if x.state.running then { x with silence := satInc silenceLimit x.silence } else x

/-- The counts that advance by one at each boundary: silence, tally refresh, stall and confirm timers, and a line test (R24, R76,
R125, R135, R151). -/
def countBoundary (s : State) : State :=
  let t := { s with
    stations := mapTable Station.countSilence s.stations
    output := { s.output with openS := s.output.openS.countStall.countConfirm,
                              sealedS := s.output.sealedS.countStall.countConfirm } }
  countTest (countRefresh t)

/-! ## The boundary -/

/-- An entry added to Mark History, the oldest leaving when 16 are held (R13). -/
def addHistory (e : MarkEntry) (h : List MarkEntry) : List MarkEntry :=
  (if h.length < historySize then h else h.drop (h.length - historySize + 1)) ++ [e]

/-- The timebase's own fields at a boundary that takes a mark number at a time (R3, R13). -/
def Timebase.step (kind : BoundaryKind) (mark : MarkNo) (time : Tick) (t : Timebase) : Timebase :=
  { t with
    blockNumber := t.blockNumber + 1
    expected := mark + 1
    last := some time
    lastKind := kind
    history := addHistory { mark := mark, block := t.blockNumber + 1 } t.history }

/-- The blocks other than the timebase take boundary j (R3, R43, R69, R95, R131). -/
def presentBoundary (kind : BoundaryKind) (j : BlockNo) (s : State) : State :=
  closeAtBoundary j (countBoundary (openAtBoundary j (appendPendingAll j (appendKind j kind (latchMode j s)))))

/-- A boundary (R3). -/
def takeBoundary (kind : BoundaryKind) (mark : MarkNo) (time : Tick) (s : State) : State :=
  let t := { s with timebase := s.timebase.step kind mark time }
  presentBoundary kind t.timebase.blockNumber t

end Sys2Proof.Machine
end

