-- ==== Sys2Proof/Machine/Resets.lean ====
section
/-! DEFINITION. STANDBY entry, wake, and the four resets (R12, R41, R60, R78, R90, R112, R128, R138 to R143, R153, R164, R180). -/

namespace Sys2Proof.Machine

/-! ## STANDBY and wake -/

/-- A station at STANDBY entry: emptied and stopped, its event-serial history kept, and no STATION_STATE raised (R22, R23, R41). -/
def Station.park (e : StationEntry) (x : Station) : Station :=
  { x.emptied with state := if e.valid then .absent else .disabled }

/-- The timebase at STANDBY entry (R12, R16). -/
def Timebase.park (t : Timebase) : Timebase :=
  { t with state := .search, guardTimer := none, synthesisTimer := none, candidateCount := 0, consecutive := 0 }

/-- A confer group at STANDBY entry (R90). -/
def ConferGroup.park (g : ConferGroup) : ConferGroup := { g with forced := false, forcedPoint := none, toggles := [] }

/-- A stream at STANDBY entry: its timers stopped (R128, R143). -/
def StreamState.park (x : StreamState) : StreamState :=
  { x with stallTimer := none, stallReported := false, confirmTimer := none }

/-- The part at wake (R12, R140): awake, the wake cause, the timebase in SEARCH afresh with Mark History cleared, the lamps
recomputed, and WOKEN. -/
def wake (c : WakeCause) (s : State) : State :=
  raise .woken (recomputeLamps
    { s with
      part := { s.part with awake := true, wakeCause := some c }
      timebase := { s.timebase with state := .search, candidateCount := 0, history := [] } })

/-- The fields of every block at STANDBY entry (R139). -/
def parkFields (s : State) : State :=
  { s with
    part := { s.part with awake := false }
    timebase := s.timebase.park
    stations := Vector.ofFn fun i => s.stations[i].park (s.entry i)
    mode := { s.mode with latch := [] }
    groups := mapTable ConferGroup.park s.groups
    assembler := { s.assembler with next := none, kinds := [] }
    output := { s.output with openS := s.output.openS.park, sealedS := s.output.sealedS.park }
    management := { s.management with armed := .nothing } }

/-- STANDBY entry; a request waiting in the Request Queue wakes the part at once, with cause FRAME (R139, R140). -/
def enterStandby (s : State) : State :=
  let t := parkFields s
  if t.management.requests.isEmpty then t else wake (.frame kindRequest) t

/-! ## Resets -/

/-- The reset values of everything but what no reset touches: the own address, the link states, and the model's queue of
commands (R141, R143, R164). -/
def hardReset (c : ResetCause) (s : State) : State :=
  { State.reset with
    config := DeviceConfig.resetWith s.config.ownAddress
    part := { awake := true, wakeCause := none, resetCause := c }
    ports := Ports.resetWith s.ports.a.linkUp s.ports.b.linkUp
    pending := s.pending }

/-- The start notice: built when the Controller Address is nonzero, whatever the mask holds (R142). -/
def startNotice (s : State) : State := if s.config.controller = 0 then s else buildNotice s

/-- SOFT_RESET FULL: everything but the Device Configuration, from which D is loaded (R91, R141). -/
def fullReset (s : State) : State :=
  let t := hardReset .softFull s
  startNotice { t with config := s.config, assembler := { t.assembler with closeDelay := s.config.closeDelay } }

/-- A station after SOFT_RESET RUNTIME (R41, R60). -/
def Station.restart (e : StationEntry) : Station :=
  { Station.reset with
    state := if e.valid then .absent else .disabled
    tracker := { Tracker.reset with mode := e.trackerMode } }

/-- SOFT_RESET RUNTIME: every loaded table is kept, staged writes are discarded, and the run state is reset (R4, R16, R41, R74, R78,
R141). -/
def runtimeReset (s : State) : State :=
  let t := hardReset .softRuntime s
  startNotice
    { t with
      config := s.config
      timebase := { t.timebase with blockNumber := s.timebase.blockNumber }
      stations := Vector.ofFn fun i => Station.restart (s.entry i)
      tables := { s.tables with shadow := s.tables.active, staged := false, written := Vector.replicate 16 false }
      tally := { t.tally with override := s.tally.override }
      assembler := { t.assembler with closeDelay := s.config.closeDelay }
      output := { t.output with openS := StreamState.resetWith s.output.openS.entry,
                                sealedS := StreamState.resetWith s.output.sealedS.entry } }

end Sys2Proof.Machine
end

