-- ==== Sys2Proof/Machine/Timebase.lean ====
section
/-! DEFINITION. The Cadence Timebase: marks in SEARCH, LOCKED and HOLDOVER, jumps, and the two timers (R2, R5 to R11). -/

namespace Sys2Proof.Machine

/-- Reference ticks elapsed since L; a time at or before L counts as 0 (log entry 6). -/
def elapsed (s : State) (time : Tick) : Tick := time - s.timebase.last.getD time

/-- A mark taken in SEARCH continues the candidate run (R5). -/
def continuesRun (t : Timebase) (m : MarkNo) (time : Tick) : Bool :=
  decide (1 ≤ t.candidateCount) && (m == t.candidateMark + 1)
    && decide (t.candidateTime + searchSpacingLow ≤ time) && decide (time ≤ t.candidateTime + searchSpacingHigh)

/-- Lock: the third mark of a run is the first boundary (R5). -/
def lock (m : MarkNo) (time : Tick) (s : State) : State :=
  raise .timebaseLocked (takeBoundary .real m time
    { s with timebase := { s.timebase with state := .locked, candidateCount := 0,
                                           guardTimer := some (time + guardTicks) } })

/-- The mark becomes the candidate, with a count (R5). -/
def takeCandidate (count : Nat) (m : MarkNo) (time : Tick) (s : State) : State :=
  { s with timebase := { s.timebase with candidateCount := count, candidateMark := m, candidateTime := time } }

/-- A mark taken in SEARCH (R5). -/
def markInSearch (m : MarkNo) (time : Tick) (s : State) : State :=
  if continuesRun s.timebase m time then
    if s.timebase.candidateCount = 1 then takeCandidate 2 m time s else lock m time s
  else takeCandidate 1 m time s

/-- An early mark is counted (R6, R9). -/
def countEarly (s : State) : State := { s with timebase := { s.timebase with early := satInc16 s.timebase.early } }

/-- Mark History is cleared (R11, R14). -/
def clearHistory (s : State) : State := { s with timebase := { s.timebase with history := [] } }

/-- The timers of LOCKED: a guard that expires at an instant, and no synthesis timer. -/
def Timebase.lockedUntil (deadline : Tick) (t : Timebase) : Timebase :=
  { t with state := .locked, guardTimer := some deadline, synthesisTimer := none }

/-- The timers of HOLDOVER: a synthesis timer that expires at an instant, and no guard. -/
def Timebase.holdoverUntil (deadline : Tick) (t : Timebase) : Timebase :=
  { t with state := .holdover, guardTimer := none, synthesisTimer := some deadline }

/-- A jump mark that is early makes no boundary: the guard continues from L (R11, step 3). -/
def earlyJump (s : State) : State :=
  if s.timebase.state = .locked then s
  else { s with timebase := s.timebase.lockedUntil (s.timebase.last.getD 0 + guardTicks) }

/-- Step 3 of R11. -/
def jumpBoundary (m : MarkNo) (time : Tick) (s : State) : State :=
  if earlyLimit ≤ elapsed s time then
    takeBoundary .real m time { s with timebase := s.timebase.lockedUntil (time + guardTicks) }
  else earlyJump s

/-- A jump (R11). -/
def jump (m : MarkNo) (time : Tick) (s : State) : State :=
  let t := jumpBoundary m time (clearHistory (jumpStations s))
  raise .timebaseJump
    { t with timebase := { t.timebase with expected := m + 1, consecutive := 0, jump := satInc16 t.timebase.jump } }

/-- A mark taken in LOCKED (R6, R11). -/
def markInLocked (m : MarkNo) (time : Tick) (s : State) : State :=
  if m = s.timebase.expected then
    if earlyLimit ≤ elapsed s time then
      takeBoundary .real m time { s with timebase := s.timebase.lockedUntil (time + guardTicks) }
    else countEarly s
  else jump m time s

/-- An expected mark in the re-lock window of HOLDOVER (R9). -/
def relock (m : MarkNo) (time : Tick) (s : State) : State :=
  let n := s.timebase.consecutive + 1
  let tb := { s.timebase with relock := satInc16 s.timebase.relock, consecutive := if relockCount ≤ n then 0 else n }
  if relockCount ≤ n then
    raise .timebaseLocked (takeBoundary .real m time { s with timebase := tb.lockedUntil (time + guardTicks) })
  else takeBoundary .real m time { s with timebase := tb.holdoverUntil (time + synthesisTicks) }

/-- A mark taken in HOLDOVER (R9, R10, R11); an expected mark past the window is ignored (log entry 7). -/
def markInHoldover (m : MarkNo) (time : Tick) (s : State) : State :=
  if m = s.timebase.expected then
    if elapsed s time < relockLow then countEarly s
    else if elapsed s time ≤ synthesisTicks then relock m time s
    else s
  else if m + 1 = s.timebase.expected then s
  else jump m time s

/-- The timebase takes a mark (R5, R6, R9 to R11). -/
def takeMark (m : MarkNo) (time : Tick) (s : State) : State :=
  match s.timebase.state with
  | .search => markInSearch m time s
  | .locked => markInLocked m time s
  | .holdover => markInHoldover m time s

/-- A mark passes the timebase's source check (R2). -/
def markSource (s : State) (f : Frame) : Bool := s.config.roomMaster == 0 || f.src == s.config.roomMaster

/-- A synthesised boundary at an instant, after which the synthesis timer runs and the consecutive-real count is 0 (R7, R8). -/
def synthesise (time : Tick) (s : State) : State :=
  takeBoundary .synthesised s.timebase.expected time
    { s with timebase := { s.timebase.holdoverUntil (time + synthesisTicks) with consecutive := 0 } }

/-- The guard expires in LOCKED (R7). -/
def expireGuard (s : State) : State :=
  match s.timebase.state, s.timebase.guardTimer with
  | .locked, some t => raise .timebaseHoldover (synthesise t s)
  | _, _ => s

/-- The synthesis timer expires in HOLDOVER (R8). -/
def expireSynthesis (s : State) : State :=
  match s.timebase.state, s.timebase.synthesisTimer with
  | .holdover, some t => synthesise t s
  | _, _ => s

end Sys2Proof.Machine
end

