-- ==== Sys2Proof/Machine/Receiver.lean ====
section
/-! DEFINITION. The Station Receiver: acceptance, the frame checks, placement and eviction, mark reports and button events (R24 to
R29, R32 to R34). -/

namespace Sys2Proof.Machine

/-! ## Acceptance and checks (R25, R26) -/

/-- The station whose entry holds a frame's source address (R25). -/
def stationOf (s : State) (f : Frame) : Option (Fin 16) :=
  (List.finRange 16).find? (fun i => (s.entry i).valid && ((s.entry i).address != 0) && ((s.entry i).address == f.src))

/-- A frame from an unknown station (R25). -/
def unknownStation (f : Frame) (s : State) : State :=
  forwardFrom .A f (logFault faultUnknownStation
    { subject := f.src, block := s.timebase.blockNumber, detail := frameStart f } (raise .unknownStation s))

/-- The length that check 4 requires (R26, R182). -/
def audioLength (body : List Byte) : Nat := 16 + 8 * audioEventCount body + 144 * audioChannels body

/-- The five checks of R26 on an accepted frame. -/
def passesChecks (s : State) (i : Fin 16) (f : Frame) : Bool :=
  headerPlain f.body && decide (audioChannels f.body = (s.entry i).channels) && decide (audioEventCount f.body ≤ 4)
    && decide (headerLength f.body = audioLength f.body) && lengthFits f.body (audioLength f.body)
    && (audioPattern f.body == (s.stations[i].state == .test))

/-! ## The Receive Window (R28, R29) -/

/-- The end of a frame at a counter. -/
def frameEnd (c : Counter) : Counter := c + BitVec.ofNat 32 frameSamples

/-- The reference from which counters of a window are ranked (R28). -/
def rankReference (x : Station) (c : Counter) : Counter :=
  match x.releasePoint with
  | some r => r - BitVec.ofNat 32 frameSamples
  | none =>
    match x.window.head? with
    | some h => h.counter - 0x80000000
    | none => c - 0x80000000

/-- The rank of a counter from a reference (R28). -/
def rankFrom (r c : Counter) : Nat := (c - r).toNat

/-- The capacity of a window (R28). -/
def windowSize (e : StationEntry) : Nat := 2 ^ e.windowOrder

/-- The counter of lowest rank among held frames and one more. -/
def lowestCounter (r c : Counter) (w : List HeldFrame) : Counter :=
  w.foldl (fun m h => if rankFrom r h.counter < rankFrom r m then h.counter else m) c

/-- Evicted-below after an eviction in TRACK or COAST (R29). -/
def raiseEvicted (x : Station) (c : Counter) : Option Counter :=
  if x.state.timed then
    match x.evictedBelow with
    | some e => if isBefore e (frameEnd c) then some (frameEnd c) else some e
    | none => some (frameEnd c)
  else x.evictedBelow

/-- A frame placed in a full window: the lowest of the held frames and the arriving one is evicted (R29). -/
def Station.placeEvicting (h : HeldFrame) (x : Station) : Station :=
  let low := lowestCounter (rankReference x h.counter) h.counter x.window
  { x with
    window := if low = h.counter then x.window else x.window.filter (fun g => g.counter != low) ++ [h]
    evictCount := satInc16 x.evictCount
    evictedBelow := raiseEvicted x low }

/-- Placement (R28, case 4). -/
def Station.place (capacity : Nat) (h : HeldFrame) (x : Station) : Station :=
  if x.window.length < capacity then { x with window := x.window ++ [h] } else x.placeEvicting h

/-- The four cases of R28. -/
inductive PlaceCase where
  | duplicate
  | late
  | overlap
  | placement
  deriving DecidableEq, Repr

/-- A held frame shares a sample with one at counter c. -/
def overlaps (c : Counter) (h : HeldFrame) : Bool := decide ((counterDiff c h.counter).natAbs < frameSamples)

/-- A frame at counter c is late: its end is at or below the release point (R28, case 2). -/
def isLate (x : Station) (c : Counter) : Bool :=
  match x.releasePoint with
  | some r => isAtOrBefore (frameEnd c) r
  | none => false

/-- The case of R28 that a checked frame at counter c falls in. -/
def placeCase (x : Station) (c : Counter) : PlaceCase :=
  if x.window.any (fun h => h.counter == c) then .duplicate
  else if isLate x c then .late
  else if x.window.any (overlaps c) then .overlap
  else .placement

/-! ## Events (R33, R34) -/

/-- What an event code means. -/
inductive EventMeaning where
  | confer (down : Bool)
  | mode (e : ModeEvent)
  deriving DecidableEq, Repr

/-- The event codes (R182). -/
def eventMeaning (code : Byte) : Option EventMeaning :=
  match code.toNat with
  | 1 => some (.confer true)
  | 2 => some (.confer false)
  | 3 => some (.mode .goOnRecord)
  | 4 => some (.mode .goOffRecord)
  | 5 => some (.mode .beginSidebar)
  | 6 => some (.mode .endSidebar)
  | 7 => some (.mode .beginClosed)
  | 8 => some (.mode .callRecess)
  | _ => none

/-- A serial is a repeat: one of the 16 ending at the newest (R33, step 2). -/
def isRepeat (newest : Option Byte) (serial : Byte) : Bool :=
  match newest with
  | some n => decide ((n - serial).toNat ≤ 15)
  | none => false

/-- A new event is routed in the awake part (R34). -/
def routeAwake (i : Fin 16) (e : ButtonEvent) (m : EventMeaning) (s : State) : State :=
  match m with
  | .confer down => takeToggle i e.channel.toNat down e.counter s
  | .mode x => if (s.entry i).benchAuthority then applyModeEvent x s else s

/-- A new event in STANDBY: a mode event of a station with wake enable and bench authority wakes the part and is then applied; any
other is dropped (R27, R140). -/
def routeStandby (i : Fin 16) (m : EventMeaning) (s : State) : State :=
  match m with
  | .confer _ => s
  | .mode x =>
    if (s.entry i).benchAuthority && (s.entry i).wakeEnable then applyModeEvent x (wake (.bench i) s) else s

/-- A valid event: a repeat is dropped; a new one enters the history and is routed (R33, steps 2 and 3). -/
def takeValidEvent (i : Fin 16) (e : ButtonEvent) (m : EventMeaning) (s : State) : State :=
  if isRepeat s.stations[i].newestSerial e.serial then s
  else
    let t := modStation i (fun x => { x with newestSerial := some e.serial }) s
    if s.part.awake then routeAwake i e m t else routeStandby i m t

/-- One event of a checked frame (R33). -/
def takeEvent (i : Fin 16) (f : Frame) (s : State) (e : ButtonEvent) : State :=
  match eventMeaning e.code with
  | some m => if e.channel.toNat < (s.entry i).channels then takeValidEvent i e m s else countFormat i f s
  | none => countFormat i f s

/-- The events of a checked frame, in the order it carries them (R32). -/
def takeEvents (i : Fin 16) (f : Frame) (s : State) : State := (audioEvents f.body).foldl (takeEvent i f) s

/-! ## Checked frames (R26, R28, R32) -/

/-- The frame as a window would hold it. -/
def heldOf (f : Frame) : HeldFrame := { counter := audioCounter f.body, samples := audioSamples f.body }

/-- The mark report and then the events of a checked frame (R32). -/
def reportAndEvents (i : Fin 16) (f : Frame) (s : State) : State :=
  takeEvents i f (takeReport i (audioMark f.body) (audioMarkCounter f.body) s)

/-- A checked frame of a station in ACQUIRE, TRACK or COAST (R28, R32). -/
def placeFrame (i : Fin 16) (f : Frame) (s : State) : State :=
  match placeCase s.stations[i] (audioCounter f.body) with
  | .duplicate => reportAndEvents i f s
  | .late => reportAndEvents i f (countLate i s)
  | .overlap => countFormat i f s
  | .placement =>
    reportAndEvents i f (modStation i (fun x => x.place (windowSize (s.entry i)) (heldOf f)) s)

/-- A checked frame in the awake part (R26). -/
def takeChecked (i : Fin 16) (f : Frame) (s : State) : State :=
  if s.stations[i].state = .test then
    takeEvents i f (checkPattern (audioCounter f.body) (audioSamples f.body) s)
  else placeFrame i f s

/-- An accepted frame outside STANDBY: the silence count returns to 0 and an ABSENT station goes to ACQUIRE (R24). -/
def acceptFrame (i : Fin 16) (s : State) : State :=
  let t := modStation i (fun x => { x with silence := 0 }) s
  if t.stations[i].state = .absent then enterAcquire i t else t

/-- An accepted frame (R24, R26, R27). -/
def receiveFrom (i : Fin 16) (f : Frame) (s : State) : State :=
  if s.part.awake then
    let t := acceptFrame i s
    if passesChecks t i f then takeChecked i f t else countFormat i f t
  else if passesChecks s i f then takeEvents i f s
  else countFormat i f s

/-- The Station Receiver takes a STATION_AUDIO frame (R25). -/
def receiveAudio (f : Frame) (s : State) : State :=
  match stationOf s f with
  | some i => receiveFrom i f s
  | none => unknownStation f s

end Sys2Proof.Machine
end

