-- ==== Sys2Proof/Machine/Ports.lean ====
section
/-! DEFINITION. The Port Interface's sending side: the two arbiters, the end of a transmission, link changes, and the per-port
counts of arrivals (R154, R156 to R163). -/

namespace Sys2Proof.Machine

/-! ## Selection (R160 to R162) -/

/-- A frame put in transmission on a port. -/
def transmit (p : Port) (o : TxOrigin) (f : Frame) (s : State) : State :=
  modPort p (fun x => { x with transmitting := some { origin := o, frame := f } }) s

/-- The waiting monitor frame, while the tap is routed to a port. -/
def monitorFor (s : State) (p : Port) : Option Frame :=
  match s.engine.state with
  | .tap t => if t.port = p then s.engine.waiting else none
  | .idle => none
  | .test _ => none

/-- The monitor frame taken by an arbiter. -/
def takeMonitor (p : Port) (f : Frame) (s : State) : State :=
  transmit p .monitor f { s with engine := { s.engine with waiting := none } }

/-- The record frame that the sender offers (R124). -/
def offeredFrame (s : State) : Option Frame :=
  match s.output.sending with
  | some x => x.frames.head?
  | none => none

/-- The port is ready to take a frame: link UP and nothing in transmission (R160). -/
def portReady (s : State) (p : Port) : Bool := (s.port p).linkUp && (s.port p).transmitting.isNone

/-- The port A arbiter's selection (R161). -/
def selectA (s : State) : State :=
  match s.ports.control with
  | c :: rest => transmit .A .control c.frame { s with ports := { s.ports with control := rest } }
  | [] =>
    match monitorFor s .A, s.ports.forwardBA with
    | some f, _ => takeMonitor .A f s
    | none, f :: _ => transmit .A .forwarded f s
    | none, [] => s

/-- The origin of a frame taken from the management transmit queue. -/
def ManagementFrame.origin (m : ManagementFrame) : TxOrigin := if m.notice then .notice else .reply m.after

/-- A record frame taken at port B: the turn passes to PASS_THROUGH (R162). -/
def takeRecordFrame (f : Frame) (s : State) : State :=
  transmit .B .record f { s with ports := { s.ports with turn := .passThrough } }

/-- A forwarded frame taken at port B: the turn passes to RECORD (R162). -/
def takeForwarded (f : Frame) (s : State) : State :=
  transmit .B .forwarded f { s with ports := { s.ports with turn := .record } }

/-- Class 3 at port B (R162). -/
def selectClass3 (s : State) : State :=
  match offeredFrame s, s.ports.forwardAB with
  | some r, f :: _ =>
    match s.ports.turn with
    | .record => takeRecordFrame r s
    | .passThrough => takeForwarded f s
  | some r, [] => takeRecordFrame r s
  | none, f :: _ => takeForwarded f s
  | none, [] => s

/-- The port B arbiter's selection (R162). -/
def selectB (s : State) : State :=
  match s.ports.management with
  | m :: rest => transmit .B m.origin m.frame { s with ports := { s.ports with management := rest } }
  | [] =>
    match monitorFor s .B with
    | some f => takeMonitor .B f s
    | none => selectClass3 s

/-- The port A arbiter (R160, R161). -/
def arbiterA (s : State) : State := if portReady s .A then selectA s else s

/-- The port B arbiter (R160, R162). -/
def arbiterB (s : State) : State := if portReady s .B then selectB s else s

/-- What the sender and the two arbiters take once a command has had its effect (log entry 11). -/
def settle (s : State) : State := arbiterB (arbiterA (runSender s))

/-! ## The end of a transmission (R124, R138, R141, R159, R160) -/

/-- The head of the forwarding queue toward a port leaves it. -/
def popForwarded (p : Port) (s : State) : State :=
  match p with
  | .A => { s with ports := { s.ports with forwardBA := s.ports.forwardBA.drop 1 } }
  | .B => { s with ports := { s.ports with forwardAB := s.ports.forwardAB.drop 1 } }

/-- A frame of the record being sent has been transmitted; its last one completes the record. -/
def recordFrameSent (s : State) : State :=
  match s.output.sending with
  | some x =>
    if x.frames.length ≤ 1 then completeRecord x.stream s
    else { s with output := { s.output with sending := some { x with frames := x.frames.drop 1 } } }
  | none => s

/-- What the end of a REPLY's transmission does (R138, R141). -/
def afterReply (a : AfterReply) (s : State) : State :=
  match a with
  | .nothing => s
  | .resetFull => fullReset s
  | .resetRuntime => runtimeReset s
  | .enterStandby => enterStandby s

/-- A reply has been transmitted: the hold on the service of requests ends (R162; log entry 50). -/
def replyTransmitted (s : State) : State := { s with ports := { s.ports with repliesFull := false } }

/-- What the end of a transmission does, by the frame's origin. -/
def afterTransmission (p : Port) (o : TxOrigin) (s : State) : State :=
  match o with
  | .control => s
  | .monitor => s
  | .forwarded => popForwarded p s
  | .forwardedAlone => s
  | .reply a => afterReply a (replyTransmitted s)
  | .notice => s
  | .record => recordFrameSent s

/-- The frame in transmission on a port has been transmitted. -/
def completeTransmission (p : Port) (s : State) : State :=
  match (s.port p).transmitting with
  | some x => afterTransmission p x.origin (modPort p (fun y => { y with transmitting := none }) s)
  | none => s

/-- The REPLY in transmission on port B is one whose end does the given thing. -/
def replyInTransmission (s : State) (a : AfterReply) : Bool :=
  match s.ports.b.transmitting with
  | some x => x.origin == .reply a
  | none => false

/-- A change of a port's link state; a frame cut short by its loss counts as transmitted (R163). -/
def changeLink (p : Port) (up : Bool) (s : State) : State :=
  let t := modPort p (fun x => { x with linkUp := up }) s
  if up then t else completeTransmission p t

/-! ## Counts of arrivals (R154, R156 to R158) -/

/-- One receive error counted (R154). -/
def countReceiveError (p : Port) (s : State) : State :=
  modPort p (fun x => { x with receiveErrors := satInc16 x.receiveErrors }) s

/-- One looped copy counted (R154). -/
def countLoop (p : Port) (s : State) : State := modPort p (fun x => { x with loops := satInc16 x.loops }) s

/-- One malformed frame counted (R158). -/
def countMalformed (p : Port) (s : State) : State := modPort p (fun x => { x with malformed := satInc16 x.malformed }) s

/-- One misdirected frame counted, or one of an unknown kind, which counts as malformed (R156 to R158). A kind that the other port
would take counts as misdirected whatever its header holds (log entry 54). -/
def countMisdirected (p : Port) (f : Frame) (s : State) : State :=
  if knownKinds.contains (bodyKind f.body) then modPort p (fun x => { x with misdirected := satInc16 x.misdirected }) s
  else countMalformed p s

/-- An LRT frame addressed to the part wakes it from STANDBY before it is handled (R140). -/
def wakeByFrame (f : Frame) (s : State) : State :=
  if s.part.awake then s else wake (.frame (bodyKind f.body)) s

end Sys2Proof.Machine
end

