-- ==== Sys2Proof/Machine/Status.lean ====
section
/-! DEFINITION. What requests read: the device status items, STATION_STATUS and FAULT_LOG entries, and table entries (R40, R170,
R174, R178, R185). -/

namespace Sys2Proof.Machine

/-! ## Device status (R174, R185) -/

/-- A value that may be none, as the value of an item: empty when it is none. -/
def optBytes {α : Type} (f : α → List Byte) : Option α → List Byte
  | some a => f a
  | none => []

/-- The part items. -/
def partItems (s : State) : List (List Byte) :=
  [yesNo (!s.part.awake),
   optBytes (fun c => match c with
     | .frame k => byte 0 ++ [k]
     | .bench i => byte 1 ++ byte i.val) s.part.wakeCause,
   byte s.part.resetCause.code]

/-- The Cadence Timebase items (R15). -/
def timebaseItems (t : Timebase) : List (List Byte) :=
  [byte t.state.code, wordBytes t.blockNumber, wordBytes t.expected, byte t.lastKind.code, byte t.history.length,
   half t.early, half t.relock, half t.jump, t.recordTime.bytes, yesNo t.presetHeld, yesNo t.recordTimeFull]

/-- The court mode items (R68). -/
def modeItems (m : ModeUnit) : List (List Byte) :=
  [byte m.current.code, m.stack.flatMap (fun x => byte x.code)]

/-- The items of one confer group (R90). -/
def groupItems (g : ConferGroup) : List (List Byte) :=
  [yesNo g.engaged, yesNo g.requested, yesNo g.forced, byte g.toggles.length]

/-- The bytes of an open WITHHELD run: mode, map generation, first block and block count. -/
def withheldRunBytes (r : RunRegister) : List Byte :=
  byte r.mode.code ++ half r.mapGeneration.toNat ++ wordBytes r.first ++ half r.count

/-- The Block Assembler items (R111). -/
def assemblerItems (s : State) : List (List Byte) :=
  [byte s.assembler.closeDelay, optBytes wordBytes s.assembler.next, optBytes withheldRunBytes s.assembler.run,
   half s.assembler.folds, wordBytes s.output.openS.check, wordBytes s.output.sealedS.check]

/-- The bytes of an open stall run: first block, last block and block count. -/
def stallRunBytes (r : RunRegister) : List Byte := wordBytes r.first ++ wordBytes r.last ++ half r.count

/-- The Record Output items of one stream (R127); a record being sent does not wait. -/
def streamItems (s : State) (st : Stream) : List (List Byte) :=
  let x := s.stream st
  [yesNo x.takesPart, byte x.credit, half x.held,
   byte ((untakenRecords s st).filter (fun q => !q.stored)).length, optBytes stallRunBytes x.stallRun,
   optBytes half x.stallTimer, half x.stallCount, yesNo x.stalledMark, half x.stalledCount, half x.ignoredCredit,
   wordBytes x.sequence]

/-- The Record Output items: per stream, then the store's occupancy and the turn. -/
def outputItems (s : State) : List (List Byte) :=
  streamItems s .openS ++ streamItems s .sealedS ++ [half s.output.occupancy, byte (streamCode s.output.turn)]

/-- The Proceeding Control items of one stream (R129). -/
def closeItems (x : StreamState) : List (List Byte) :=
  [byte x.closeState.code, optBytes (fun o => byte o.code) x.closeOutcome, yesNo x.drainFailed]

/-- The Proceeding Control items (R129). -/
def proceedingItems (s : State) : List (List Byte) :=
  [byte s.proceeding.state.code, beBytes 8 s.proceeding.id.toNat, optBytes wordBytes s.proceeding.first,
   optBytes wordBytes s.proceeding.last] ++ closeItems s.output.openS ++ closeItems s.output.sealedS

/-- The engine's state, its four tap items, the meter and drop count, and its four test items (R153). -/
def engineStateItems (e : Engine) : List (List Byte) :=
  let shared := [beBytes 4 e.meter, half e.monitorDrop]
  match e.state with
  | .idle => byte 0 :: [[], [], [], []] ++ shared ++ [[], [], [], []]
  | .tap t =>
    byte 1 :: [byte t.track.val, yesNo t.includeSealed, byte (portCode t.port), macBytes t.destination] ++ shared
      ++ [[], [], [], []]
  | .test t =>
    byte 2 :: [[], [], [], []] ++ shared
      ++ [byte t.station.val, half t.duration, half t.elapsed, yesNo t.checker.synchronised]

/-- The Tap/Test Engine items (R153). -/
def engineItems (e : Engine) : List (List Byte) :=
  engineStateItems e ++ [beBytes 4 e.bitsChecked, beBytes 4 e.bitErrors, beBytes 4 e.missingFrames,
    optBytes (fun r => byte r.code) e.result]

/-- The four counts of one port. -/
def portCounts (p : PortStatus) : List (List Byte) :=
  [half p.receiveErrors, half p.loops, half p.misdirected, half p.malformed]

/-- The Port Interface items (R164). -/
def portItems (s : State) : List (List Byte) :=
  [yesNo s.ports.a.linkUp, yesNo s.ports.b.linkUp, byte s.config.role.code, half s.config.etherType.toNat,
   macBytes s.config.roomMaster, byte s.ports.forwardAB.length, byte s.ports.forwardBA.length, half s.ports.dropAB,
   half s.ports.dropBA] ++ portCounts s.ports.a ++ portCounts s.ports.b ++
  [byte s.ports.control.length, half s.ports.tallyDrop, byte s.ports.management.length, half s.ports.replyDrop,
   byte s.ports.turn.code]

/-- The marks of a Fault Log class: holds a first occurrence bit 0, REPEATED bit 1. -/
def FaultClass.marks (c : FaultClass) : List Byte :=
  byte ((if c.first.isSome then 1 else 0) + (if c.repeated then 2 else 0))

/-- The Management Unit items (R180). -/
def managementItems (s : State) : List (List Byte) :=
  [macBytes s.config.controller, byte s.management.requests.length, half s.management.rejected, half s.management.busy,
   half s.management.unknown, yesNo s.management.holdoff, yesNo s.management.noticePending]
  ++ s.management.faults.toList.map FaultClass.marks

/-- The device status items in order (R174, R185; log entry 35). -/
def statusItems (s : State) : List (List Byte) :=
  partItems s ++ timebaseItems s.timebase ++ modeItems s.mode ++ [half s.tables.mapGeneration.toNat]
    ++ s.groups.toList.flatMap groupItems ++ assemblerItems s ++ outputItems s ++ proceedingItems s
    ++ engineItems s.engine ++ portItems s ++ managementItems s

/-- Items numbered from a number on: number, value length, value. -/
def numberItems : Nat → List (List Byte) → List Byte
  | _, [] => []
  | k, v :: rest => half k ++ half v.length ++ v ++ numberItems (k + 1) rest

/-- The data of a QUERY_STATUS reply: the flag set and the device status (R175, R185). -/
def statusData (s : State) : List Byte := beBytes 4 s.management.flags.toNat ++ numberItems 1 (statusItems s)

/-! ## Read-only tables (R40, R178) -/

/-- The marks of a STATION_STATUS entry. -/
def stationMarks (e : StationEntry) (x : Station) : Nat :=
  (if e.orderInvalid then 1 else 0) + (if x.tracker.rateLimit then 2 else 0) + (if x.releasePoint.isSome then 4 else 0)
    + (if x.evictedBelow.isSome then 8 else 0) + (if x.newestSerial.isSome then 16 else 0)

/-- A STATION_STATUS entry's 36 bytes (R40, R185); a value that is none, with its valid mark clear, reads as 0 (log entry 44). -/
def stationStatusBytes (e : StationEntry) (x : Station) : List Byte :=
  byte x.state.code ++ byte (stationMarks e x) ++ byte x.tracker.mode.code ++ byte x.window.length
    ++ wordBytes (x.releasePoint.getD 0) ++ wordBytes (x.evictedBelow.getD 0) ++ [x.newestSerial.getD 0]
    ++ byte x.silence ++ byte x.jitterCount ++ byte x.lateCount ++ byte x.formatCount ++ zeros 1 ++ half x.evictCount
    ++ beBytes 4 x.tracker.coastCount ++ half x.tracker.reanchor ++ zeros 2
    ++ wordBytes (BitVec.ofInt 32 x.tracker.lastD) ++ beBytes 4 x.tracker.peakD

/-- A FAULT_LOG entry's 28 bytes; an empty class reads as all zeros (R178, R185). -/
def FaultClass.bytes (c : FaultClass) : List Byte :=
  match c.first with
  | none => zeros 28
  | some o =>
    c.marks ++ zeros 1 ++ beBytes 6 o.subject.toNat ++ wordBytes o.block
      ++ (o.detail.take 16 ++ zeros (16 - o.detail.length))

/-! ## READ_ENTRIES (R170) -/

/-- The copy that a read returns (R72). -/
def readCopy (s : State) (shadow : Bool) : Tables := if shadow then s.tables.shadow else s.tables.active

/-- The bytes of entry k of a table, or none for an index the table does not have or a table that is not read. -/
def entryBytes (s : State) (shadow : Bool) (t : TableCode) (k : Nat) : List Byte :=
  match t with
  | .station => optBytes (fun i => ((readCopy s shadow).stations[i]).bytes) (finOf? 16 k)
  | .trackMap => optBytes (fun i => ((readCopy s shadow).tracks[i]).bytes) (finOf? 48 k)
  | .disposition => (readCopy s shadow).dispositionBytes k
  | .tallyOverride => []
  | .stream => optBytes (fun st => ((s.stream st).entry).bytes) (streamOf k)
  | .deviceConfig => s.config.bytes
  | .stationStatus => optBytes (fun i => stationStatusBytes (s.entry i) s.stations[i]) (finOf? 16 k)
  | .faultLog => optBytes (fun i => (s.management.faults[i]).bytes) (finOf? 6 k)

/-- The bytes of a range of entries in index order. -/
def rangeBytes (s : State) (shadow : Bool) (t : TableCode) (first count : Nat) : List Byte :=
  (List.range count).flatMap (fun e => entryBytes s shadow t (first + e))

/-- A first index and count that name entries of a table (R170 step 3, R171 step 3). -/
def rangeOk (t : TableCode) (first count : Nat) : Bool :=
  decide (0 < count) && decide (first + count ≤ t.entries)

/-- The peak absolute d of each station entry returned is cleared (R40). -/
def clearPeaks (first count : Nat) (s : State) : State :=
  { s with stations := Vector.ofFn fun i =>
      if first ≤ i.val ∧ i.val < first + count then
        { s.stations[i] with tracker := { s.stations[i].tracker with peakD := 0 } }
      else s.stations[i] }

end Sys2Proof.Machine
end

