-- ==== Sys2Proof/Machine/Requests.lean ====
section
/-! DEFINITION. The Request Queue, and what each request does and answers (R166 to R172, R175, R179, and the rules that carry the
requests out). -/

namespace Sys2Proof.Machine

/-! ## Arrival (R167, R168) -/

/-- A request passes the source check (R167). -/
def requestSource (s : State) (f : Frame) : Bool := s.config.controller == 0 || f.src == s.config.controller

/-- A request from any other source than the controller is discarded, counted and logged (R167). -/
def rejectRequest (f : Frame) (s : State) : State :=
  logFault faultManagement { subject := f.src, block := s.timebase.blockNumber, detail := frameStart f }
    { s with management := { s.management with rejected := satInc16 s.management.rejected } }

/-- A REPLY built for a request (R169, R185, R186). -/
def replyFrame (s : State) (r : Request) (result : ResultCode) (data : List Byte) : Frame :=
  ownFrame s r.source kindReply (requestEcho r.body ++ byte result.code ++ data)

/-- A request that finds 4 queued is answered BUSY at once; a BUSY reply that finds 7 replies waiting is discarded (R162,
R168). -/
def refuseBusy (r : Request) (s : State) : State :=
  let t := { s with management := { s.management with busy := satInc16 s.management.busy } }
  if repliesWaiting t < replyPlaces then queueReply .nothing (replyFrame t r .busy []) t
  else { t with ports := { t.ports with replyDrop := satInc16 t.ports.replyDrop } }

/-- A request that passed the source check is offered to the Request Queue (R168). -/
def offerRequest (r : Request) (s : State) : State :=
  if s.management.requests.length < requestQueueSize then
    { s with management := { s.management with requests := s.management.requests ++ [r] } }
  else refuseBusy r s

/-- The Management Unit takes a REQUEST frame (R167, R168). -/
def takeRequest (f : Frame) (s : State) : State :=
  if requestSource s f then offerRequest { source := f.src, body := f.body } s else rejectRequest f s

/-! ## Serving (R169) -/

/-- What serving a request comes to: the state after it, the result, the data read, and what follows the reply. -/
structure Answer where
  state : State
  result : ResultCode
  data : List Byte
  after : AfterReply

/-- A request refused with a result changes nothing. -/
def refuse (r : ResultCode) (s : State) : Answer := { state := s, result := r, data := [], after := .nothing }

/-- A request carried out. -/
def accept (s : State) : Answer := { state := s, result := .ok, data := [], after := .nothing }

/-- A read answered with data. -/
def acceptWith (data : List Byte) (s : State) : Answer := { state := s, result := .ok, data := data, after := .nothing }

/-- The head request may be served: the part is awake, fewer than 7 replies wait, a reply has been transmitted since 7 waited, and no
soft reset or STANDBY waits for its reply (R162, R169; log entries 43 and 50). -/
def mayServe (s : State) : Bool :=
  s.part.awake && decide (repliesWaiting s < replyPlaces) && !s.ports.repliesFull && s.management.armed == .nothing

/-- The head request of a kind is served: it leaves the queue, is carried out, and its REPLY is placed in the management transmit
queue; nothing happens while no request of the kind is at the head or it must wait (R169; log entries 1 and 31). -/
def serve (k : RequestKind) (handler : List Byte → State → Answer) (s : State) : State :=
  match s.management.requests with
  | [] => s
  | r :: rest =>
    if mayServe s && requestKind r.body == k then
      let a := handler (payloadOf r.body) { s with management := { s.management with requests := rest } }
      settle (queueReply a.after (replyFrame a.state r a.result a.data) a.state)
    else s

/-- UNKNOWN (R169). -/
def answerUnknown (_ : List Byte) (s : State) : Answer :=
  refuse .unknown { s with management := { s.management with unknown := satInc16 s.management.unknown } }

/-! ## Table access (R170, R171) -/

/-- Table, first index and count of READ_ENTRIES and WRITE_ENTRIES, in the payload. -/
def pTable (p : List Byte) : Nat := fieldAt p 4 1
def pFirst (p : List Byte) : Nat := fieldAt p 5 1
def pCount (p : List Byte) : Nat := fieldAt p 6 1

/-- The data of a READ_ENTRIES reply (R185). -/
def readData (s : State) (p : List Byte) (t : TableCode) : List Byte :=
  byte (pTable p) ++ byte (pFirst p) ++ byte (pCount p) ++ zeros 1
    ++ rangeBytes s (byteAt p 7 == 1) t (pFirst p) (pCount p)

/-- READ_ENTRIES of a table other than STATION_STATUS; the shadow byte is checked first (R170, R181; log entry 23). -/
def answerRead (p : List Byte) (s : State) : Answer :=
  if isYesNo (byteAt p 7) = false then refuse .range s
  else match tableOf (pTable p) with
    | none => refuse .range s
    | some t =>
      if t = .tallyOverride then refuse .unreadable s
      else if rangeOk t (pFirst p) (pCount p) = false then refuse .range s
      else acceptWith (readData s p t) s

/-- READ_ENTRIES of STATION_STATUS, which clears each peak returned (R40, R170). -/
def answerReadStatus (p : List Byte) (s : State) : Answer :=
  if isYesNo (byteAt p 7) = false ∨ rangeOk .stationStatus (pFirst p) (pCount p) = false then refuse .range s
  else acceptWith (readData s p .stationStatus) (clearPeaks (pFirst p) (pCount p) s)

/-- WRITE_ENTRIES of a table that is not written, or of an unknown table (R171, steps 1 and 2). -/
def answerWriteRefused (p : List Byte) (s : State) : Answer :=
  match tableOf (pTable p) with
  | none => refuse .range s
  | some _ => refuse .access s

/-- A write of a staged table, given what its checks say (R72, R171). -/
def answerStaged (written : Vector Bool 16) (w : TableWrite) (s : State) : Answer :=
  match w with
  | .error r => refuse r s
  | .ok t => { state := commitTables written t s, result := commitResult s, data := [], after := .nothing }

/-- No Station Table entry. -/
def noEntries : Vector Bool 16 := Vector.replicate 16 false

/-- WRITE_ENTRIES of STATION (R19 to R21, R171). -/
def answerWriteStation (p : List Byte) (s : State) : Answer :=
  if rangeOk .station (pFirst p) (pCount p) = false then refuse .range s
  else answerStaged (writtenFlags 16 (pFirst p) (pCount p)) (stationWrite (writeCopy s) (pFirst p) (pCount p) p) s

/-- WRITE_ENTRIES of TRACK_MAP (R62, R171). -/
def answerWriteTrackMap (p : List Byte) (s : State) : Answer :=
  if rangeOk .trackMap (pFirst p) (pCount p) = false then refuse .range s
  else answerStaged noEntries (trackWrite (writeCopy s) (pFirst p) (pCount p) p) s

/-- WRITE_ENTRIES of DISPOSITION (R70, R171). -/
def answerWriteDisposition (p : List Byte) (s : State) : Answer :=
  if rangeOk .disposition (pFirst p) (pCount p) = false then refuse .range s
  else answerStaged noEntries (dispositionWrite (writeCopy s) (pFirst p) (pCount p) p) s

/-- WRITE_ENTRIES of TALLY_OVERRIDE (R77, R171). -/
def answerWriteOverride (p : List Byte) (s : State) : Answer :=
  if rangeOk .tallyOverride (pFirst p) (pCount p) = false then refuse .range s
  else match readWritten (fun bs => overrideOf (fieldAt bs 0 1)) 1 (pCount p) p with
    | none => refuse .range s
    | some l =>
      accept (recomputeLamps { s with tally := { s.tally with override := writeFrom (pFirst p) l s.tally.override } })

/-- One Stream Table entry stored. -/
def storeStreamEntry (s : State) (x : Nat × StreamEntry) : State :=
  match streamOf x.1 with
  | some st => modStream st (fun y => { y with entry := x.2 }) s
  | none => s

/-- The Stream Table entries of a write, each with its index. -/
def indexed {α : Type} : Nat → List α → List (Nat × α)
  | _, [] => []
  | k, a :: rest => (k, a) :: indexed (k + 1) rest

/-- WRITE_ENTRIES of STREAM: in IDLE only (R113, R171). -/
def answerWriteStream (p : List Byte) (s : State) : Answer :=
  if rangeOk .stream (pFirst p) (pCount p) = false then refuse .range s
  else if s.proceeding.state ≠ .idle then refuse .state s
  else match readWritten readStream 12 (pCount p) p with
    | none => refuse .range s
    | some l => accept ((indexed (pFirst p) l).foldl storeStreamEntry s)

/-- WRITE_ENTRIES of DEVICE_CONFIG (R165, R171). -/
def answerWriteConfig (p : List Byte) (s : State) : Answer :=
  if rangeOk .deviceConfig (pFirst p) (pCount p) = false then refuse .range s
  else match readDeviceConfig s.config (entrySlice p 28 0) with
    | none => refuse .range s
    | some c => accept (writeConfig c s)

/-! ## Court mode (R65 to R67) -/

/-- SET_MODE (R65). -/
def answerSetMode (p : List Byte) (s : State) : Answer :=
  match courtModeOf (fieldAt p 4 1) with
  | some m => accept (replaceMode m s)
  | none => refuse .range s

/-- PUSH_MODE (R66). -/
def answerPushMode (p : List Byte) (s : State) : Answer :=
  match courtModeOf (fieldAt p 4 1) with
  | some m => accept (pushModeTo m s)
  | none => refuse .range s

/-- POP_MODE (R67). -/
def answerPopMode (_ : List Byte) (s : State) : Answer :=
  match popPair s.modePair with
  | some q => accept (applyMode false q s)
  | none => refuse .state s

/-! ## Proceedings (R18, R130 to R132, R138, R141) -/

/-- OPEN_PROCEEDING (R130). -/
def answerOpen (p : List Byte) (s : State) : Answer :=
  if opensProceeding s then accept (enterArmed (BitVec.ofNat 64 (fieldAt p 4 8)) s) else refuse .state s

/-- CLOSE_PROCEEDING (R131, R132). -/
def answerClose (_ : List Byte) (s : State) : Answer :=
  match s.proceeding.state with
  | .armed => accept (returnToIdle s)
  | .opened => accept (startDraining s)
  | .idle => refuse .state s
  | .draining => refuse .state s
  | .confirming => refuse .state s

/-- SET_RECORD_TIME (R18). -/
def answerSetTime (p : List Byte) (s : State) : Answer :=
  if s.proceeding.state ≠ .idle then refuse .state s
  else match recordTimeOf ((p.drop 4).take 5) with
    | none => refuse .range s
    | some t =>
      accept { s with timebase := { s.timebase with recordTime := t, presetHeld := true, recordTimeFull := false } }

/-- A soft reset or STANDBY entry waits for its reply (R169). -/
def arm (a : AfterReply) (s : State) : State := { s with management := { s.management with armed := a } }

/-- STANDBY (R138). -/
def answerStandby (_ : List Byte) (s : State) : Answer :=
  if s.proceeding.state ≠ .idle ∨ s.engine.state ≠ .idle then refuse .state s
  else if s.management.flags ≠ 0 then acceptWith (yesNo false ++ zeros 3) s
  else { state := arm .enterStandby s, result := .ok, data := yesNo true ++ zeros 3, after := .enterStandby }

/-- SOFT_RESET (R141). -/
def answerSoftReset (p : List Byte) (s : State) : Answer :=
  match fieldAt p 4 1 with
  | 1 => { state := arm .resetFull s, result := .ok, data := [], after := .resetFull }
  | 2 => { state := arm .resetRuntime s, result := .ok, data := [], after := .resetRuntime }
  | _ => refuse .range s

/-- SET_CONTROLLER (R166). -/
def answerSetController (p : List Byte) (s : State) : Answer :=
  if groupBit (macAt p 4) then refuse .range s
  else accept { s with config := { s.config with controller := macAt p 4 } }

/-! ## Status and counts (R172, R175, R179) -/

/-- QUERY_STATUS: the flags and the level meter are cleared once they are in the reply (R148, R175). -/
def answerStatus (_ : List Byte) (s : State) : Answer :=
  acceptWith (statusData s)
    { s with management := { s.management with flags := 0 }, engine := { s.engine with meter := 0 } }

/-- READ_FAULTS (R179). -/
def answerReadFaults (_ : List Byte) (s : State) : Answer :=
  acceptWith (s.management.faults.toList.flatMap FaultClass.bytes) s

/-- The classes of a set emptied (R179). -/
def clearClasses (set : BitVec 8) (v : Vector FaultClass 6) : Vector FaultClass 6 :=
  Vector.ofFn fun i => if set.getLsbD i.val then { first := none, repeated := false } else v[i]

/-- CLEAR_FAULTS (R179). -/
def answerClearFaults (p : List Byte) (s : State) : Answer :=
  if 64 ≤ (byteAt p 4).toNat then refuse .range s
  else accept { s with management := { s.management with faults := clearClasses (byteAt p 4) s.management.faults } }

/-- A port's counts set to 0 (R164, R172). -/
def PortStatus.clearCounts (p : PortStatus) : PortStatus :=
  { p with receiveErrors := 0, loops := 0, misdirected := 0, malformed := 0 }

/-- The counts that ALL names (R172). -/
def clearAllCounts (s : State) : State :=
  { s with
    stations := mapTable Station.clearCounts s.stations
    timebase := { s.timebase with early := 0, relock := 0, jump := 0 }
    assembler := { s.assembler with folds := 0 }
    ports := { s.ports with a := s.ports.a.clearCounts, b := s.ports.b.clearCounts, dropAB := 0, dropBA := 0,
                            tallyDrop := 0, replyDrop := 0 }
    management := { s.management with rejected := 0, busy := 0, unknown := 0 } }

/-- CLEAR_COUNTERS (R172). -/
def answerClearCounters (p : List Byte) (s : State) : Answer :=
  if fieldAt p 4 1 = 255 then accept (clearAllCounts s)
  else match finOf? 16 (fieldAt p 4 1) with
    | some i => accept (modStation i Station.clearCounts s)
    | none => refuse .range s

/-! ## Tap and line test (R144, R145, R149, R152) -/

/-- The test figures cleared (R144, R149). -/
def Engine.clearFigures (e : Engine) : Engine :=
  { e with bitsChecked := 0, bitErrors := 0, missingFrames := 0, result := none }

/-- The engine enters TAP: the meter 0, and a waiting frame kept only for the port it was built for (R144). -/
def Engine.attach (t : Tap) (e : Engine) : Engine :=
  match e.state with
  | .tap old => { e with state := .tap t, meter := 0, waiting := if old.port = t.port then e.waiting else none }
  | .idle => { e.clearFigures with state := .tap t, meter := 0 }
  | .test _ => { e.clearFigures with state := .tap t, meter := 0 }

/-- The tap attached; a test in progress first ends ABORTED (R144, R152). -/
def attachTap (t : Tap) (s : State) : State :=
  let u := match s.engine.state with
    | .test _ => endTest .aborted s
    | .tap _ => s
    | .idle => s
  { u with engine := u.engine.attach t }

/-- The attachment that an ATTACH_TAP carries, when its track, port, destination and include-sealed byte are in range (R144,
R181). -/
def readTap (p : List Byte) : Option Tap :=
  match finOf? 48 (fieldAt p 4 1), portOf (fieldAt p 6 1) with
  | some k, some port =>
    if macAt p 8 = 0 ∨ groupBit (macAt p 8) = true ∨ isYesNo (byteAt p 5) = false then none
    else some { track := k, includeSealed := byteAt p 5 == 1, port := port, destination := macAt p 8 }
  | _, _ => none

/-- ATTACH_TAP (R144). -/
def answerAttachTap (p : List Byte) (s : State) : Answer :=
  match readTap p with
  | some t => accept (attachTap t s)
  | none => refuse .range s

/-- DETACH (R145). -/
def answerDetach (_ : List Byte) (s : State) : Answer :=
  match s.engine.state with
  | .idle => refuse .state s
  | .tap _ => accept { s with engine := { s.engine with state := .idle, waiting := none } }
  | .test _ => accept (endTest .aborted s)

/-- The checker at the start of a test (R149; log entry 32). -/
def Checker.fresh : Checker := { generator := 0, expected := 0, synchronised := false }

/-- A test starts (R149). -/
def startTest (i : Fin 16) (duration : Nat) (s : State) : State :=
  let t : LineTest :=
    { station := i, address := (s.entry i).address, duration := duration, elapsed := 0, answered := false,
      checker := Checker.fresh }
  let u := { s with engine := { s.engine.clearFigures with state := .test t, waiting := none, meter := 0 } }
  enterTest i (sendTestCommand t.address true duration u)

/-- The state refuses a line test of a station (R149, steps 2 and 3); one of an enabled entry with station address 0 is not refused
(log entry 51). -/
def testRefused (s : State) (i : Fin 16) : Bool :=
  (match s.engine.state with
   | .test _ => true
   | .tap _ => false
   | .idle => false)
    || s.stations[i].state == .disabled || (permissionExamined s && !allWithheld s i)

/-- LINE_TEST (R149). -/
def answerLineTest (p : List Byte) (s : State) : Answer :=
  match finOf? 16 (fieldAt p 4 1) with
  | none => refuse .range s
  | some i =>
    if fieldAt p 6 2 = 0 ∨ testLongest < fieldAt p 6 2 then refuse .range s
    else if testRefused s i then refuse .state s
    else accept (startTest i (fieldAt p 6 2) s)

end Sys2Proof.Machine
end

