-- ==== Sys2Proof/Machine/Supply.lean ====
section
/-! DEFINITION. The resets and STANDBY entry: POWER_ON, SUPPLY_DIP, SOFT_RESET_FULL, SOFT_RESET_RUNTIME and STANDBY_ENTRY
(R138, R139, R141). -/

namespace Sys2Proof.Machine

/-- POWER_ON (R141). -/
def execPowerOn (s : State) : Host.Outcome State Fault Refusal := .next (hardReset .powerOn s)

/-- SUPPLY_DIP (R141). -/
def execSupplyDip (s : State) : Host.Outcome State Fault Refusal := .next (hardReset .supplyDip s)

/-- The REPLY that a soft reset or STANDBY entry waits for has been transmitted; nothing where no such reply is in transmission
(log entries 1 and 25). -/
def replySent (a : AfterReply) (s : State) : State :=
  if replyInTransmission s a then settle (completeTransmission .B s) else s

/-- SOFT_RESET_FULL (R141). -/
def execSoftResetFull (s : State) : Host.Outcome State Fault Refusal := .next (replySent .resetFull s)

/-- SOFT_RESET_RUNTIME (R141). -/
def execSoftResetRuntime (s : State) : Host.Outcome State Fault Refusal := .next (replySent .resetRuntime s)

/-- STANDBY_ENTRY (R138, R139). -/
def execStandbyEntry (s : State) : Host.Outcome State Fault Refusal := .next (replySent .enterStandby s)

end Sys2Proof.Machine
end

