-- ==== Sys2Proof/Machine/Arrivals.lean ====
section
/-! DEFINITION. What arrives at the ports: link changes, frames that fail reception, and the arrivals of R154, R156 and R157. A
command whose frame does not arrive, or falls in another class, leaves the state as it stands (log entry 1). -/

namespace Sys2Proof.Machine

/-- LINK_STATE_CHANGE (R163). -/
def execLinkStateChange (p : Port) (up : Bool) (s : State) : Host.Outcome State Fault Refusal :=
  .next (settle (changeLink p up s))

/-- RECEIVE_ERROR (R154). -/
def execReceiveError (p : Port) (whole : Bool) (bytes : List Byte) (fcs : BitVec 32) (s : State) :
    Host.Outcome State Fault Refusal :=
  .next (if (s.port p).linkUp && receptionFails whole bytes fcs then countReceiveError p s else s)

/-- LOOPED_COPY (R154). -/
def execLoopedCopy (p : Port) (f : Frame) (s : State) : Host.Outcome State Fault Refusal :=
  .next (if arrivesAs s p f .looped then countLoop p s else s)

/-- PASS_THROUGH (R156, R157, R159). -/
def execPassThrough (p : Port) (f : Frame) (s : State) : Host.Outcome State Fault Refusal :=
  .next (if arrivesAs s p f .passThrough then settle (forwardFrom p f s) else s)

/-- MISDIRECTED: the frame wakes the part if it is in STANDBY and is then counted (R140, R156 to R158). -/
def execMisdirected (p : Port) (f : Frame) (s : State) : Host.Outcome State Fault Refusal :=
  .next (if arrivesAs s p f .misdirected then settle (countMisdirected p f (wakeByFrame f s)) else s)

/-- A mark as the timebase observes it: counted when malformed, taken when the part is awake and its source passes (R2, R156,
R158). -/
def observeMark (f : Frame) (time : Tick) (s : State) : State :=
  if wellFormed f.body 4 = false then countMalformed .A s
  else if s.part.awake && markSource s f then takeMark (wordAt (payloadOf f.body) 0) time s
  else s

/-- A mark is forwarded by its destination alone (R156, R158). -/
def forwardMark (f : Frame) (s : State) : State := if f.dst = s.config.ownAddress then s else forwardFrom .A f s

/-- CADENCE_MARK (R2, R156). -/
def execCadenceMark (f : Frame) (time : Tick) (s : State) : Host.Outcome State Fault Refusal :=
  .next (if arrivesAs s .A f .cadenceMark then settle (forwardMark f (observeMark f time s)) else s)

/-- STATION_AUDIO (R25). -/
def execStationAudio (f : Frame) (s : State) : Host.Outcome State Fault Refusal :=
  .next (if arrivesAs s .A f .stationAudio then settle (receiveAudio f s) else s)

/-- A grant taken for a stream: a grant of 0 does not act on the stall timer (R121, R122, R125). -/
def grantCredit (st : Stream) (g : Nat) (s : State) : State :=
  if g = 0 then s else modStream st (fun x => (x.addCredit g).followStall) s

/-- A CREDIT frame that names a stream (R122). -/
def creditStream (st : Stream) (f : Frame) (s : State) : State :=
  if s.proceeding.state = .idle then s
  else if (s.stream st).takesPart && f.src == (s.stream st).entry.destination then
    grantCredit st (fieldAt (payloadOf f.body) 1 1) s
  else modStream st (fun x => { x with ignoredCredit := satInc16 x.ignoredCredit }) s

/-- Record Output takes a CREDIT frame, or counts a malformed one (R122, R158). -/
def takeCredit (f : Frame) (s : State) : State :=
  if wellFormed f.body 4 = false then countMalformed .B s
  else match streamOf (fieldAt (payloadOf f.body) 0 1) with
    | some st => creditStream st f s
    | none => s

/-- CREDIT (R122, R157). -/
def execCredit (f : Frame) (s : State) : Host.Outcome State Fault Refusal :=
  .next (if arrivesAs s .B f .credit then settle (takeCredit f (wakeByFrame f s)) else s)

/-- The conditions under which a CLOSE_ACK is taken for a stream (R136). -/
def ackTaken (s : State) (st : Stream) (f : Frame) : Bool :=
  s.proceeding.state == .confirming && (s.stream st).takesPart && (s.stream st).closeState == .closeSent
    && f.src == (s.stream st).entry.destination
    && BitVec.ofNat 64 (fieldAt (payloadOf f.body) 4 8) == s.proceeding.id

/-- The record count and check that a CLOSE_ACK reports (R183). -/
def ackFigures (f : Frame) : CloseFigures :=
  { count := wordAt (payloadOf f.body) 12, check := wordAt (payloadOf f.body) 16 }

/-- Proceeding Control takes a CLOSE_ACK frame, or the port counts a malformed one (R136, R158). -/
def takeCloseAck (f : Frame) (s : State) : State :=
  if wellFormed f.body 20 = false then countMalformed .B s
  else match streamOf (fieldAt (payloadOf f.body) 0 1) with
    | some st => if ackTaken s st f then takeAck st (ackFigures f) s else s
    | none => s

/-- CLOSE_ACK (R136, R157). -/
def execCloseAck (f : Frame) (s : State) : Host.Outcome State Fault Refusal :=
  .next (if arrivesAs s .B f .closeAck then settle (takeCloseAck f (wakeByFrame f s)) else s)

/-- REQUEST (R157, R167, R168). -/
def execRequest (f : Frame) (s : State) : Host.Outcome State Fault Refusal :=
  .next (if arrivesAs s .B f .request then settle (takeRequest f (wakeByFrame f s)) else s)

end Sys2Proof.Machine
end

