-- ==== Sys2Proof/Machine/Timers.lean ====
section
/-! DEFINITION. Timers, limits and the end of a transmission. A command whose timer does not run or whose limit is not reached leaves
the state as it stands (log entries 1 and 3). -/

namespace Sys2Proof.Machine

/-- GUARD_EXPIRY (R7). -/
def execGuardExpiry (s : State) : Host.Outcome State Fault Refusal := .next (settle (expireGuard s))

/-- SYNTHESIS_TIMER_EXPIRY (R8). -/
def execSynthesisTimerExpiry (s : State) : Host.Outcome State Fault Refusal := .next (settle (expireSynthesis s))

/-- A station's silence count stands at its limit (R24). -/
def silenceDue (x : Station) : Bool := x.state.running && decide (silenceLimit ≤ x.silence)

/-- SILENCE_COUNT_LIMIT (R24). -/
def execSilenceCountLimit (i : Fin 16) (s : State) : Host.Outcome State Fault Refusal :=
  .next (if silenceDue s.stations[i] then settle (enterAbsent i s) else s)

/-- TALLY_REFRESH (R76). -/
def execTallyRefresh (s : State) : Host.Outcome State Fault Refusal :=
  .next (if s.part.awake && decide (refreshPeriod ≤ s.tally.refresh) then settle (sendRefresh s) else s)

/-- A stall that stands at its limit and has not been reported (R125). -/
def stallUnreported (s : State) (st : Stream) : Bool :=
  (s.stream st).takesPart && (s.stream st).stallDue && !(s.stream st).stallReported

/-- The three things that a stall at its limit does, with the records held as the limit was reached (R125). -/
def reportStall (st : Stream) (s : State) : State :=
  let x := s.stream st
  logFault faultOutput
    { subject := BitVec.ofNat 48 (streamCode st), block := s.timebase.blockNumber,
      detail := half x.stallHeld ++ byte x.entry.stallLimit }
    (modStream st (fun y =>
      { y with stalledMark := true, stallReported := true, stalledCount := satInc16 y.stalledCount })
      (raise .recorderStalled s))

/-- RECORDER_STALLED, with the drain failure that it starts in DRAINING (R125, R134). -/
def execRecorderStalled (st : Stream) (s : State) : Host.Outcome State Fault Refusal :=
  .next (if stallUnreported s st then settle (takeDrainFailure st (reportStall st s)) else s)

/-- CLOSE_UNCONFIRMED (R136). -/
def execCloseUnconfirmed (st : Stream) (s : State) : Host.Outcome State Fault Refusal :=
  .next (if s.proceeding.state == .confirming && (s.stream st).confirmDue then
      settle (failClose st .unconfirmed { count := 0, check := 0 } s)
    else s)

/-- The end of the running test, when it is due (R151). -/
def endDueTest (s : State) : State :=
  match s.engine.state with
  | .test t => if testDue t then settle (endTest (testResult s.engine t) s) else s
  | .idle => s
  | .tap _ => s

/-- LINE_TEST_END (R151). -/
def execLineTestEnd (s : State) : Host.Outcome State Fault Refusal := .next (endDueTest s)

/-- NOTICE_HOLDOFF_EXPIRY (R176, R177). -/
def execNoticeHoldoffExpiry (s : State) : Host.Outcome State Fault Refusal :=
  .next (if s.management.holdoff then settle (endHoldoff s) else s)

/-- FRAME_TRANSMITTED (R124, R138, R141, R159, R160). -/
def execFrameTransmitted (p : Port) (s : State) : Host.Outcome State Fault Refusal :=
  .next (settle (completeTransmission p s))

/-- The lapse of 122,880 reference ticks with no command: while the timebase makes no boundary, the tally refresh (but for STANDBY)
and the elapsed count of a line test advance (R76, R151; log entry 2). -/
def idleTick (s : State) : State :=
  if s.producing || !s.part.awake then s else countTest (countRefresh s)

end Sys2Proof.Machine
end

