-- ==== Sys2Proof/Machine/Service.lean ====
section
/-! DEFINITION. The service of requests: one command per row, each the service of the request at the head of the Request Queue when
it is of that row (R169). -/

namespace Sys2Proof.Machine

/-- UNKNOWN_REQUEST (R169). -/
def execUnknownRequest (s : State) : Host.Outcome State Fault Refusal := .next (serve .unknownRequest answerUnknown s)

/-- READ_ENTRIES of a table other than STATION_STATUS (R170). -/
def execReadEntries (s : State) : Host.Outcome State Fault Refusal := .next (serve .readEntries answerRead s)

/-- READ_STATION_STATUS (R40, R170). -/
def execReadStationStatus (s : State) : Host.Outcome State Fault Refusal := .next (serve .readStationStatus answerReadStatus s)

/-- WRITE_ENTRIES of STATION_STATUS, FAULT_LOG or an unknown table (R171). -/
def execWriteEntries (s : State) : Host.Outcome State Fault Refusal := .next (serve .writeEntries answerWriteRefused s)

/-- WRITE_STATION (R19 to R21, R171). -/
def execWriteStation (s : State) : Host.Outcome State Fault Refusal := .next (serve .writeStation answerWriteStation s)

/-- WRITE_TRACK_MAP (R62, R171). -/
def execWriteTrackMap (s : State) : Host.Outcome State Fault Refusal := .next (serve .writeTrackMap answerWriteTrackMap s)

/-- WRITE_DISPOSITION (R70, R171). -/
def execWriteDisposition (s : State) : Host.Outcome State Fault Refusal := .next (serve .writeDisposition answerWriteDisposition s)

/-- WRITE_TALLY_OVERRIDE (R77, R171). -/
def execWriteTallyOverride (s : State) : Host.Outcome State Fault Refusal := .next (serve .writeTallyOverride answerWriteOverride s)

/-- WRITE_STREAM (R113, R171). -/
def execWriteStream (s : State) : Host.Outcome State Fault Refusal := .next (serve .writeStream answerWriteStream s)

/-- WRITE_DEVICE_CONFIG (R165, R171). -/
def execWriteDeviceConfig (s : State) : Host.Outcome State Fault Refusal := .next (serve .writeDeviceConfig answerWriteConfig s)

/-- SET_MODE (R65). -/
def execSetMode (s : State) : Host.Outcome State Fault Refusal := .next (serve .setMode answerSetMode s)

/-- PUSH_MODE (R66). -/
def execPushMode (s : State) : Host.Outcome State Fault Refusal := .next (serve .pushMode answerPushMode s)

/-- POP_MODE (R67). -/
def execPopMode (s : State) : Host.Outcome State Fault Refusal := .next (serve .popMode answerPopMode s)

/-- OPEN_PROCEEDING (R130). -/
def execOpenProceeding (s : State) : Host.Outcome State Fault Refusal := .next (serve .openProceeding answerOpen s)

/-- CLOSE_PROCEEDING (R131, R132). -/
def execCloseProceeding (s : State) : Host.Outcome State Fault Refusal := .next (serve .closeProceeding answerClose s)

/-- QUERY_STATUS (R175). -/
def execQueryStatus (s : State) : Host.Outcome State Fault Refusal := .next (serve .queryStatus answerStatus s)

/-- READ_FAULTS (R179). -/
def execReadFaults (s : State) : Host.Outcome State Fault Refusal := .next (serve .readFaults answerReadFaults s)

/-- CLEAR_FAULTS (R179). -/
def execClearFaults (s : State) : Host.Outcome State Fault Refusal := .next (serve .clearFaults answerClearFaults s)

/-- CLEAR_COUNTERS (R172). -/
def execClearCounters (s : State) : Host.Outcome State Fault Refusal := .next (serve .clearCounters answerClearCounters s)

/-- ATTACH_TAP (R144). -/
def execAttachTap (s : State) : Host.Outcome State Fault Refusal := .next (serve .attachTap answerAttachTap s)

/-- DETACH (R145). -/
def execDetach (s : State) : Host.Outcome State Fault Refusal := .next (serve .detach answerDetach s)

/-- LINE_TEST (R149). -/
def execLineTest (s : State) : Host.Outcome State Fault Refusal := .next (serve .lineTest answerLineTest s)

/-- SET_RECORD_TIME (R18). -/
def execSetRecordTime (s : State) : Host.Outcome State Fault Refusal := .next (serve .setRecordTime answerSetTime s)

/-- STANDBY (R138). -/
def execStandby (s : State) : Host.Outcome State Fault Refusal := .next (serve .standby answerStandby s)

/-- SOFT_RESET (R141). -/
def execSoftReset (s : State) : Host.Outcome State Fault Refusal := .next (serve .softReset answerSoftReset s)

/-- SET_CONTROLLER (R166). -/
def execSetController (s : State) : Host.Outcome State Fault Refusal := .next (serve .setController answerSetController s)

end Sys2Proof.Machine
end

