-- ==== Sys2Proof/Machine/Dispatch.lean ====
section
/-! DEFINITION. The meaning of every command: one arm per row of the opcode table. -/

namespace Sys2Proof.Machine

def exec (i : Instr) (s : State) : Host.Outcome State Fault Refusal :=
  match i with
  | .powerOn => Sys2Proof.Machine.execPowerOn s
  | .supplyDip => Sys2Proof.Machine.execSupplyDip s
  | .softResetFull => Sys2Proof.Machine.execSoftResetFull s
  | .softResetRuntime => Sys2Proof.Machine.execSoftResetRuntime s
  | .linkStateChange port up => Sys2Proof.Machine.execLinkStateChange port up s
  | .receiveError port whole bytes fcs => Sys2Proof.Machine.execReceiveError port whole bytes fcs s
  | .loopedCopy port frame => Sys2Proof.Machine.execLoopedCopy port frame s
  | .passThrough port frame => Sys2Proof.Machine.execPassThrough port frame s
  | .misdirected port frame => Sys2Proof.Machine.execMisdirected port frame s
  | .cadenceMark frame time => Sys2Proof.Machine.execCadenceMark frame time s
  | .guardExpiry => Sys2Proof.Machine.execGuardExpiry s
  | .synthesisTimerExpiry => Sys2Proof.Machine.execSynthesisTimerExpiry s
  | .silenceCountLimit station => Sys2Proof.Machine.execSilenceCountLimit station s
  | .tallyRefresh => Sys2Proof.Machine.execTallyRefresh s
  | .recorderStalled stream => Sys2Proof.Machine.execRecorderStalled stream s
  | .closeUnconfirmed stream => Sys2Proof.Machine.execCloseUnconfirmed stream s
  | .lineTestEnd => Sys2Proof.Machine.execLineTestEnd s
  | .noticeHoldoffExpiry => Sys2Proof.Machine.execNoticeHoldoffExpiry s
  | .stationAudio frame => Sys2Proof.Machine.execStationAudio frame s
  | .credit frame => Sys2Proof.Machine.execCredit frame s
  | .closeAck frame => Sys2Proof.Machine.execCloseAck frame s
  | .frameTransmitted port => Sys2Proof.Machine.execFrameTransmitted port s
  | .standbyEntry => Sys2Proof.Machine.execStandbyEntry s
  | .request frame => Sys2Proof.Machine.execRequest frame s
  | .unknownRequest => Sys2Proof.Machine.execUnknownRequest s
  | .readEntries => Sys2Proof.Machine.execReadEntries s
  | .readStationStatus => Sys2Proof.Machine.execReadStationStatus s
  | .writeEntries => Sys2Proof.Machine.execWriteEntries s
  | .writeStation => Sys2Proof.Machine.execWriteStation s
  | .writeTrackMap => Sys2Proof.Machine.execWriteTrackMap s
  | .writeDisposition => Sys2Proof.Machine.execWriteDisposition s
  | .writeTallyOverride => Sys2Proof.Machine.execWriteTallyOverride s
  | .writeStream => Sys2Proof.Machine.execWriteStream s
  | .writeDeviceConfig => Sys2Proof.Machine.execWriteDeviceConfig s
  | .setMode => Sys2Proof.Machine.execSetMode s
  | .pushMode => Sys2Proof.Machine.execPushMode s
  | .popMode => Sys2Proof.Machine.execPopMode s
  | .openProceeding => Sys2Proof.Machine.execOpenProceeding s
  | .closeProceeding => Sys2Proof.Machine.execCloseProceeding s
  | .queryStatus => Sys2Proof.Machine.execQueryStatus s
  | .readFaults => Sys2Proof.Machine.execReadFaults s
  | .clearFaults => Sys2Proof.Machine.execClearFaults s
  | .clearCounters => Sys2Proof.Machine.execClearCounters s
  | .attachTap => Sys2Proof.Machine.execAttachTap s
  | .detach => Sys2Proof.Machine.execDetach s
  | .lineTest => Sys2Proof.Machine.execLineTest s
  | .setRecordTime => Sys2Proof.Machine.execSetRecordTime s
  | .standby => Sys2Proof.Machine.execStandby s
  | .softReset => Sys2Proof.Machine.execSoftReset s
  | .setController => Sys2Proof.Machine.execSetController s

end Sys2Proof.Machine
end

