-- ==== Sys2Proof/Safety.lean ====
section
/-! DEFINITION. The terms in which claims about the part are stated: what a settled state is, the invariants of every run, a part
just woken, an applied Station Table entry, the pattern of a line test, merged runs, a request that is served and the reply it gets,
a mark that the timebase takes, and the CRC-32 as the manual words it. -/

namespace Sys2Proof.Machine

/-! ## Settled states -/

/-- Nothing waits where it could go: the sender has no eligible stream left untaken (R123), and a port with its link UP and no frame
in transmission has no frame waiting for it (R160 to R162). -/
def State.Settled (s : State) : Prop :=
  (s.output.sending = none → s.output.openS.eligible = false ∧ s.output.sealedS.eligible = false) ∧
  (portReady s .A = true → s.ports.control = [] ∧ monitorFor s .A = none ∧ s.ports.forwardBA = []) ∧
  (portReady s .B = true →
    s.ports.management = [] ∧ monitorFor s .B = none ∧ offeredFrame s = none ∧ s.ports.forwardAB = [])

/-! ## Invariants -/

/-- Both copies of the staged tables are ones that R20 and R62 allow. -/
def State.TablesConsistent (s : State) : Prop :=
  s.tables.active.consistent = true ∧ s.tables.shadow.consistent = true

/-- Every Toggle List holds at most 8 entries (R79, R83). -/
def State.TogglesBounded (s : State) : Prop := ∀ g : Fin 8, (s.groups[g]).toggles.length ≤ 8

/-- Credits and initial credits lie between 0 and 255 (R113, R121). -/
def State.CreditsBounded (s : State) : Prop :=
  ∀ st : Stream, (s.stream st).credit ≤ 255 ∧ (s.stream st).entry.initialCredit ≤ 255

/-- The configured and the effective close delay lie between 1 and 8 (R38, R91). -/
def State.CloseDelayInRange (s : State) : Prop :=
  1 ≤ s.config.closeDelay ∧ s.config.closeDelay ≤ 8 ∧ 1 ≤ s.assembler.closeDelay ∧ s.assembler.closeDelay ≤ 8

/-- What QUERY_STATUS never shows above its range: saved modes, queued requests and Mark History entries (R13, R66, R168). -/
def State.ListsBounded (s : State) : Prop :=
  s.mode.stack.length ≤ 4 ∧ s.management.requests.length ≤ 4 ∧ s.timebase.history.length ≤ 16

/-- The Record Store holds at most 2,048 records, at most 1,024 of them SEALED (R115). -/
def State.StoreBounded (s : State) : Prop :=
  s.output.openS.held + s.output.sealedS.held ≤ 2048 ∧ s.output.sealedS.held ≤ 1024

/-- Each forwarding queue and the control queue hold at most 64 frames, and at most 7 replies and one NOTICE wait (R159, R161,
R162). -/
def State.QueuesBounded (s : State) : Prop :=
  s.ports.forwardAB.length ≤ 64 ∧ s.ports.forwardBA.length ≤ 64 ∧ s.ports.control.length ≤ 64 ∧
    (s.ports.management.filter (fun m => !m.notice)).length ≤ 7 ∧ (s.ports.management.filter (·.notice)).length ≤ 1

/-! ## Resets and wake -/

/-- The start notice of a reset (R142, R176, R185): RESET_DONE alone set, the reset cause's code, a proceeding in IDLE and a block
number. -/
def startNoticeFrame (c : DeviceConfig) (cause : Byte) (block : BlockNo) : Frame :=
  { dst := c.controller, src := c.ownAddress, etherType := c.etherType,
    body := lrtBody 0x22 ([0, 0, 0, 1, cause, 0, 0, 0] ++ wordBytes block) }

/-- The Port Interface after a soft reset: its reset values with the link states kept, and with a Controller Address the start
notice in transmission when link B is UP, and waiting otherwise (R142, R164). -/
def restartedPorts (s : State) (notice : Frame) : Ports :=
  let goes := decide (s.config.controller ≠ 0)
  { State.reset.ports with
    a := { State.reset.ports.a with linkUp := s.ports.a.linkUp }
    b := { State.reset.ports.b with
      linkUp := s.ports.b.linkUp
      transmitting := if goes && s.ports.b.linkUp then some { origin := .notice, frame := notice } else none }
    management := if goes && !s.ports.b.linkUp then [{ notice := true, after := .nothing, frame := notice }] else [] }

/-- A part in STANDBY has been woken by a cause: awake with the cause held, WOKEN set, the timebase in SEARCH afresh, and otherwise
only the lamps with their TALLY frames and what raising a flag changes (R12, R140). -/
def Woken (c : WakeCause) (s t : State) : Prop :=
  flagSet t .woken = true ∧
  t = { s with part := { s.part with awake := true, wakeCause := some c }
               timebase := { s.timebase with state := .search, candidateCount := 0, history := [] }
               tally := { s.tally with lamps := t.tally.lamps }
               management := { s.management with
                 flags := s.management.flags ||| EventFlag.woken.mask
                 holdoff := t.management.holdoff
                 noticePending := t.management.noticePending }
               ports := { s.ports with
                 control := t.ports.control, tallyDrop := t.ports.tallyDrop, management := t.ports.management } }

/-- What a mode button makes of the current mode and the Mode Stack, oldest saved mode first, or none where it is dropped: the
replacing buttons, the pushing buttons, which keep the 3 newest saved modes under the one they save, and END_SIDEBAR (R65 to R67,
R182). -/
def modeButton (code : Nat) (current : CourtMode) (stack : List CourtMode) : Option (CourtMode × List CourtMode) :=
  match code with
  | 3 => some (.onRecord, [])
  | 4 => some (.offRecord, [])
  | 5 => some (.sidebar, stack.drop (stack.length - 3) ++ [current])
  | 6 =>
    if current = .sidebar then
      match stack.getLast? with
      | some m => some (m, stack.dropLast)
      | none => some (.offRecord, [])
    else none
  | 7 => some (.closedHearing, stack.drop (stack.length - 3) ++ [current])
  | 8 => some (.recess, [])
  | _ => none

/-! ## Applied Station Table entries (R21) -/

/-- A station x has become y by an applied write of its entry: DISABLED or ABSENT with its reception state emptied, its tracker stopped
and its event serials forgotten, or as it stood; an identity change clears its counts and figures too, and the tracker mode is loaded
in every case (R21, R23, R59). -/
def EntryApplied (old new : StationEntry) (x y : Station) : Prop :=
  let emptied : Station := { x with
    window := [], releasePoint := none, evictedBelow := none, silence := 0, newestSerial := none
    tracker := { x.tracker with boundaries := [], coastCount := 0, mode := new.trackerMode } }
  let loaded : Station := { x with tracker := { x.tracker with mode := new.trackerMode } }
  let identity := old.address = new.address ∧ old.windowOrder = new.windowOrder ∧ old.channels = new.channels
  (new.valid = false → x.state = .disabled → y = loaded) ∧
  (new.valid = false → x.state ≠ .disabled → y = { emptied with state := .disabled }) ∧
  (new.valid = true → old.valid = false → y = { emptied with state := .absent }) ∧
  (new.valid = true → old.valid = true → identity → y = loaded) ∧
  (new.valid = true → old.valid = true → ¬ identity → y = { emptied with
    state := .absent, jitterCount := 0, lateCount := 0, formatCount := 0, evictCount := 0
    tracker := { emptied.tracker with reanchor := 0, lastD := 0, peakD := 0 } })

/-! ## The pattern of a line test (R150) -/

/-- The n bits that continue the PRBS-15 sequence after its last 15 bits, oldest first: each is the exclusive-OR of the bits 15 and
14 places before it. -/
def prbsAfter : List Bool → Nat → List Bool
  | _, 0 => []
  | past, n + 1 =>
    let b := xor (past.getD 0 false) (past.getD 1 false)
    b :: prbsAfter (past.drop 1 ++ [b]) n

/-- The last 15 bits of the sequence that a checker's generator holds, oldest first. -/
def Checker.past (c : Checker) : List Bool := (List.range 15).map (fun i => c.generator.getLsbD (14 - i))

/-- The bits that differ between two lists of one length. -/
def mismatches (a b : List Bool) : Nat := ((a.zip b).filter (fun p => p.1 != p.2)).length

/-- A checker and its engine have compared bits as the continuation of 15 earlier bits: synchronised, the expected counter 48 past
the frame's, every compared bit and every differing bit counted, the missing frames as given, and nothing else of the engine
changed (R150). -/
def Compared (past bits : List Bool) (counter : Counter) (missing : Nat) (e : Engine) (r : Checker × Engine) : Prop :=
  r.1.synchronised = true ∧ r.1.expected = counter + 48 ∧ r.1.past = (past ++ prbsAfter past bits.length).drop bits.length ∧
  r.2 = { e with bitsChecked := satAdd 4294967295 e.bitsChecked bits.length
                 bitErrors := satAdd 4294967295 e.bitErrors (mismatches bits (prbsAfter past bits.length))
                 missingFrames := missing }

/-! ## Merged runs (R117, R134) -/

/-- A run covers a nonempty list of series in order: first block, mode, map generation and record time of the first, last block of
the last, and HOLDOVER when any is (R116, R117, R134). -/
def RunRegister.Covers (r : RunRegister) (l : List RunRegister) : Prop :=
  ∃ x z, l.head? = some x ∧ l.getLast? = some z ∧
    r.first = x.first ∧ r.mode = x.mode ∧ r.mapGeneration = x.mapGeneration ∧ r.time = x.time ∧ r.last = z.last ∧
    (r.quality = .holdover ↔ ∃ y ∈ l, y.quality = .holdover)

/-! ## Requests -/

/-- The request r is at the head of the Request Queue with `rest` behind it, is of the row k, and may be served (R169). -/
def Serving (s : State) (k : RequestKind) (r : Request) (rest : List Request) : Prop :=
  s.management.requests = r :: rest ∧ requestKind r.body = k ∧ mayServe s = true

/-- The state once the head request has left the queue. -/
def dequeued (s : State) (rest : List Request) : State :=
  { s with management := { s.management with requests := rest } }

/-- The REPLY to a request under a Device Configuration (R169, R185, R186): to the request's source, with its tag, its code, the
result and the data. -/
def replyTo (c : DeviceConfig) (r : Request) (result : ResultCode) (data : List Byte) : Frame :=
  { dst := r.source, src := c.ownAddress, etherType := c.etherType,
    body := lrtBody kindReply (requestEcho r.body ++ byte result.code ++ data) }

/-- A settled state once a REPLY has been built: in transmission when port B was ready, and otherwise at the tail of the management
transmit queue, where the seventh to wait holds back the service of requests; nothing else changes (R160, R162; log entry 50). -/
def withReply (a : AfterReply) (f : Frame) (s : State) : State :=
  if portReady s .B then modPort .B (fun p => { p with transmitting := some { origin := .reply a, frame := f } }) s
  else { s with ports := { s.ports with
    management := s.ports.management ++ [{ notice := false, after := a, frame := f }],
    repliesFull := s.ports.repliesFull || decide (7 ≤ repliesWaiting s + 1) } }

/-- A REPLY is on its way: it waits in the management transmit queue or is in transmission on port B. -/
def Replied (a : AfterReply) (f : Frame) (t : State) : Prop :=
  t.ports.b.transmitting = some { origin := .reply a, frame := f } ∨
    ({ notice := false, after := a, frame := f } : ManagementFrame) ∈ t.ports.management

/-- Payload of a request. -/
def Request.payload (r : Request) : List Byte := payloadOf r.body

/-! ## Marks -/

/-- A CADENCE_MARK frame that arrives on port A, is well formed and passes the source check while the part is awake (R2). -/
def MarkArrives (s : State) (f : Frame) : Prop :=
  arrivesAs s .A f .cadenceMark = true ∧ wellFormed f.body 4 = true ∧ s.part.awake = true ∧ markSource s f = true

/-- The mark number a CADENCE_MARK frame carries (R182). -/
def markNumber (f : Frame) : MarkNo := wordAt (payloadOf f.body) 0

/-- A boundary was taken between two timebases: the block number rises by one, the boundary has the given kind, mark and time, the
expected mark is the following one, and its Mark History entry is the newest (R3, R13). -/
def BoundaryTaken (a b : Timebase) (kind : BoundaryKind) (mark : MarkNo) (time : Tick) : Prop :=
  b.blockNumber = a.blockNumber + 1 ∧ b.lastKind = kind ∧ b.last = some time ∧ b.expected = mark + 1 ∧
    b.history.getLast? = some { mark := mark, block := a.blockNumber + 1 }

/-! ## Arrivals -/

/-- A well-formed frame of a row, on port B, while the part is awake. -/
def ArrivesAwake (s : State) (f : Frame) (c : ArrivalClass) : Prop :=
  arrivesAs s .B f c = true ∧ s.part.awake = true

/-! ## The CRC-32 in the manual's words (R187) -/

/-- The bits of a byte, least significant first: the order in which they enter. -/
def bitsLowFirst (b : Byte) : List Bool := (List.range 8).map (fun i => b.getLsbD i)

/-- One bit entering the unreflected register, which divides by the generator polynomial 04C11DB7h. -/
def divideStep (r : BitVec 32) (b : Bool) : BitVec 32 :=
  if r.getLsbD 31 != b then (r <<< 1) ^^^ 0x04C11DB7 else r <<< 1

/-- The register reflected: bit i becomes bit 31 − i. -/
def reflect (r : BitVec 32) : BitVec 32 := (List.range 32).foldl (fun acc i => (acc <<< 1) ||| (if r.getLsbD i then 1 else 0)) 0

/-- The CRC-32 as R187 words it: a register that starts at FFFFFFFFh, the bits of each byte least significant first, the register
reflected at the end and exclusive-ORed with FFFFFFFFh. -/
def manualCrc (bs : List Byte) : BitVec 32 :=
  reflect ((bs.flatMap bitsLowFirst).foldl divideStep 0xFFFFFFFF) ^^^ 0xFFFFFFFF

/-! ## Runs -/

/-- No two adjacent segments share both kind and cause (R99). -/
def SegmentsAlternate : List Segment → Prop
  | [] => True
  | [_] => True
  | a :: b :: rest => (a.kind ≠ b.kind ∨ a.cause ≠ b.cause) ∧ SegmentsAlternate (b :: rest)

/-- The record time as a count of 5 ms units. -/
def RecordTime.units (t : RecordTime) : Nat :=
  (((t.hours * 60 + t.minutes) * 60 + t.seconds) * 100 + t.hundredths) * 2 + (if t.half then 1 else 0)

/-- A record time whose fields lie in their ranges (section 1.8). -/
def RecordTime.legal (t : RecordTime) : Prop :=
  t.hours ≤ 99 ∧ t.minutes ≤ 59 ∧ t.seconds ≤ 59 ∧ t.hundredths ≤ 99

end Sys2Proof.Machine
end

