-- ==== Sys2Proof/Certificates/Slice0/Obligations.lean ====
section
/-! DEFINITION. The statements for the provers. A statement with the premise `Settled` rests on the invariant that
`Obligations.SettledIsKept` states; one with `Serving` speaks of a request at the head of the Request Queue. -/

open Sys2Proof Sys2Proof.Machine

/-! ## The step -/

/-- A step runs the command at the front of the queue on the state with the queue's rest. The spec's steps are whole and indivisible;
the queue of waiting commands is the model's own (log entries 30 and 37). -/
def Obligations.StepRunsFrontCommand : Prop :=
  ∀ (c : Instr) (s : State) (rest : List Instr), s.pending = c :: rest →
    step s = exec c { s with pending := rest }

/-- On an empty queue one period of 122,880 ticks lapses (the model's choice, log entry 2): nothing changes while boundaries are
produced or in STANDBY; in SEARCH the refresh count advances up to 200, and the elapsed count of a test up to its duration; without a
test the engine stays as it is. -/
def Obligations.EmptyQueueLapsesPeriod : Prop :=
  ∀ s : State, s.pending = [] →
    ((s.timebase.state ≠ .search ∨ s.part.awake = false) → step s = .next s) ∧
    (s.timebase.state = .search → s.part.awake = true → ∃ t, step s = .next t ∧
      t = { s with tally := { s.tally with refresh := t.tally.refresh }, engine := t.engine } ∧
      t.tally.refresh = (if s.tally.refresh < 200 then s.tally.refresh + 1 else s.tally.refresh) ∧
      (∀ x, s.engine.state = .test x → t.engine = { s.engine with state := .test { x with
        elapsed := if x.elapsed < x.duration then x.elapsed + 1 else x.elapsed } }) ∧
      ((∀ x, s.engine.state ≠ .test x) → t.engine = s.engine))

/-! ## Invariants -/

/-- Every step from a settled state answers a settled state: no eligible record is left untaken by an idle sender, and no frame waits
at a port that could send it (R123, R160 to R162). That both act within the command is the model's choice (log entry 11). -/
def Obligations.SettledIsKept : Prop := ∀ s t : State, s.Settled → step s = .next t → t.Settled

/-- Every step keeps both copies of the tables free of what R20 and R62 refuse: shared addresses, channels beyond a station's count,
two tracks on one channel, and a confer group on two stations. -/
def Obligations.TablesStayConsistent : Prop :=
  ∀ s t : State, s.TablesConsistent → step s = .next t → t.TablesConsistent

/-- Every step keeps every Toggle List at 8 entries or fewer, every credit and initial credit at 255 or less, at most 4 saved modes,
4 queued requests and 16 Mark History entries, the Record Store at 2,048 records with 1,024 of the SEALED stream, each forwarding
queue and the control queue at 64 frames, and 7 replies and one NOTICE waiting. -/
def Obligations.BoundsAreKept : Prop :=
  ∀ s t : State, step s = .next t →
    (s.TogglesBounded → t.TogglesBounded) ∧ (s.CreditsBounded → t.CreditsBounded) ∧ (s.ListsBounded → t.ListsBounded) ∧
    (s.StoreBounded → t.StoreBounded) ∧ (s.QueuesBounded → t.QueuesBounded)

/-- Every step keeps the configured and the effective close delay between 1 and 8. -/
def Obligations.CloseDelayStaysInRange : Prop :=
  ∀ s t : State, s.CloseDelayInRange → step s = .next t → t.CloseDelayInRange

/-- The state after a power-on reset meets every invariant stated here. -/
def Obligations.ResetMeetsInvariants : Prop :=
  State.reset.Settled ∧ State.reset.TablesConsistent ∧ State.reset.TogglesBounded ∧ State.reset.CreditsBounded ∧
    State.reset.CloseDelayInRange ∧ State.reset.ListsBounded ∧ State.reset.StoreBounded ∧ State.reset.QueuesBounded

/-! ## Checks, segments, record time -/

/-- The part's CRC-32 is the one R187 words, over any bytes; the running register over the 4 bytes of each check gives the CRC-32 of
the checks laid end to end. -/
def Obligations.CrcIsTheManuals : Prop :=
  (∀ bs : List Byte, crc32 bs = manualCrc bs) ∧
  crc32 [0x31, 0x32, 0x33, 0x34, 0x35, 0x36, 0x37, 0x38, 0x39] = 0xCBF43926 ∧ crc32 [] = 0 ∧
  (∀ checks : List (BitVec 32),
    checks.foldl (fun r c => crcRun r (wordBytes c)) 0xFFFFFFFF ^^^ 0xFFFFFFFF = manualCrc (checks.flatMap wordBytes))

/-- The segments of a track entry cover its samples exactly, no two adjacent ones share kind and cause, and there are at most 16; a
fold keeps the first 15 segments and loses every later sample. The entries of a block are those of the mapped tracks, in track order,
and an entry has no samples unless its station is in TRACK or COAST with a timing, the cause saying why. A WITHHELD track's samples are
all WITHHELD with cause MODE. Of an OPEN or SEALED track a sample is PRIVILEGED where its group, with confer-permit for its role, is
FORCED or has it inside an interval; else LOST where no held frame covers it, with cause OVERRUN before evicted-below and MISSING
otherwise; else AUDIO or SEALED with the value of its channel in the frame. A TRACK payload lists the segments and carries the values
of the AUDIO samples alone: those of SEALED samples too in the SEALED stream, which shows them as AUDIO, and no other value in any. -/
def Obligations.SegmentsCoverTheBlock : Prop :=
  (∀ cells : List Cell,
    (foldCells cells).length = cells.length ∧
    segmentSum (segmentsOf (foldCells cells)) = cells.length ∧
    SegmentsAlternate (segmentsOf (foldCells cells)) ∧
    (segmentsOf (foldCells cells)).length ≤ 16 ∧
    ((segmentsOf cells).length ≤ 16 → foldCells cells = cells) ∧
    (16 < (segmentsOf cells).length →
      foldCells cells = cells.take (segmentSum ((segmentsOf cells).take 15)) ++
        List.replicate (cells.length - segmentSum ((segmentsOf cells).take 15))
          { kind := .lost, cause := .missing, value := none })) ∧
  (∀ (s : State) (m : CourtMode) (ts : Timings) (gb : Vector GroupBlock 8),
    (buildEntries s m ts gb).map (·.track) = (List.finRange 48).filter (fun k => s.tables.active.tracks[k].mapped) ∧
    ∀ b ∈ buildEntries s m ts gb, b = trackEntry s m ts gb b.track) ∧
  (∀ (s : State) (m : CourtMode) (ts : Timings) (gb : Vector GroupBlock 8) (k : Fin 48),
    let e := s.tables.active.tracks[k]
    let z := s.stations[e.station]
    let d := dispositionIn s.tables.active m e.role
    let b := trackEntry s m ts gb k
    let timed := z.state = .track ∨ z.state = .coast
    (b.track = k ∧ b.station = e.station ∧ b.channel = e.channel ∧ b.role = e.role ∧ b.group = e.group ∧ b.disposition = d) ∧
    (z.state = .test → b.cause = .lineTest) ∧
    (z.state = .disabled ∨ z.state = .absent → b.cause = .noStation) ∧
    (z.state = .acquire ∨ timed ∧ timingOf ts e.station = none → b.cause = .timing) ∧
    (b.cause ≠ .none → b.cells = [] ∧ b.folded = false) ∧
    (∀ x, timed → timingOf ts e.station = some x → b.cause = .none ∧ ∃ raw : List Cell,
      raw.length = x.length ∧ b.cells = foldCells raw ∧ (b.folded = true ↔ 16 < (segmentsOf raw).length) ∧
      (d = .withheldD → ∀ c ∈ raw, c = { kind := .withheldK, cause := .mode, value := none }) ∧
      (d ≠ .withheldD → ∀ o, o < x.length →
        let c := x.start + BitVec.ofNat 32 o
        let unprivileged := ∀ g : Fin 8, e.group.val = g.val + 1 → s.tables.active.permit[e.role.column] = true →
          gb[g].forced = false ∧ ∀ p ∈ gb[g].intervals, ¬ (p.1 ≤ o ∧ o < p.2)
        (∀ g : Fin 8, e.group.val = g.val + 1 → s.tables.active.permit[e.role.column] = true →
          (gb[g].forced = true → raw[o]? = some { kind := .privileged, cause := .forced, value := none }) ∧
          (gb[g].forced = false → (∃ p ∈ gb[g].intervals, p.1 ≤ o ∧ o < p.2) →
            raw[o]? = some { kind := .privileged, cause := .confer, value := none })) ∧
        (unprivileged → (∀ h ∈ z.window, 48 ≤ (c - h.counter).toNat) →
          ((∃ y, z.evictedBelow = some y ∧ counterDiff c y < 0) →
            raw[o]? = some { kind := .lost, cause := .overrun, value := none }) ∧
          ((∀ y, z.evictedBelow = some y → 0 ≤ counterDiff c y) →
            raw[o]? = some { kind := .lost, cause := .missing, value := none })) ∧
        (unprivileged → ∀ h ∈ z.window, (c - h.counter).toNat < 48 → (∀ g ∈ z.window, g ≠ h → 48 ≤ (c - g.counter).toNat) →
          raw[o]? = some {
            kind := if d = .openD then .audio else .sealedK
            cause := .none
            value := some (BitVec.ofNat 24 (fieldAt h.samples
              (((c - h.counter).toNat * (s.entry e.station).channels + e.channel.val) * 3) 3)) }))) ∧
    (∀ st : Stream,
      let shown := b.cells.map (fun c => if st = .sealedS ∧ c.kind = .sealedK then { c with kind := .audio } else c)
      let segs := segmentsOf shown
      trackPayload st b = byte k.val ++ byte e.station.val ++ byte e.channel.val ++ byte b.cause.code ++
        half b.cells.length ++ byte segs.length ++ zeros 1 ++
        segs.flatMap (fun g => byte (g.kind.code * 16 + g.cause.code) ++ zeros 1 ++ half g.length) ++
        (shown.filterMap (fun c => if c.kind = .audio then c.value else none)).flatMap (fun v => beBytes 3 v.toNat)))

/-- The block check of a record is the CRC-32 over its TRACK payloads in track order, its summary carries it at offset 28 with the
record time as it stands, and a record with no track has the check 0. A RUN payload is 40 bytes; its check is the CRC-32 over bytes 0
to 7 and 12 to 35, whatever the sequence, and stands in bytes 36 to 39. A summary's entry list shows each track's n, cause, disposition
and marks; its quality is HOLDOVER when either boundary was synthesised, and LATE_CONFER needs a listed track on which a late toggle
could act. The SEALED stream gets a record of exactly the SEALED tracks, and none where there is none or it takes no part. A block
qualifies for a WITHHELD run under the four
conditions; at its close the OPEN stream gets no block record, and the run register is extended, started, or handed on at 12,000
blocks or at a change of mode or map generation; the close of any other block hands on the run held and then the block's record. -/
def Obligations.RecordChecksCoverPayloads : Prop :=
  (∀ (s : State) (k : BlockNo) (m : CourtMode) (gb : Vector GroupBlock 8) (st : Stream) (l : List TrackBuild)
      (seq : BitVec 32),
    let r := blockRecord s k m gb st l
    r.tracks = l.map (trackPayload st) ∧ r.check = manualCrc r.tracks.flatten ∧ (l = [] → r.check = 0) ∧
      ((r.summaryPayload seq).drop 28).take 4 = wordBytes r.check ∧
      (r.summaryPayload seq).length = 36 + 4 * l.length ∧ r.time = s.timebase.recordTime ∧
      (r.proceeding = s.proceeding.id ∧ r.stream = st ∧ r.block = k ∧ r.mode = m ∧
        r.mapGeneration = s.tables.mapGeneration) ∧
      (r.first = true ↔ s.proceeding.first = some k) ∧ (r.last = true ↔ s.proceeding.last = some k) ∧
      (r.quality = .holdover ↔
        ∃ e ∈ s.assembler.kinds, (e.block = k ∨ e.block = k + 1) ∧ e.kind = .synthesised) ∧
      (r.lateConfer = true ↔ ∃ b ∈ l, ∃ g : Fin 8, b.group.val = g.val + 1 ∧ gb[g].late = true ∧ b.cells ≠ [] ∧
        s.tables.active.permit[b.role.column] = true ∧ b.disposition ≠ .withheldD) ∧
      r.items = l.map (fun b => {
        track := b.track, n := b.cells.length, cause := b.cause, disposition := b.disposition
        privileged := decide (∃ c ∈ b.cells, c.kind = .privileged)
        lost := decide (∃ c ∈ b.cells, c.kind = .lost)
        folded := b.folded })) ∧
  (∀ (s : State) (k : BlockNo) (m : CourtMode) (gb : Vector GroupBlock 8) (l : List TrackBuild),
    (s.output.sealedS.takesPart = false ∨ (∀ b ∈ l, b.disposition ≠ .sealedD) → sealedRecords s k m gb l = []) ∧
    (s.output.sealedS.takesPart = true → (∃ b ∈ l, b.disposition = .sealedD) → sealedRecords s k m gb l =
      [.block (blockRecord s k m gb .sealedS (l.filter (fun b => decide (b.disposition = .sealedD))))])) ∧
  (∀ (id : BitVec 64) (st : Stream) (c : RunCause) (x : RunRegister) (seq : BitVec 32),
    let p := (buildRun id st c x).payload seq
    p.length = 40 ∧ (p.drop 8).take 4 = wordBytes seq ∧
      (p.drop 36).take 4 = wordBytes (crc32 (p.take 8 ++ (p.drop 12).take 24))) ∧
  (∀ (s : State) (k : BlockNo) (m : CourtMode) (gb : Vector GroupBlock 8) (l : List TrackBuild),
    let closed := openRecords s k m gb l
    let run := fun x => Record.run (buildRun s.proceeding.id .openS .withheld x)
    let fresh : RunRegister := { mode := m, mapGeneration := s.tables.mapGeneration, first := k, last := k,
                                 quality := qualityOf s k, time := s.timebase.recordTime }
    (qualifies s k l = true ↔ s.proceeding.first ≠ some k ∧ s.proceeding.last ≠ some k ∧ l ≠ [] ∧
      (∀ b ∈ l, b.disposition = .withheldD) ∧ s.output.openS.takesPart = true) ∧
    (s.output.openS.takesPart = true → qualifies s k l = false →
      closed = (none, s.assembler.run.toList.map run ++ [.block (blockRecord s k m gb .openS l)])) ∧
    (qualifies s k l = true →
      (s.assembler.run = none → closed = (some fresh, [])) ∧
      (∀ x, s.assembler.run = some x → (x.mode ≠ m ∨ x.mapGeneration ≠ s.tables.mapGeneration) →
        closed = (some fresh, [run x])) ∧
      (∀ x, s.assembler.run = some x → x.mode = m → x.mapGeneration = s.tables.mapGeneration →
        let y := { x with last := k, quality := if x.quality = .holdover ∨ qualityOf s k = .holdover then .holdover
                                                else .locked }
        ((k - x.first).toNat + 1 < 12000 → closed = (some y, [])) ∧
        (12000 ≤ (k - x.first).toNat + 1 → closed = (none, [run y])))))

/-- An advance of a legal record time adds one unit of 5 ms and stays legal, and none is left at 99:59:59.99 with the half flag set
alone. The close of a block advances it when the block's latched mode is ON_RECORD, SIDEBAR or CLOSED_HEARING, and not in OFF_RECORD
or RECESS; an advance due at the end leaves it, sets the record-time-full mark, and raises RECORD_TIME_FULL the first time alone. -/
def Obligations.RecordTimeAdvances : Prop :=
  (∀ t : RecordTime, t.legal →
    (∀ u, t.advance = some u → u.legal ∧ u.units = t.units + 1) ∧
    (t.advance = none ↔ t = { hours := 99, minutes := 59, seconds := 59, hundredths := 99, half := true })) ∧
  (∀ (s : State) (k : BlockNo) (ts : Timings) (gb : Vector GroupBlock 8),
    let t := closeBlock k ts gb s
    let m := latchedMode s k
    let due := m = .onRecord ∨ m = .sidebar ∨ m = .closedHearing
    ((m = .offRecord ∨ m = .recess) → t.timebase = s.timebase) ∧
    (due → ∀ u, s.timebase.recordTime.advance = some u → t.timebase = { s.timebase with recordTime := u }) ∧
    (due → s.timebase.recordTime.advance = none → t.timebase = { s.timebase with recordTimeFull := true }) ∧
    (flagSet t .recordTimeFull = true ↔ flagSet s .recordTimeFull = true ∨
      due ∧ s.timebase.recordTime.advance = none ∧ s.timebase.recordTimeFull = false))

/-- A tracker's correction adds a quarter of d to E and d/256 samples to R, with R held between 15,725,440 and 15,731,840 and
RATE_LIMIT set exactly when the bound acted; a position is rounded half up. In TRACK and COAST a boundary resolved by prediction takes
the rounded E + R, and in FOLLOW the station coasts, or goes to ACQUIRE above the coast limit. With a measurement, last d and peak
absolute d follow it, the station is in TRACK and the coast count 0: in FOLLOW within W the correction, outside W a re-anchor after
coasting and else one JITTER count, at whose threshold the mode becomes HOLD; HOLD keeps E and R, ONCE re-anchors and becomes HOLD. A
measurement in ACQUIRE acquires the station on the boundary. A block from 232 to 248 samples is timed; any other is a timing fault. A
boundary k+1 still PENDING at the close point of block k is first resolved by prediction, or becomes VOID in ACQUIRE. -/
def Obligations.CorrectionMovesTracker : Prop :=
  (∀ (t : Tracker) (d : Int),
    (t.correct d).position = t.position + BitVec.ofInt 48 (d * 16384) ∧
    15725440 ≤ (t.correct d).rate ∧ (t.correct d).rate ≤ 15731840 ∧
    ((t.correct d).rateLimit = true ↔ ((t.rate : Int) + d * 256 < 15725440 ∨ 15731840 < (t.rate : Int) + d * 256)) ∧
    ((t.correct d).rateLimit = false → ((t.correct d).rate : Int) = (t.rate : Int) + d * 256) ∧
    (t.correct d).boundaries = t.boundaries ∧ (t.correct d).mode = t.mode) ∧
  (∀ e : BitVec 48, roundPosition e = BitVec.ofNat 32 ((e.toNat + 32768) / 65536)) ∧
  (∀ (s : State) (i : Fin 16) (j : BlockNo), (s.stations[i].state = .track ∨ s.stations[i].state = .coast) →
    let z := s.stations[i]
    let x := z.tracker
    let e := x.position + BitVec.ofNat 48 x.rate
    let p := roundPosition e
    let alone := fun t : State => (∀ k : Fin 16, k ≠ i → t.stations[k] = s.stations[k]) ∧
      t = { s with stations := t.stations, management := t.management, ports := t.ports }
    (∀ t, t = resolveByPrediction i j s →
      alone t ∧
      (x.mode ≠ .follow → t.stations[i] = { z with
        tracker := { x with position := e, boundaries := withStatus x.boundaries j (.resolved p) } }) ∧
      (x.mode = .follow → x.coastCount < (s.entry i).coastLimit → t.stations[i] = { z with
        state := .coast
        tracker := { x with position := e, boundaries := withStatus x.boundaries j (.resolved p),
                            coastCount := x.coastCount + 1 } }) ∧
      (x.mode = .follow → (s.entry i).coastLimit ≤ x.coastCount → t.stations[i].state = .acquire ∧
        t.stations[i].releasePoint = none ∧ t.stations[i].tracker.coastCount = 0 ∧ flagSet t .stationState = true ∧
        ∀ b ∈ t.stations[i].tracker.boundaries, ∀ c, b.status ≠ .resolved c)) ∧
    (∀ m : Counter,
      let t := resolveByMeasurement i j m s
      let d := counterDiff m p
      let near := d.natAbs ≤ (s.entry i).jitterWindow
      let tracked := fun (y : Tracker) (b : Counter) => { z with
        state := .track
        tracker := { y with boundaries := withStatus x.boundaries j (.resolved b), coastCount := 0, lastD := d,
                            peakD := max x.peakD d.natAbs } }
      let anchor := { x with position := BitVec.ofNat 48 (m.toNat * 65536) }
      let predicted := { x with position := e }
      alone t ∧ (z.state = .coast → flagSet t .stationState = true) ∧
      (x.mode = .follow → near →
        t.stations[i] = tracked (predicted.correct d) (roundPosition (predicted.correct d).position)) ∧
      (x.mode = .follow → ¬ near → z.state = .coast →
        t.stations[i] = tracked { anchor with reanchor := satInc16 x.reanchor } m) ∧
      (x.mode = .follow → ¬ near → z.state = .track →
        let n := if z.jitterCount < 255 then z.jitterCount + 1 else z.jitterCount
        let taken := z.jitterCount < 255 ∧ z.jitterCount + 1 = (s.entry i).jitterThreshold
        t.stations[i] = { tracked { predicted with mode := if taken then .hold else .follow } p with jitterCount := n } ∧
        (taken → flagSet t .stationThreshold = true)) ∧
      (x.mode = .hold → t.stations[i] = tracked predicted p) ∧
      (x.mode = .once → t.stations[i] = tracked { anchor with mode := .hold } m))) ∧
  (∀ (s : State) (i : Fin 16) (j : BlockNo) (m : Counter) (older newer : List BoundaryEntry),
    let z := s.stations[i]
    z.tracker.boundaries = older ++ { block := j, status := .pending } :: newer →
    (z.tracker.boundaries.map (·.block)).Nodup →
    (acquireOn i j m s).stations[i] = { z with
      state := .track
      window := z.window.filter (fun h => decide (0 < counterDiff (h.counter + 48) m))
      releasePoint := some m
      evictedBelow := none
      tracker := { z.tracker with
        position := BitVec.ofNat 48 (m.toNat * 65536), rate := 15728640, rateLimit := false, coastCount := 0
        boundaries := older.map (fun b => if b.status = .pending then { b with status := .void } else b) ++
          { block := j, status := .resolved m } :: newer } }) ∧
  (∀ (s : State) (i : Fin 16) (k : BlockNo) (b e : Counter),
    (s.stations[i].state = .track ∨ s.stations[i].state = .coast) →
    statusOf s.stations[i].tracker.boundaries k = some (.resolved b) →
    statusOf s.stations[i].tracker.boundaries (k + 1) = some (.resolved e) →
    let n := counterDiff e b
    let r := closeTiming i k s
    (232 ≤ n → n ≤ 248 → r = (s, some { start := b, length := n.toNat })) ∧
    ((n < 232 ∨ 248 < n) → r.2 = none ∧ r.1.stations[i].state = .acquire ∧ r.1.stations[i].releasePoint = none ∧
      (∀ y ∈ r.1.stations[i].tracker.boundaries, ∀ c, y.status ≠ .resolved c) ∧ flagSet r.1 .timingFault = true ∧
      ((s.management.faults[faultTiming]).first = none → (r.1.management.faults[faultTiming]).first = some
        { subject := BitVec.ofNat 48 i.val, block := k,
          detail := wordBytes b ++ wordBytes e ++ wordBytes (e - b) }) ∧
      ((s.management.faults[faultTiming]).first ≠ none → r.1.management.faults[faultTiming] =
        { s.management.faults[faultTiming] with repeated := true }))) ∧
  (∀ (s : State) (i : Fin 16) (k : BlockNo), statusOf s.stations[i].tracker.boundaries (k + 1) = some .pending →
    let z := s.stations[i]
    let x := z.tracker
    let p := roundPosition (x.position + BitVec.ofNat 48 x.rate)
    let lost := x.mode = .follow ∧ (s.entry i).coastLimit ≤ x.coastCount
    let r := closeTiming i k s
    let t := resolveByPrediction i (k + 1) s
    (z.state = .acquire → r = (modStation i (fun y => { y with
      tracker := { y.tracker with boundaries := withStatus y.tracker.boundaries (k + 1) .void } }) s, none)) ∧
    (z.state = .track ∨ z.state = .coast →
      (lost → r = (t, none)) ∧
      (¬ lost → (∀ b, statusOf x.boundaries k ≠ some (.resolved b)) → r = (t, none)) ∧
      (¬ lost → ∀ b, statusOf x.boundaries k = some (.resolved b) →
        (232 ≤ counterDiff p b → counterDiff p b ≤ 248 →
          r = (t, some { start := b, length := (counterDiff p b).toNat })) ∧
        (counterDiff p b < 232 ∨ 248 < counterDiff p b →
          r.2 = none ∧ r.1.stations[i].state = .acquire ∧ flagSet r.1 .timingFault = true))))

/-! ## Resets and STANDBY -/

/-- POWER_ON and SUPPLY_DIP leave every block at its reset value; the own address, the two link states (log entries 4 and 5) and the
waiting commands stay. -/
def Obligations.SupplyResetsRestoreReset : Prop :=
  ∀ s : State,
    let kept := { State.reset with
      config := { State.reset.config with ownAddress := s.config.ownAddress }
      ports := { State.reset.ports with a := { State.reset.ports.a with linkUp := s.ports.a.linkUp },
                                        b := { State.reset.ports.b with linkUp := s.ports.b.linkUp } }
      pending := s.pending }
    exec .powerOn s = .next kept ∧
    exec .supplyDip s = .next { kept with part := { kept.part with resetCause := .supplyDip } }

/-- A soft reset, once its reply has been transmitted: FULL leaves the Device Configuration alone, RUNTIME the loaded tables, the block
number and the overrides too; the ports are at their reset values with the links kept (log entry 5), and with a Controller Address the
start notice goes out, with RESET_DONE alone set, or waits while link B is DOWN. That FRAME_TRANSMITTED of the reply does the same is
log entry 25. -/
def Obligations.SoftResetsStartAfresh : Prop :=
  ∀ (s : State) (x : InTransmission), s.ports.b.transmitting = some x →
    (x.origin = .reply .resetFull → ∃ t, exec .softResetFull s = .next t ∧ exec (.frameTransmitted .B) s = .next t ∧
      t.config = s.config ∧ t.part = { awake := true, wakeCause := none, resetCause := .softFull } ∧
      t.timebase = State.reset.timebase ∧ t.stations = State.reset.stations ∧ t.tables = State.reset.tables ∧
      t.mode = State.reset.mode ∧ t.groups = State.reset.groups ∧ t.tally = State.reset.tally ∧
      t.assembler = { State.reset.assembler with closeDelay := s.config.closeDelay } ∧
      t.output = State.reset.output ∧ t.proceeding = State.reset.proceeding ∧ t.engine = State.reset.engine ∧
      t.management = { State.reset.management with holdoff := decide (s.config.controller ≠ 0) } ∧
      t.pending = s.pending ∧ t.ports = restartedPorts s (startNoticeFrame s.config 2 0)) ∧
    (x.origin = .reply .resetRuntime → ∃ t, exec .softResetRuntime s = .next t ∧
      exec (.frameTransmitted .B) s = .next t ∧
      t.config = s.config ∧ t.part = { awake := true, wakeCause := none, resetCause := .softRuntime } ∧
      t.timebase = { State.reset.timebase with blockNumber := s.timebase.blockNumber } ∧
      (∀ i : Fin 16, t.stations[i] = { Station.reset with
        state := if (s.entry i).valid then .absent else .disabled,
        tracker := { Tracker.reset with mode := (s.entry i).trackerMode } }) ∧
      t.tables.active = s.tables.active ∧ t.tables.shadow = s.tables.active ∧ t.tables.staged = false ∧
      t.tables.mapGeneration = s.tables.mapGeneration ∧ t.mode = State.reset.mode ∧ t.groups = State.reset.groups ∧
      t.tally = { State.reset.tally with override := s.tally.override } ∧
      t.assembler = { State.reset.assembler with closeDelay := s.config.closeDelay } ∧
      t.output = { State.reset.output with
        openS := StreamState.resetWith s.output.openS.entry, sealedS := StreamState.resetWith s.output.sealedS.entry } ∧
      t.proceeding = State.reset.proceeding ∧ t.engine = State.reset.engine ∧
      t.management = { State.reset.management with holdoff := decide (s.config.controller ≠ 0) } ∧
      t.pending = s.pending ∧ t.ports = restartedPorts s (startNoticeFrame s.config 3 s.timebase.blockNumber))

/-- STANDBY entry, once its reply has been transmitted. With no request queued: the timebase in SEARCH with its timers stopped, every
station ABSENT or DISABLED and stopped, the latch and kind lists empty, the stall and confirm timers stopped, and the rest as it
stands: an idle engine is unchanged, and of the ports only what port B takes next changes. A request that waits wakes the part at once,
with cause FRAME and WOKEN set, and stays queued. That FRAME_TRANSMITTED of the reply does the same is log entry 25. -/
def Obligations.StandbyEntryParks : Prop :=
  ∀ (s : State) (x : InTransmission), s.Settled → s.ports.b.transmitting = some x → x.origin = .reply .enterStandby →
    (s.management.requests = [] →
    ∃ t, exec .standbyEntry s = .next t ∧ exec (.frameTransmitted .B) s = .next t ∧
      t.part = { s.part with awake := false } ∧
      t.timebase = { s.timebase with state := .search, guardTimer := none, synthesisTimer := none, candidateCount := 0,
                                     consecutive := 0 } ∧
      (∀ i : Fin 16, t.stations[i] = { s.stations[i] with
        state := if (s.entry i).valid then .absent else .disabled,
        window := [], releasePoint := none, evictedBelow := none, silence := 0,
        tracker := { s.stations[i].tracker with boundaries := [], coastCount := 0 } }) ∧
      (∀ g : Fin 8, t.groups[g] = { s.groups[g] with forced := false, forcedPoint := none, toggles := [] }) ∧
      t.mode = { s.mode with latch := [] } ∧
      t.assembler = { s.assembler with next := none, kinds := [] } ∧
      t.output = { s.output with
        openS := { s.output.openS with stallTimer := none, stallReported := false, confirmTimer := none },
        sealedS := { s.output.sealedS with stallTimer := none, stallReported := false, confirmTimer := none } } ∧
      t.management = { s.management with armed := .nothing } ∧
      t = { s with part := t.part, timebase := t.timebase, stations := t.stations, groups := t.groups, mode := t.mode,
                   assembler := t.assembler, output := t.output, management := t.management, ports := t.ports,
                   engine := { s.engine with waiting := t.engine.waiting } } ∧
      (s.engine.state = .idle → t.engine = s.engine) ∧
      t.ports = { s.ports with
        management := if s.ports.b.linkUp then s.ports.management.drop 1 else s.ports.management
        repliesFull := false
        turn := t.ports.turn
        b := { s.ports.b with transmitting := t.ports.b.transmitting } } ∧
      (s.ports.b.linkUp = false → t.ports.b.transmitting = none ∧ t.ports.turn = s.ports.turn) ∧
      (∀ m l, s.ports.b.linkUp = true → s.ports.management = m :: l → t.ports.turn = s.ports.turn ∧
        t.ports.b.transmitting = some { origin := m.origin, frame := m.frame })) ∧
    (s.management.requests ≠ [] →
    ∃ t, exec .standbyEntry s = .next t ∧ exec (.frameTransmitted .B) s = .next t ∧
      t.part = { s.part with awake := true, wakeCause := some (.frame 0x20) } ∧
      flagSet t .woken = true ∧ t.management.requests = s.management.requests ∧ t.timebase.state = .search ∧
      t.timebase.history = [] ∧ t.tables = s.tables ∧ t.config = s.config ∧ t.proceeding = s.proceeding ∧
      (s.engine.state = .idle → t.engine = s.engine) ∧ t.ports.forwardBA = s.ports.forwardBA ∧
      t.ports.forwardAB = s.ports.forwardAB ∧ t.ports.dropAB = s.ports.dropAB ∧ t.ports.dropBA = s.ports.dropBA ∧
      t.ports.replyDrop = s.ports.replyDrop)

/-! ## Ports -/

/-- A link that goes DOWN stops the port, and the frame in transmission counts as transmitted (nothing more, for a control, monitor or
notice frame); that this holds for the reply of a soft reset or STANDBY too is log entry 26. A link that returns to UP resumes
selection: at port A the head of the control queue, else the monitor frame routed there, else the head of the B-to-A queue; at port B
the head of the management transmit queue, else the monitor frame, else by turn the record frame offered or the head of the A-to-B
queue; nothing where nothing waits. -/
def Obligations.LinkChangesStopAndResume : Prop :=
  ∀ (s : State) (p : Port), s.Settled →
    ((s.port p).transmitting = none →
      exec (.linkStateChange p false) s = .next (modPort p (fun y => { y with linkUp := false }) s)) ∧
    (∀ x : InTransmission, (s.port p).transmitting = some x →
      (x.origin = .control ∨ x.origin = .monitor ∨ x.origin = .notice) →
      exec (.linkStateChange p false) s =
        .next (modPort p (fun y => { y with linkUp := false, transmitting := none }) s)) ∧
    exec (.linkStateChange p false) s = exec (.frameTransmitted p) (modPort p (fun y => { y with linkUp := false }) s) ∧
    ((s.port p).linkUp = true → exec (.linkStateChange p true) s = .next s) ∧
    (s.ports.a.linkUp = false → s.ports.a.transmitting = none →
      (∀ c rest, s.ports.control = c :: rest → exec (.linkStateChange .A true) s =
        .next { s with ports := { s.ports with control := rest, a := { s.ports.a with
          linkUp := true, transmitting := some { origin := .control, frame := c.frame } } } }) ∧
      (∀ x f, s.ports.control = [] → s.engine.state = .tap x → x.port = .A → s.engine.waiting = some f →
        exec (.linkStateChange .A true) s = .next { s with
          engine := { s.engine with waiting := none }
          ports := { s.ports with a := { s.ports.a with
            linkUp := true, transmitting := some { origin := .monitor, frame := f } } } }) ∧
      (∀ f rest, s.ports.control = [] → monitorFor s .A = none → s.ports.forwardBA = f :: rest →
        exec (.linkStateChange .A true) s = .next { s with ports := { s.ports with a := { s.ports.a with
          linkUp := true, transmitting := some { origin := .forwarded, frame := f } } } }) ∧
      (s.ports.control = [] → monitorFor s .A = none → s.ports.forwardBA = [] → exec (.linkStateChange .A true) s =
        .next { s with ports := { s.ports with a := { s.ports.a with linkUp := true } } })) ∧
    (s.ports.b.linkUp = false → s.ports.b.transmitting = none →
      let resumed := fun (o : TxOrigin) (f : Frame) (turn : Class3Turn) => Host.Outcome.next { s with
        ports := { s.ports with turn := turn, b := { s.ports.b with
          linkUp := true, transmitting := some { origin := o, frame := f } } } }
      (∀ m rest, s.ports.management = m :: rest → exec (.linkStateChange .B true) s =
        .next { s with ports := { s.ports with management := rest, b := { s.ports.b with
          linkUp := true, transmitting := some { origin := m.origin, frame := m.frame } } } }) ∧
      (∀ x f, s.ports.management = [] → s.engine.state = .tap x → x.port = .B → s.engine.waiting = some f →
        exec (.linkStateChange .B true) s = .next { s with
          engine := { s.engine with waiting := none }
          ports := { s.ports with b := { s.ports.b with
            linkUp := true, transmitting := some { origin := .monitor, frame := f } } } }) ∧
      (s.ports.management = [] → monitorFor s .B = none →
        (∀ f, offeredFrame s = some f → (s.ports.forwardAB = [] ∨ s.ports.turn = .record) →
          exec (.linkStateChange .B true) s = resumed .record f .passThrough) ∧
        (∀ f rest, s.ports.forwardAB = f :: rest → (offeredFrame s = none ∨ s.ports.turn = .passThrough) →
          exec (.linkStateChange .B true) s = resumed .forwarded f .record) ∧
        (offeredFrame s = none → s.ports.forwardAB = [] → exec (.linkStateChange .B true) s =
          .next { s with ports := { s.ports with b := { s.ports.b with linkUp := true } } })))

/-- A received frame that was cut short, has an illegal size or a check other than its CRC-32 is discarded and counted, and nothing
else changes; one that meets all conditions counts nothing. The 64 bytes of the smallest legal frame are log entry 9, and that the
command changes nothing where no condition fails is log entry 1. -/
def Obligations.ReceiveErrorsAreCounted : Prop :=
  ∀ (s : State) (p : Port) (whole : Bool) (bytes : List Byte) (fcs : BitVec 32), (s.port p).linkUp = true →
    ((whole = false ∨ bytes.length + 4 < 64 ∨ 1522 < bytes.length + 4 ∨ fcs ≠ crc32 bytes) →
      exec (.receiveError p whole bytes fcs) s =
        .next (modPort p (fun y => { y with receiveErrors := satInc16 y.receiveErrors }) s)) ∧
    (whole = true → 64 ≤ bytes.length + 4 → bytes.length + 4 ≤ 1522 → fcs = crc32 bytes →
      exec (.receiveError p whole bytes fcs) s = .next s)

/-- A pass-through frame is discarded in TERMINAL; in INLINE it joins the tail of its direction's queue, or is dropped and counted when
64 are held. That a mark on port B which is not well formed counts nowhere is log entry 54. -/
def Obligations.PassThroughFollowsRole : Prop :=
  ∀ (s : State) (f : Frame), s.Settled →
    (∀ p : Port, arrivesAs s p f .passThrough = true → s.config.role = .terminalRole →
      exec (.passThrough p f) s = .next s) ∧
    (arrivesAs s .A f .passThrough = true → s.config.role = .inlineRole → s.ports.forwardAB.length < 64 →
      ∃ t, exec (.passThrough .A f) s = .next t ∧ t = { s with ports := t.ports } ∧
        t.ports.forwardAB = s.ports.forwardAB ++ [f] ∧
        t.ports = { s.ports with forwardAB := t.ports.forwardAB, b := t.ports.b, turn := t.ports.turn }) ∧
    (arrivesAs s .A f .passThrough = true → s.config.role = .inlineRole → 64 ≤ s.ports.forwardAB.length →
      exec (.passThrough .A f) s = .next { s with ports := { s.ports with dropAB := satInc16 s.ports.dropAB } }) ∧
    (arrivesAs s .B f .passThrough = true → s.config.role = .inlineRole → s.ports.forwardBA.length < 64 →
      ∃ t, exec (.passThrough .B f) s = .next t ∧ t = { s with ports := t.ports } ∧
        t.ports.forwardBA = s.ports.forwardBA ++ [f] ∧
        t.ports = { s.ports with forwardBA := t.ports.forwardBA, a := t.ports.a }) ∧
    (arrivesAs s .B f .passThrough = true → s.config.role = .inlineRole → 64 ≤ s.ports.forwardBA.length →
      exec (.passThrough .B f) s = .next { s with ports := { s.ports with dropBA := satInc16 s.ports.dropBA } })

/-- A frame with the part's own source address is discarded on either port and counted, neither forwarded nor a wake event. A
misdirected frame is discarded and counted, as malformed when its kind code is none of the manual's; in STANDBY it wakes the part
first and is then counted in the same way. A CREDIT, CLOSE_ACK or CADENCE_MARK that is not well formed is counted as malformed and
not handed on; the mark is forwarded all the same in INLINE when it is not addressed to the part, in STANDBY too. That a CREDIT or
CLOSE_ACK on port A and a mark on port B count as misdirected whatever their header holds is log entry 54. -/
def Obligations.DiscardedFramesAreCounted : Prop :=
  (∀ (s : State) (p : Port) (f : Frame),
    (canArrive s p f = true → f.src = s.config.ownAddress →
      exec (.loopedCopy p f) s = .next (modPort p (fun y => { y with loops := satInc16 y.loops }) s)) ∧
    (arrivesAs s p f .misdirected = true → s.Settled → s.part.awake = true →
      exec (.misdirected p f) s = .next (modPort p (fun y =>
        if knownKinds.contains (bodyKind f.body) then { y with misdirected := satInc16 y.misdirected }
        else { y with malformed := satInc16 y.malformed }) s)) ∧
    (arrivesAs s p f .misdirected = true → s.part.awake = false → ∃ t, exec (.misdirected p f) s = .next t ∧
      t.part.awake = true ∧ t.part.wakeCause = some (.frame (bodyKind f.body)) ∧ flagSet t .woken = true ∧
      (knownKinds.contains (bodyKind f.body) = true →
        (t.port p).misdirected = satInc16 (s.port p).misdirected ∧ (t.port p).malformed = (s.port p).malformed) ∧
      (knownKinds.contains (bodyKind f.body) = false →
        (t.port p).malformed = satInc16 (s.port p).malformed ∧ (t.port p).misdirected = (s.port p).misdirected) ∧
      (t.port p).receiveErrors = (s.port p).receiveErrors ∧ (t.port p).loops = (s.port p).loops ∧
      t.tables = s.tables ∧ t.config = s.config ∧ t.mode = s.mode ∧ t.proceeding = s.proceeding)) ∧
  (∀ (s : State) (f : Frame) (time : Tick), s.Settled →
    let counted := fun p => modPort p (fun y => { y with malformed := satInc16 y.malformed }) s
    (ArrivesAwake s f .credit → wellFormed f.body 4 = false → exec (.credit f) s = .next (counted .B)) ∧
    (ArrivesAwake s f .closeAck → wellFormed f.body 20 = false → exec (.closeAck f) s = .next (counted .B)) ∧
    (arrivesAs s .A f .cadenceMark = true → wellFormed f.body 4 = false →
      (f.dst = s.config.ownAddress ∨ s.config.role = .terminalRole →
        exec (.cadenceMark f time) s = .next (counted .A)) ∧
      (f.dst ≠ s.config.ownAddress → s.config.role = .inlineRole → s.ports.forwardAB.length < 64 →
        ∃ t, exec (.cadenceMark f time) s = .next t ∧ t = { s with ports := t.ports } ∧
          t.ports = { (counted .A).ports with
            forwardAB := s.ports.forwardAB ++ [f], b := t.ports.b, turn := t.ports.turn }) ∧
      (f.dst ≠ s.config.ownAddress → s.config.role = .inlineRole → 64 ≤ s.ports.forwardAB.length →
        exec (.cadenceMark f time) s = .next { counted .A with ports := { (counted .A).ports with
          dropAB := satInc16 s.ports.dropAB } })))

/-! ## The Cadence Timebase -/

/-- A mark in SEARCH continues a run or starts one as the candidate; the third mark of a run locks the timebase and is a REAL boundary. -/
def Obligations.SearchTakesThreeMarks : Prop :=
  ∀ (s : State) (f : Frame) (time : Tick), MarkArrives s f → s.timebase.state = .search →
    let next := markNumber f = s.timebase.candidateMark + 1 ∧ s.timebase.candidateTime + 120422 ≤ time ∧
      time ≤ s.timebase.candidateTime + 125338
    (s.Settled → s.timebase.candidateCount = 1 → next → ∃ t, exec (.cadenceMark f time) s = .next t ∧
      t = { s with timebase := t.timebase, ports := t.ports } ∧
      t.timebase = { s.timebase with candidateCount := 2, candidateMark := markNumber f, candidateTime := time }) ∧
    (s.Settled → s.timebase.candidateCount = 0 ∨ ¬ next → ∃ t, exec (.cadenceMark f time) s = .next t ∧
      t = { s with timebase := t.timebase, ports := t.ports } ∧
      t.timebase = { s.timebase with candidateCount := 1, candidateMark := markNumber f, candidateTime := time }) ∧
    (s.timebase.candidateCount = 2 → next → ∃ t, exec (.cadenceMark f time) s = .next t ∧ t.timebase.state = .locked ∧
      BoundaryTaken s.timebase t.timebase .real (markNumber f) time ∧
      t.timebase.guardTimer = some (time + 135168) ∧ t.timebase.candidateCount = 0 ∧ flagSet t .timebaseLocked = true ∧
      t.timebase.early = s.timebase.early ∧ t.timebase.jump = s.timebase.jump ∧
      t.config = s.config ∧ t.mode.current = s.mode.current ∧ t.mode.stack = s.mode.stack ∧
      t.tally.override = s.tally.override)

/-- In LOCKED an expected mark 110,592 ticks or more after L is a REAL boundary and restarts the guard; an early mark is counted and is
no boundary, and a late mark in HOLDOVER changes nothing. -/
def Obligations.ExpectedMarksByTime : Prop :=
  ∀ (s : State) (f : Frame) (time l : Tick), MarkArrives s f → s.timebase.last = some l →
    (s.timebase.state = .locked → markNumber f = s.timebase.expected → l + 110592 ≤ time →
      ∃ t, exec (.cadenceMark f time) s = .next t ∧ t.timebase.state = .locked ∧
      BoundaryTaken s.timebase t.timebase .real (markNumber f) time ∧
      t.timebase.guardTimer = some (time + 135168) ∧ t.timebase.early = s.timebase.early ∧
      t.timebase.relock = s.timebase.relock ∧ t.timebase.jump = s.timebase.jump ∧
      t.config = s.config ∧ t.mode.current = s.mode.current ∧ t.mode.stack = s.mode.stack ∧
      t.tally.override = s.tally.override) ∧
    (s.Settled → (s.timebase.state = .locked ∧ l ≤ time ∧ time < l + 110592 ∨
        s.timebase.state = .holdover ∧ l ≤ time ∧ time < l + 61440) →
      markNumber f = s.timebase.expected → ∃ t, exec (.cadenceMark f time) s = .next t ∧
        t = { s with timebase := { s.timebase with early := satInc16 s.timebase.early }, ports := t.ports }) ∧
    (s.Settled → s.timebase.state = .holdover → markNumber f + 1 = s.timebase.expected →
      ∃ t, exec (.cadenceMark f time) s = .next t ∧ t = { s with ports := t.ports })

/-- A jump: every running station in ACQUIRE, the expected number one past the mark's, LOCKED, the count and TIMEBASE_JUMP; a boundary
110,592 ticks or more after L, and otherwise none, with the guard counted from L. A station whose staged entry is
applied at that boundary may go on to ABSENT or DISABLED (R21). -/
def Obligations.JumpRestartsNumbering : Prop :=
  ∀ (s : State) (f : Frame) (time l : Tick), MarkArrives s f → s.timebase.last = some l →
    (s.timebase.state = .locked ∧ markNumber f ≠ s.timebase.expected ∨
      s.timebase.state = .holdover ∧ markNumber f ≠ s.timebase.expected ∧ markNumber f + 1 ≠ s.timebase.expected) →
    ∃ t, exec (.cadenceMark f time) s = .next t ∧ t.timebase.state = .locked ∧
      t.timebase.expected = markNumber f + 1 ∧ t.timebase.consecutive = 0 ∧
      t.timebase.jump = satInc16 s.timebase.jump ∧ flagSet t .timebaseJump = true ∧
      t.mode.current = s.mode.current ∧ t.config = s.config ∧
      (∀ i : Fin 16, s.stations[i].state.running = true → t.stations[i].state = .acquire ∨
        l + 110592 ≤ time ∧ s.tables.staged = true ∧ s.tables.written[i] = true ∧
          (t.stations[i].state = .absent ∨ t.stations[i].state = .disabled)) ∧
      (l + 110592 ≤ time → BoundaryTaken s.timebase t.timebase .real (markNumber f) time ∧
        t.timebase.history = [{ mark := markNumber f, block := s.timebase.blockNumber + 1 }] ∧
        t.timebase.guardTimer = some (time + 135168)) ∧
      (time < l + 110592 → t.timebase.blockNumber = s.timebase.blockNumber ∧ t.timebase.history = [] ∧
        t.timebase.last = some l ∧ t.timebase.lastKind = s.timebase.lastKind ∧
        (s.timebase.state = .locked → t.timebase.guardTimer = s.timebase.guardTimer) ∧
        (s.timebase.state = .holdover → t.timebase.guardTimer = some (l + 135168) ∧ t.timebase.synthesisTimer = none))

/-- In HOLDOVER an expected mark 61,440 to 122,880 ticks after L is a REAL boundary; the third in a row returns to LOCKED. -/
def Obligations.RelockWindowMark : Prop :=
  ∀ (s : State) (f : Frame) (time l : Tick), MarkArrives s f → s.timebase.state = .holdover →
    s.timebase.last = some l → markNumber f = s.timebase.expected → l + 61440 ≤ time → time ≤ l + 122880 →
    ∃ t, exec (.cadenceMark f time) s = .next t ∧
      BoundaryTaken s.timebase t.timebase .real (markNumber f) time ∧
      t.timebase.relock = satInc16 s.timebase.relock ∧
      (s.timebase.consecutive < 2 → t.timebase.state = .holdover ∧
        t.timebase.consecutive = s.timebase.consecutive + 1 ∧ t.timebase.synthesisTimer = some (time + 122880)) ∧
      (2 ≤ s.timebase.consecutive → t.timebase.state = .locked ∧ t.timebase.consecutive = 0 ∧
        t.timebase.guardTimer = some (time + 135168) ∧ t.timebase.synthesisTimer = none ∧
        flagSet t .timebaseLocked = true) ∧
      t.config = s.config ∧ t.mode.current = s.mode.current

/-- The guard's expiry in LOCKED and the synthesis timer's in HOLDOVER make a SYNTHESISED boundary at the instant of expiry, with the
expected mark number, and leave HOLDOVER; the next block to close moves on by the closes due, staged tables are applied at the first of
them and the tables otherwise stay, and a proceeding in ARMED opens with the block that starts. -/
def Obligations.TimersSynthesiseBoundaries : Prop :=
  ∀ (s : State) (g : Tick) (c : Instr),
    (c = .guardExpiry ∧ s.timebase.state = .locked ∧ s.timebase.guardTimer = some g ∨
      c = .synthesisTimerExpiry ∧ s.timebase.state = .holdover ∧ s.timebase.synthesisTimer = some g) →
    ∃ t, exec c s = .next t ∧
      t.timebase.state = .holdover ∧ BoundaryTaken s.timebase t.timebase .synthesised s.timebase.expected g ∧
      t.timebase.synthesisTimer = some (g + 122880) ∧ t.timebase.consecutive = 0 ∧
      (c = .guardExpiry → t.timebase.guardTimer = none ∧ flagSet t .timebaseHoldover = true) ∧
      (s.assembler.next = none → t.assembler.next = some (s.timebase.blockNumber + 1)) ∧
      (∀ k, s.assembler.next = some k → t.assembler.next = some (k + BitVec.ofNat 32
        (counterDiff (s.timebase.blockNumber + 1) k - (s.assembler.closeDelay : Int)).toNat)) ∧
      (∀ k, s.assembler.next = some k → (s.assembler.closeDelay : Int) < counterDiff (s.timebase.blockNumber + 1) k →
        s.tables.staged = true → flagSet t .tableApplied = true ∧ t.tables =
          { active := s.tables.shadow, shadow := s.tables.shadow, staged := false, written := Vector.replicate 16 false,
            mapGeneration := s.tables.mapGeneration + 1 }) ∧
      ((s.tables.staged = false ∨ s.assembler.next = none ∨ ∃ k, s.assembler.next = some k ∧
        counterDiff (s.timebase.blockNumber + 1) k ≤ (s.assembler.closeDelay : Int)) → t.tables = s.tables) ∧
      (s.proceeding.state = .armed → t.proceeding =
        { s.proceeding with state := .opened, first := some (s.timebase.blockNumber + 1) } ∧
        flagSet t .proceedingState = true) ∧
      t.config = s.config ∧ t.mode.current = s.mode.current ∧ t.mode.stack = s.mode.stack

/-! ## Timers and limits -/

/-- A running station whose silence count stands at 20 enters ABSENT: emptied, its tracker stopped, its groups flushed. -/
def Obligations.SilenceMakesAbsent : Prop :=
  ∀ (s : State) (i : Fin 16), s.Settled → s.stations[i].state.running = true → 20 ≤ s.stations[i].silence →
    ∃ t, exec (.silenceCountLimit i) s = .next t ∧
      t.stations[i] = { s.stations[i] with
        state := .absent, window := [], releasePoint := none, evictedBelow := none, newestSerial := none, silence := 0,
        tracker := { s.stations[i].tracker with boundaries := [], coastCount := 0 } } ∧
      (∀ k : Fin 16, k ≠ i → t.stations[k] = s.stations[k]) ∧
      (∀ g : Fin 8, groupStation s.tables.active g = some i →
        t.groups[g] = { s.groups[g] with toggles := [], forced := false, forcedPoint := none,
                                         engaged := s.groups[g].requested }) ∧
      (∀ g : Fin 8, groupStation s.tables.active g ≠ some i → t.groups[g] = s.groups[g]) ∧
      flagSet t .stationState = true ∧
      t = { s with stations := t.stations, groups := t.groups, management := t.management, ports := t.ports }

/-- At the refresh one TALLY frame is queued for each enabled, valid station with an address, and the count returns to 0; an idle port
A takes the first at once, and frames beyond the 64 places are dropped and counted. That the frames are queued in index order is the
model's choice (log entry 29). -/
def Obligations.RefreshSendsTallies : Prop :=
  ∀ s : State, s.Settled → s.part.awake = true → 200 ≤ s.tally.refresh →
    let frames := ((List.finRange 16).filter (fun i => (s.entry i).valid && ((s.entry i).address != 0))).map (fun i =>
      ({ tally := true
         frame := { dst := (s.entry i).address, src := s.config.ownAddress, etherType := s.config.etherType,
                    body := lrtBody 0x03 (tallyPayload s i) } } : ControlFrame))
    let room := 64 - s.ports.control.length
    let sent := fun ports => exec .tallyRefresh s = .next { s with tally := { s.tally with refresh := 0 }, ports := ports }
    (portReady s .A = false → sent { s.ports with
      control := s.ports.control ++ frames.take room
      tallyDrop := Nat.iterate satInc16 (frames.length - room) s.ports.tallyDrop }) ∧
    (portReady s .A = true → sent { s.ports with
      control := frames.drop 1
      a := { s.ports.a with transmitting := frames.head?.map (fun c => { origin := .control, frame := c.frame }) } })

/-- A stall at its limit is reported once: flag, mark, count, and the Fault Log OUTPUT class; it changes nothing else, outside
DRAINING, before the last block has closed, or after the stream's drain failure. The records held that it logs are those noted as the
limit was reached (log entry 3). That the command changes nothing for a stall already reported, one below its limit, or a timer that
does not run is log entry 1. -/
def Obligations.StallLimitIsReported : Prop :=
  ∀ (s : State) (st : Stream), s.Settled →
    (∀ n, (s.proceeding.state ≠ .draining ∨ lastClosed s = false ∨ (s.stream st).drainFailed = true) →
      (s.stream st).takesPart = true → (s.stream st).stallTimer = some n → (s.stream st).entry.stallLimit * 200 ≤ n →
      (s.stream st).stallReported = false →
      ∃ t, exec (.recorderStalled st) s = .next t ∧
        t.stream st = { s.stream st with stalledMark := true, stallReported := true,
                                         stalledCount := satInc16 (s.stream st).stalledCount } ∧
        t.stream (otherStream st) = s.stream (otherStream st) ∧ flagSet t .recorderStalled = true ∧
        ((s.management.faults[faultOutput]).first = none →
          (t.management.faults[faultOutput]).first = some
            { subject := BitVec.ofNat 48 (streamCode st), block := s.timebase.blockNumber,
              detail := half (s.stream st).stallHeld ++ byte (s.stream st).entry.stallLimit }) ∧
        ((s.management.faults[faultOutput]).first ≠ none →
          t.management.faults[faultOutput] = { s.management.faults[faultOutput] with repeated := true }) ∧
        t = { s with output := t.output, management := t.management, ports := t.ports }) ∧
    (((s.stream st).takesPart = false ∨ (s.stream st).stallTimer = none ∨ (s.stream st).stallReported = true ∨
        ∃ n, (s.stream st).stallTimer = some n ∧ n < (s.stream st).entry.stallLimit * 200) →
      exec (.recorderStalled st) s = .next s)

/-- A drain failure, once the last block has closed, discards every stored record that the sender has not taken and merges them and the
stall run into one OUTPUT_STALL run that needs no credit: first block, mode, map generation and record time of the oldest, last block
of the newest, HOLDOVER when any merged is. The record being sent stays ahead of the run, as do records handed without credit; that a
record the sender has taken stays at the head of the FIFO until it has been sent is log entry 13. -/
def Obligations.DrainFailureMergesRecords : Prop :=
  ∀ (s : State) (st : Stream) (n : Nat),
    s.proceeding.state = .draining → lastClosed s = true → (s.stream st).takesPart = true →
    (s.stream st).stallTimer = some n → (s.stream st).entry.stallLimit * 200 ≤ n →
    (s.stream st).stallReported = false → (s.stream st).drainFailed = false →
    ∀ taken left : List QueuedRecord, (s.stream st).fifo = taken ++ left →
    (∀ x, s.output.sending = some x → x.stream = st → taken.length = 1) →
    ((s.output.sending = none ∨ ∃ x, s.output.sending = some x ∧ x.stream ≠ st) → taken = []) →
    let merged := (left.filter (·.stored)).filterMap (fun q => q.record.series) ++ (s.stream st).stallRun.toList
    merged ≠ [] →
    ∃ t r, exec (.recorderStalled st) s = .next t ∧ (t.stream st).drainFailed = true ∧ (t.stream st).stallRun = none ∧
      (t.stream st).fifo = taken ++ left.filter (fun q => !q.stored) ++ [{ record := .run r, stored := false }] ∧
      r = buildRun s.proceeding.id st .outputStall r.series ∧ r.series.Covers merged ∧
      flagSet t .recorderStalled = true ∧ (t.stream st).stalledMark = true ∧
      ((s.stream st).stallRun ≠ none → (t.stream st).stallCount = (s.stream st).stallCount) ∧
      ((s.stream st).stallRun = none →
        (t.stream st).stallCount = satInc16 (s.stream st).stallCount ∧ flagSet t .outputStall = true)

/-- A confirm timer at its limit completes its stream CLOSE_UNCONFIRMED, with CLOSE_FAILED and the Fault Log CLOSE class, which holds
the figures sent and none reported; the proceeding returns to IDLE when the other stream has finished too. That the close state then still reads COMPLETED in IDLE is log entry 34. -/
def Obligations.UnconfirmedCloseCompletes : Prop :=
  ∀ (s : State) (st : Stream) (n : Nat), s.proceeding.state = .confirming → (s.stream st).takesPart = true →
    (s.stream st).closeState = .closeSent → (s.stream st).confirmTimer = some n →
    (s.stream st).entry.confirmLimit * 200 ≤ n →
    ∃ t, exec (.closeUnconfirmed st) s = .next t ∧ (t.stream st).closeState = .completed ∧
      (t.stream st).closeOutcome = some .unconfirmed ∧ (t.stream st).confirmTimer = none ∧
      flagSet t .closeFailed = true ∧
      (∀ sent, (s.stream st).closeFigures = some sent → (s.management.faults[faultClose]).first = none →
        (t.management.faults[faultClose]).first = some
          { subject := BitVec.ofNat 48 (streamCode st), block := s.timebase.blockNumber,
            detail := wordBytes sent.count ++ wordBytes sent.check ++ zeros 8 }) ∧
      ((s.management.faults[faultClose]).first ≠ none →
        t.management.faults[faultClose] = { s.management.faults[faultClose] with repeated := true }) ∧
      ((s.stream (otherStream st)).takesPart = true → (s.stream (otherStream st)).closeState ≠ .completed →
        t.proceeding = s.proceeding ∧ (t.stream st).takesPart = true) ∧
      (((s.stream (otherStream st)).takesPart = false ∨ (s.stream (otherStream st)).closeState = .completed) →
        t.proceeding = { s.proceeding with state := .idle } ∧ (t.stream st).takesPart = false ∧
        flagSet t .proceedingState = true)

/-- The end of a line test: its result, the station in ACQUIRE, TEST_DONE, the engine IDLE, and TEST_COMMAND END queued, or at once in
transmission on an idle port A. Before it, each checked frame of the station goes to the checker: unsynchronised it takes the frame's
first 15 bits and compares the rest with the PRBS-15 sequence that follows them; in sequence it compares every bit; after a gap of g
whole frames it counts g missing frames and compares with the sequence moved on; after any other gap it counts one and synchronises
afresh; a frame before the expected counter is ignored. -/
def Obligations.LineTestEndsWithResult : Prop :=
  (∀ (s : State) (x : LineTest), s.Settled → s.engine.state = .test x → s.stations[x.station].state = .test →
    (x.duration ≤ x.elapsed ∨ 200 ≤ x.elapsed ∧ x.answered = false) →
    let command : Frame := { dst := x.address, src := s.config.ownAddress, etherType := s.config.etherType,
                             body := lrtBody 0x04 [2, 0, 0, 0] }
    ∃ t, exec .lineTestEnd s = .next t ∧
      t.engine = { s.engine with state := .idle, result := some (
        if x.answered = false then .noResponse
        else if s.engine.bitErrors = 0 ∧ s.engine.missingFrames = 0 then .pass else .fail) } ∧
      t.stations[x.station].state = .acquire ∧ (∀ k : Fin 16, k ≠ x.station → t.stations[k] = s.stations[k]) ∧
      flagSet t .testDone = true ∧ flagSet t .stationState = true ∧
      (portReady s .A = true → t.ports.a.transmitting = some { origin := .control, frame := command }) ∧
      (portReady s .A = false → s.ports.control.length < 64 →
        t.ports.control = s.ports.control ++ [{ tally := false, frame := command }]) ∧
      (portReady s .A = false → ({ tally := false, frame := command } : ControlFrame) ∈ t.ports.control) ∧
      t = { s with engine := t.engine, stations := t.stations, management := t.management, ports := t.ports }) ∧
  (∀ (s : State) (f : Frame) (x : LineTest), s.Settled → arrivesAs s .A f .stationAudio = true → s.part.awake = true →
    s.engine.state = .test x → stationOf s f = some x.station → s.stations[x.station].state = .test →
    passesChecks s x.station f = true → audioEventCount f.body = 0 →
    let r := runChecker (audioCounter f.body) (sampleBits (audioSamples f.body)) x.checker s.engine
    exec (.stationAudio f) s = .next { modStation x.station (fun z => { z with silence := 0 }) s with
      engine := { r.2 with state := .test { x with answered := true, checker := r.1 } } }) ∧
  (∀ (counter : Counter) (bits : List Bool) (c : Checker) (e : Engine),
    let r := runChecker counter bits c e
    let d := counterDiff counter c.expected
    (c.synchronised = false → 15 ≤ bits.length →
      Compared (bits.take 15) (bits.drop 15) counter e.missingFrames e r) ∧
    (c.synchronised = true → d = 0 → Compared c.past bits counter e.missingFrames e r) ∧
    (∀ g : Nat, c.synchronised = true → d = 48 * (g : Int) → 1 ≤ g → d ≤ 1048576 →
      Compared ((c.past ++ prbsAfter c.past (bits.length * g)).drop (bits.length * g)) bits counter
        (satAdd 4294967295 e.missingFrames g) e r) ∧
    (c.synchronised = true → 0 < d → (d % 48 ≠ 0 ∨ 1048576 < d) → 15 ≤ bits.length →
      Compared (bits.take 15) (bits.drop 15) counter (satAdd 4294967295 e.missingFrames 1) e r) ∧
    (c.synchronised = true → d < 0 → r = (c, e)))

/-- The end of the holdoff: with something pending, a controller and a masked flag set, a NOTICE is built and the timer runs again;
otherwise the timer stops. That the Controller Address is judged as it stands at the expiry alone is log entry 49. -/
def Obligations.HoldoffEndReportsPending : Prop :=
  ∀ s : State, s.Settled → s.management.holdoff = true →
    (s.management.noticePending = true → s.config.controller ≠ 0 →
      s.management.flags &&& s.config.noticeMask ≠ 0 → ∃ t, exec .noticeHoldoffExpiry s = .next t ∧
        t.management = { s.management with noticePending := false } ∧
        t = { s with management := t.management, ports := t.ports } ∧
        ∃ f : Frame, f.dst = s.config.controller ∧ f.body = lrtBody 0x22 (noticePayload s) ∧
          (t.ports.b.transmitting = some { origin := .notice, frame := f } ∨
            ({ notice := true, after := .nothing, frame := f } : ManagementFrame) ∈ t.ports.management)) ∧
    ((s.management.noticePending = false ∨ s.config.controller = 0 ∨
        s.management.flags &&& s.config.noticeMask = 0) →
      exec .noticeHoldoffExpiry s =
        .next { s with management := { s.management with holdoff := false, noticePending := false } })

/-! ## Station audio -/

/-- A frame whose source no enabled, valid entry holds: UNKNOWN_STATION, the Fault Log, and forwarding in INLINE; no station
changes. -/
def Obligations.UnknownStationIsReported : Prop :=
  ∀ (s : State) (f : Frame), s.Settled → arrivesAs s .A f .stationAudio = true →
    (∀ i : Fin 16, (s.entry i).valid = true → (s.entry i).address ≠ 0 → (s.entry i).address ≠ f.src) →
    ∃ t, exec (.stationAudio f) s = .next t ∧ flagSet t .unknownStation = true ∧
      ((s.management.faults[faultUnknownStation]).first = none →
        (t.management.faults[faultUnknownStation]).first = some
          { subject := f.src, block := s.timebase.blockNumber, detail := frameStart f }) ∧
      (s.config.role = .inlineRole → s.ports.forwardAB.length < 64 →
        t.ports.forwardAB = s.ports.forwardAB ++ [f]) ∧
      (s.config.role = .terminalRole → t.ports.forwardAB = s.ports.forwardAB) ∧
      t = { s with management := t.management, ports := t.ports }

/-- A frame that passes its checks, of a running station, with no event. First with a mark that Mark History does not hold: a copy of
a held frame changes nothing but the silence count. One that shares no sample with a held frame and is not late is placed when its window has
room; in a full window the frame of lowest rank of the held ones and this one is evicted and counted, and evicted-below rises to its
end in TRACK and COAST. A station found ABSENT goes to ACQUIRE first, and the frame is held there. The window's list holds frames in
the order of their placement (log entry 24), and R28's counter order is taken by rank. Then with a mark that it maps to boundary j, the
frame a copy or placed where there is room: the report is ignored unless j is PENDING. In ACQUIRE it acquires the station on j; in
TRACK and COAST the older PENDING boundaries are resolved by prediction, oldest first, and j by the count at the mark, or j in ACQUIRE
as soon as one of them has sent the station there. -/
def Obligations.CheckedFrameIsPlaced : Prop :=
  ∀ (s : State) (f : Frame) (i : Fin 16), s.Settled → arrivesAs s .A f .stationAudio = true → s.part.awake = true →
    stationOf s f = some i → passesChecks s i f = true → audioEventCount f.body = 0 →
    let z := s.stations[i]
    let c := audioCounter f.body
    let held : HeldFrame := { counter := c, samples := audioSamples f.body }
    ((∀ e ∈ s.timebase.history, e.mark ≠ audioMark f.body) →
    (z.state.running = true → (∃ h ∈ z.window, h.counter = c) →
      exec (.stationAudio f) s = .next (modStation i (fun x => { x with silence := 0 }) s)) ∧
    (z.state.running = true → (∀ h ∈ z.window, 48 ≤ (counterDiff c h.counter).natAbs) →
      (∀ r, z.releasePoint = some r → 0 < counterDiff (c + 48) r) →
      (z.window.length < 2 ^ (s.entry i).windowOrder → exec (.stationAudio f) s =
        .next (modStation i (fun x => { x with silence := 0, window := x.window ++ [held] }) s)) ∧
      (2 ^ (s.entry i).windowOrder ≤ z.window.length → ∀ low : Counter,
        let reference := match z.releasePoint with
          | some r => r - 48
          | none =>
            match z.window.head? with
            | some h => h.counter - 0x80000000
            | none => c - 0x80000000
        let rank := fun d : Counter => (d - reference).toNat
        (low = c ∨ ∃ h ∈ z.window, h.counter = low) → rank low ≤ rank c →
        (∀ h ∈ z.window, rank low ≤ rank h.counter) →
        exec (.stationAudio f) s = .next (modStation i (fun x => { x with
          silence := 0
          window := if low = c then x.window else x.window.filter (fun h => h.counter != low) ++ [held]
          evictCount := satInc16 x.evictCount
          evictedBelow := if x.state = .track ∨ x.state = .coast then
              (match x.evictedBelow with
               | some e => if counterDiff e (low + 48) < 0 then some (low + 48) else some e
               | none => some (low + 48))
            else x.evictedBelow }) s))) ∧
    (z.state = .absent → z.window = [] → ∃ t, exec (.stationAudio f) s = .next t ∧
      t.stations[i] = { z with
        state := .acquire, silence := 0, window := [held], releasePoint := none, evictedBelow := none
        tracker := { z.tracker with coastCount := 0, boundaries := t.stations[i].tracker.boundaries } } ∧
      (z.tracker.boundaries = [] → t.stations[i].tracker.boundaries = []) ∧
      (∀ k : Fin 16, k ≠ i → t.stations[k] = s.stations[k]) ∧ flagSet t .stationState = true ∧
      t = { s with stations := t.stations, management := t.management, ports := t.ports })) ∧
    (∀ (e : MarkEntry) (u : State), s.timebase.history.find? (fun e => e.mark == audioMark f.body) = some e →
      z.state.running = true →
      ((∃ h ∈ z.window, h.counter = c) ∧ u = modStation i (fun x => { x with silence := 0 }) s ∨
        (∀ h ∈ z.window, 48 ≤ (counterDiff c h.counter).natAbs) ∧
        (∀ r, z.releasePoint = some r → 0 < counterDiff (c + 48) r) ∧
        z.window.length < 2 ^ (s.entry i).windowOrder ∧
        u = modStation i (fun x => { x with silence := 0, window := x.window ++ [held] }) s) →
      let entries := z.tracker.boundaries
      let m := audioMarkCounter f.body
      let older := ((entries.takeWhile (fun b => b.block != e.block)).filter (fun b => decide (b.status = .pending))).map (·.block)
      let after := fun n => (older.take n).foldl (fun x b => resolveByPrediction i b x) u
      let becomes := fun w => ∃ t, exec (.stationAudio f) s = .next t ∧ t = { w with ports := t.ports }
      (statusOf entries e.block ≠ some .pending → exec (.stationAudio f) s = .next u) ∧
      (statusOf entries e.block = some .pending →
        (z.state = .acquire → becomes (acquireOn i e.block m u)) ∧
        (z.state = .track ∨ z.state = .coast →
          ((∀ n, (after n).stations[i].state ≠ .acquire) →
            becomes (resolveByMeasurement i e.block m (after older.length))) ∧
          (∀ n, (after n).stations[i].state = .acquire → (∀ q, q < n → (after q).stations[i].state ≠ .acquire) →
            becomes (acquireOn i e.block m (after n))))))

/-- A late frame is discarded and counted; at the LATE threshold the close delay rises by one below 8 and the count returns to 0. -/
def Obligations.LateFrameIsCounted : Prop :=
  ∀ (s : State) (f : Frame) (i : Fin 16) (r : Counter), s.Settled → arrivesAs s .A f .stationAudio = true →
    s.part.awake = true → stationOf s f = some i → s.stations[i].state.running = true → passesChecks s i f = true →
    audioEventCount f.body = 0 → (∀ e ∈ s.timebase.history, e.mark ≠ audioMark f.body) →
    (∀ h ∈ s.stations[i].window, h.counter ≠ audioCounter f.body) → s.stations[i].releasePoint = some r →
    counterDiff (audioCounter f.body + 48) r ≤ 0 → s.stations[i].lateCount < 255 →
    (s.stations[i].lateCount + 1 ≠ (s.entry i).lateThreshold →
      exec (.stationAudio f) s = .next (modStation i (fun x =>
        { x with silence := 0, lateCount := x.lateCount + 1 }) s)) ∧
    (s.stations[i].lateCount + 1 = (s.entry i).lateThreshold → ∃ t, exec (.stationAudio f) s = .next t ∧
      t.stations = (modStation i (fun x => { x with silence := 0, lateCount := 0 }) s).stations ∧
      t.assembler.closeDelay = (if s.assembler.closeDelay < 8 then s.assembler.closeDelay + 1 else s.assembler.closeDelay) ∧
      flagSet t .stationThreshold = true ∧
      t = { s with stations := t.stations, assembler := { s.assembler with closeDelay := t.assembler.closeDelay },
                   management := t.management, ports := t.ports })

/-- One FORMAT error, up to 255, is counted and logged for a frame of a station that is not ABSENT which fails a check, for a checked
frame that overlaps a held one, neither of which is used further, and for an unknown code or channel of a placed frame's only event.
That the placed frame comes last in the window's list, where R28 inserts it in counter order, is the model's choice (log entry 24).
At the FORMAT threshold the window is emptied and the count returns to 0; a station in TRACK, COAST or ACQUIRE is then in ACQUIRE with
release point and evicted-below none, and one in TEST stays there. -/
def Obligations.FailedCheckCountsFormat : Prop :=
  ∀ (s : State) (f : Frame) (i : Fin 16) (window : List HeldFrame), arrivesAs s .A f .stationAudio = true →
    s.part.awake = true → stationOf s f = some i → s.stations[i].state ≠ .absent → s.Settled →
    let z := s.stations[i]
    let c := audioCounter f.body
    let failed := passesChecks s i f = false
    let notLate := ∀ r, z.releasePoint = some r → 0 < counterDiff (c + 48) r
    let overlapping := passesChecks s i f = true ∧ z.state.running = true ∧ notLate ∧
      (∀ h ∈ z.window, h.counter ≠ c) ∧ ∃ h ∈ z.window, (counterDiff c h.counter).natAbs < 48
    let badEvent := passesChecks s i f = true ∧ z.state.running = true ∧ notLate ∧
      (∀ h ∈ z.window, 48 ≤ (counterDiff c h.counter).natAbs) ∧ z.window.length < 2 ^ (s.entry i).windowOrder ∧
      (∀ h ∈ s.timebase.history, h.mark ≠ audioMark f.body) ∧
      ∃ e, audioEvents f.body = [e] ∧
        (e.code.toNat = 0 ∨ 8 < e.code.toNat ∨ (s.entry i).channels ≤ e.channel.toNat)
    ((failed ∨ overlapping) ∧ window = z.window ∨
      badEvent ∧ window = z.window ++ [{ counter := c, samples := audioSamples f.body }]) →
    let n := if z.formatCount < 255 then z.formatCount + 1 else z.formatCount
    let taken := z.formatCount < 255 ∧ z.formatCount + 1 = (s.entry i).formatThreshold
    ∃ t, exec (.stationAudio f) s = .next t ∧
      ((s.management.faults[faultFrameFormat]).first = none →
        (t.management.faults[faultFrameFormat]).first = some
          { subject := BitVec.ofNat 48 i.val, block := s.timebase.blockNumber, detail := frameStart f }) ∧
      ((s.management.faults[faultFrameFormat]).first ≠ none → t.management.faults[faultFrameFormat] =
        { s.management.faults[faultFrameFormat] with repeated := true }) ∧
      (¬ taken → t = { modStation i (fun x => { x with silence := 0, window := window, formatCount := n }) s with
        management := { s.management with faults := t.management.faults } }) ∧
      (taken → flagSet t .stationThreshold = true ∧ (∀ k : Fin 16, k ≠ i → t.stations[k] = s.stations[k]) ∧
        t = { s with stations := t.stations, management := t.management, ports := t.ports } ∧
        (z.state.running = false → t.stations[i] = { z with silence := 0, formatCount := 0, window := [] }) ∧
        (z.state.running = true →
          t.stations[i] = { z with
            state := .acquire, silence := 0, formatCount := 0, window := [], releasePoint := none, evictedBelow := none
            tracker := t.stations[i].tracker } ∧
          t.stations[i].tracker = { z.tracker with
            coastCount := 0, boundaries := t.stations[i].tracker.boundaries } ∧
          (∀ b ∈ t.stations[i].tracker.boundaries, ∀ c, b.status ≠ .resolved c)))

/-- One button event of a placed frame. A repeat of a serial changes nothing more; a new one enters the history. A mode button acts on
the Mode Unit where the station has bench authority, with MODE_STACK_OVERFLOW when a push finds 4 saved modes, and is dropped
otherwise. A confer button whose channel is in a group sets the group's request: at once engaged with no proceeding running; in a
proceeding an entry of the Toggle List, its point raised to the release point and to the newest entry's point, and LATE when raised.
With 8 entries held the toggle is discarded and the group FORCED, and a FORCED group's forced point follows later toggles. In STANDBY
a mode button with bench authority and wake enable wakes the part and then acts, and any other button only enters the history. That
the window's list is in order of placement is log entry 24; that a push which overflows and changes nothing raises no MODE_CHANGED is
log entry 46. -/
def Obligations.ButtonEventsAct : Prop :=
  ∀ (s : State) (f : Frame) (i : Fin 16) (e : ButtonEvent), s.Settled → arrivesAs s .A f .stationAudio = true →
    stationOf s f = some i → passesChecks s i f = true → audioEvents f.body = [e] →
    e.channel.toNat < (s.entry i).channels → 1 ≤ e.code.toNat → e.code.toNat ≤ 8 →
    let repeated := isRepeat s.stations[i].newestSerial e.serial
    let placed := { s.stations[i] with
      silence := 0,
      window := s.stations[i].window ++ [{ counter := audioCounter f.body, samples := audioSamples f.body }] }
    let taken := modStation i (fun _ => { placed with newestSerial := some e.serial }) s
    let pressed := modeButton e.code.toNat s.mode.current s.mode.stack
    let pushed := 4 ≤ s.mode.stack.length ∧ (e.code.toNat = 5 ∨ e.code.toNat = 7)
    let modeDone := fun (t : State) (m : CourtMode) (stack : List CourtMode) =>
      t.mode = { s.mode with current := m, stack := stack } ∧ t.groups = s.groups ∧
        ((m ≠ s.mode.current ∨ stack ≠ s.mode.stack) → flagSet t .modeChanged = true) ∧
        (pushed → flagSet t .modeStackOverflow = true)
    (s.part.awake = true → s.stations[i].state.running = true →
      (∀ h ∈ s.timebase.history, h.mark ≠ audioMark f.body) →
      (∀ h ∈ s.stations[i].window, 48 ≤ (counterDiff (audioCounter f.body) h.counter).natAbs) →
      (∀ r, s.stations[i].releasePoint = some r → 0 < counterDiff (audioCounter f.body + 48) r) →
      s.stations[i].window.length < 2 ^ (s.entry i).windowOrder →
      (repeated = true → exec (.stationAudio f) s = .next (modStation i (fun _ => placed) s)) ∧
      (repeated = false →
        (3 ≤ e.code.toNat → (s.entry i).benchAuthority = false ∨ pressed = none →
          exec (.stationAudio f) s = .next taken) ∧
        (∀ m stack, (s.entry i).benchAuthority = true → pressed = some (m, stack) →
          ∃ t, exec (.stationAudio f) s = .next t ∧ modeDone t m stack) ∧
        (∀ down : Bool, e.code.toNat = (if down then 1 else 2) →
          (toggleGroup s.tables.active i e.channel.toNat = none → exec (.stationAudio f) s = .next taken) ∧
          (∀ g, toggleGroup s.tables.active i e.channel.toNat = some g →
            let c := s.groups[g]
            let p := match s.stations[i].releasePoint with
              | some r => if counterDiff e.counter r < 0 then r else e.counter
              | none => e.counter
            let q := match c.toggles.getLast? with
              | some x => if counterDiff p x.point < 0 then x.point else p
              | none => p
            let first := match c.toggles.getLast? with
              | some x => if counterDiff e.counter x.point < 0 then x.point else e.counter
              | none => e.counter
            let later := match c.forcedPoint with
              | some x => if 0 < counterDiff e.counter x then e.counter else x
              | none => e.counter
            (c.requested = down → exec (.stationAudio f) s = .next taken) ∧
            (c.requested ≠ down → ∃ t, exec (.stationAudio f) s = .next t ∧ t.mode = s.mode ∧
              (∀ k : Fin 8, k ≠ g → t.groups[k] = s.groups[k]) ∧
              (s.proceeding.state = .idle ∨ s.proceeding.state = .armed →
                t.groups[g] = { c with requested := down, engaged := down }) ∧
              (s.proceeding.state ≠ .idle → s.proceeding.state ≠ .armed →
                (c.forced = false → c.toggles.length < 8 → t.groups[g] = { c with
                  requested := down
                  toggles := c.toggles ++ [{ down := down, point := q, late := decide (p ≠ e.counter ∨ q ≠ p) }] }) ∧
                (c.forced = false → 8 ≤ c.toggles.length → flagSet t .conferForced = true ∧
                  t.groups[g] = { c with requested := down, forced := true, forcedPoint := some first }) ∧
                (c.forced = true → t.groups[g] = { c with requested := down, forcedPoint := some later }))))))) ∧
    (s.part.awake = false →
      (repeated = true → exec (.stationAudio f) s = .next s) ∧
      (repeated = false → e.code.toNat ≤ 2 ∨ (s.entry i).benchAuthority = false ∨ (s.entry i).wakeEnable = false →
        exec (.stationAudio f) s = .next (modStation i (fun x => { x with newestSerial := some e.serial }) s)) ∧
      (repeated = false → 3 ≤ e.code.toNat → (s.entry i).benchAuthority = true → (s.entry i).wakeEnable = true →
        ∃ t, exec (.stationAudio f) s = .next t ∧ t.part = { s.part with awake := true, wakeCause := some (.bench i) } ∧
          flagSet t .woken = true ∧
          t.timebase = { s.timebase with state := .search, candidateCount := 0, history := [] } ∧
          t.tables = s.tables ∧ t.proceeding = s.proceeding ∧ t.config = s.config ∧
          (∀ m stack, pressed = some (m, stack) → modeDone t m stack) ∧ (pressed = none → t.mode = s.mode)))

/-- What a confer group hands over for a timed block: every privileged interval is nonempty and ends within the block, the engaged
state afterwards is the one that the last taken toggle leaves, and the toggles that lie in later blocks stay, in their order. Taken
are the toggles before the block's end and the stale ones, more than 1,048,576 samples past it, and the late mark is set when one of
them is stale or carries LATE. With no stale toggle among them and offsets that do not fall, the intervals ascend and do not overlap.
A FORCED group leaves FORCED when its list is empty and its forced point lies in the block, before it, or stale; then the request is
its engaged state. That an interval whose end lies before its start is dropped, and that stale toggles are taken in list order, are
log entries 21 and 48. -/
def Obligations.ConferIntervalsLieInBlock : Prop :=
  ∀ (x : Timing) (g : ConferGroup), x.length < 2 ^ 31 →
    let passed := fun p : Counter => counterDiff p x.blockEnd < 0 ∨ 1048576 < counterDiff p x.blockEnd
    (∀ p ∈ (handGroup x g).intervals, p.1 < p.2 ∧ p.2 ≤ x.length) ∧
    (∀ e : Toggle, isTaken x.blockEnd e = true ↔ passed e.point) ∧
    takenEntries x g = g.toggles.filter (isTaken x.blockEnd) ∧
    (g.consume x).toggles = g.toggles.filter (fun e => !isTaken x.blockEnd e) ∧
    (∀ e, (takenEntries x g).getLast? = some e → (g.consume x).engaged = e.down) ∧
    (takenEntries x g = [] → (g.consume x).engaged = g.engaged ∧
      (handGroup x g).intervals = if g.engaged ∧ 0 < x.length then [(0, x.length)] else []) ∧
    (g.consume x).requested = g.requested ∧ (g.consume x).forced = g.forced ∧
    (g.consume x).forcedPoint = g.forcedPoint ∧ (handGroup x g).forced = g.forced ∧
    ((handGroup x g).late = true ↔
      ∃ e ∈ takenEntries x g, e.late = true ∨ 1048576 < counterDiff e.point x.blockEnd) ∧
    ((∀ e ∈ takenEntries x g, counterDiff e.point x.blockEnd < 0) →
      (takenEntries x g).Pairwise (fun a b =>
        (counterDiff a.point x.start).toNat ≤ (counterDiff b.point x.start).toNat) →
      (handGroup x g).intervals.Pairwise (fun a b => a.2 ≤ b.1)) ∧
    (g.forced = true → g.toggles = [] → (∀ p, g.forcedPoint = some p → passed p) →
      g.reexamine x = { g with forced := false, forcedPoint := none, engaged := g.requested }) ∧
    ((g.forced = false ∨ g.toggles ≠ [] ∨ ∃ p, g.forcedPoint = some p ∧ ¬ passed p) → g.reexamine x = g)

/-! ## Credits, acks and transmissions -/

/-- A grant taken adds up to 255 and ends a stall, where nothing is released by it; a CREDIT in IDLE is ignored, and one that fails
its source or stream is counted as ignored. In STANDBY the frame wakes the part first and is then handled. -/
def Obligations.CreditAddsGrant : Prop :=
  (∀ (s : State) (f : Frame), arrivesAs s .B f .credit = true → s.part.awake = false →
    ∃ u, Woken (.frame 0x18) s u ∧ exec (.credit f) s = exec (.credit f) u) ∧
  ∀ (s : State) (f : Frame) (st : Stream) (g : Nat), s.Settled → ArrivesAwake s f .credit → wellFormed f.body 4 = true →
    fieldAt (payloadOf f.body) 0 1 = streamCode st → fieldAt (payloadOf f.body) 1 1 = g →
    (s.proceeding.state = .idle → exec (.credit f) s = .next s) ∧
    (s.proceeding.state ≠ .idle → ((s.stream st).takesPart = false ∨ f.src ≠ (s.stream st).entry.destination) →
      exec (.credit f) s = .next (modStream st (fun x => { x with ignoredCredit := satInc16 x.ignoredCredit }) s)) ∧
    (s.proceeding.state ≠ .idle → (s.stream st).takesPart = true → f.src = (s.stream st).entry.destination →
      (s.output.sending ≠ none ∨ (s.stream st).fifo = []) → 0 < g →
      exec (.credit f) s = .next (modStream st (fun x =>
        { x with credit := min 255 (x.credit + g), stallTimer := none, stallReported := false }) s)) ∧
    (s.proceeding.state ≠ .idle → (s.stream st).takesPart = true → f.src = (s.stream st).entry.destination → g = 0 →
      exec (.credit f) s = .next s)

/-- A grant that finds the sender free and a stored record waiting for credit releases it: the record takes the next sequence number,
its check enters the stream check, one credit is spent, and the turn passes to the other stream. -/
def Obligations.GrantReleasesRecord : Prop :=
  ∀ (s : State) (f : Frame) (st : Stream) (g : Nat) (q : QueuedRecord) (rest : List QueuedRecord) (c : BitVec 32),
    s.Settled → ArrivesAwake s f .credit → wellFormed f.body 4 = true →
    fieldAt (payloadOf f.body) 0 1 = streamCode st → fieldAt (payloadOf f.body) 1 1 = g → 0 < g →
    s.proceeding.state ≠ .idle → (s.stream st).takesPart = true → f.src = (s.stream st).entry.destination →
    s.output.sending = none → (s.stream st).fifo = q :: rest → q.stored = true → (s.stream st).credit = 0 →
    q.record.check = some c →
    ∃ t, exec (.credit f) s = .next t ∧
      (∃ x, t.output.sending = some x ∧ x.stream = st ∧ x.frames = recordFrames s st q.record) ∧
      t.output.turn = otherStream st ∧ (t.stream st).sequence = (s.stream st).sequence + 1 ∧
      (t.stream st).check = crcRun (s.stream st).check (wordBytes c) ∧ (t.stream st).credit = min 255 g - 1 ∧
      (t.stream st).fifo = (s.stream st).fifo ∧ t.stream (otherStream st) = s.stream (otherStream st)

/-- An ack taken completes its stream: CONFIRMED when count and check both agree, and otherwise CLOSE_MISMATCH with CLOSE_FAILED and the
Fault Log CLOSE class, which holds the figures sent and those reported; the proceeding returns to IDLE when the other stream has finished too. That the close state then still reads COMPLETED in IDLE is log
entry 34. In STANDBY the frame wakes the part first and is then handled. -/
def Obligations.CloseAckCompletesStream : Prop :=
  (∀ (s : State) (f : Frame), arrivesAs s .B f .closeAck = true → s.part.awake = false →
    ∃ u, Woken (.frame 0x19) s u ∧ exec (.closeAck f) s = exec (.closeAck f) u) ∧
  ∀ (s : State) (f : Frame) (st : Stream) (sent : CloseFigures), ArrivesAwake s f .closeAck →
    wellFormed f.body 20 = true → fieldAt (payloadOf f.body) 0 1 = streamCode st → s.proceeding.state = .confirming →
    (s.stream st).takesPart = true → (s.stream st).closeState = .closeSent →
    f.src = (s.stream st).entry.destination →
    BitVec.ofNat 64 (fieldAt (payloadOf f.body) 4 8) = s.proceeding.id → (s.stream st).closeFigures = some sent →
    ∃ t, exec (.closeAck f) s = .next t ∧ (t.stream st).closeState = .completed ∧ (t.stream st).confirmTimer = none ∧
      (wordAt (payloadOf f.body) 12 = sent.count ∧ wordAt (payloadOf f.body) 16 = sent.check →
        (t.stream st).closeOutcome = some .confirmed) ∧
      (¬ (wordAt (payloadOf f.body) 12 = sent.count ∧ wordAt (payloadOf f.body) 16 = sent.check) →
        (t.stream st).closeOutcome = some .mismatch ∧ flagSet t .closeFailed = true ∧
        ((s.management.faults[faultClose]).first = none → (t.management.faults[faultClose]).first = some
          { subject := BitVec.ofNat 48 (streamCode st), block := s.timebase.blockNumber,
            detail := wordBytes sent.count ++ wordBytes sent.check ++ wordBytes (wordAt (payloadOf f.body) 12) ++
              wordBytes (wordAt (payloadOf f.body) 16) }) ∧
        ((s.management.faults[faultClose]).first ≠ none →
          t.management.faults[faultClose] = { s.management.faults[faultClose] with repeated := true })) ∧
      ((s.stream (otherStream st)).takesPart = true → (s.stream (otherStream st)).closeState ≠ .completed →
        t.proceeding = s.proceeding) ∧
      (((s.stream (otherStream st)).takesPart = false ∨ (s.stream (otherStream st)).closeState = .completed) →
        t.proceeding = { s.proceeding with state := .idle })

/-- A forwarded frame leaves its queue when its transmission has been completed, and nothing outside the ports changes but a monitor
frame that may go next. A reply that has been transmitted ends the hold of requests behind 7 waiting replies, and the next frame of the
management transmit queue follows it (log entry 50). -/
def Obligations.ForwardedFrameLeavesQueue : Prop :=
  ∀ (s : State) (f : Frame), s.Settled →
    (s.ports.b.transmitting = some { origin := .forwarded, frame := f } →
      ∃ t, exec (.frameTransmitted .B) s = .next t ∧ t.ports.forwardAB = s.ports.forwardAB.drop 1 ∧
        t.ports.forwardBA = s.ports.forwardBA ∧
        t = { s with ports := t.ports, engine := { s.engine with waiting := t.engine.waiting } }) ∧
    (s.ports.a.transmitting = some { origin := .forwarded, frame := f } →
      ∃ t, exec (.frameTransmitted .A) s = .next t ∧ t.ports.forwardBA = s.ports.forwardBA.drop 1 ∧
        t.ports.forwardAB = s.ports.forwardAB ∧
        t = { s with ports := t.ports, engine := { s.engine with waiting := t.engine.waiting } }) ∧
    (s.ports.b.transmitting = some { origin := .reply .nothing, frame := f } → s.ports.b.linkUp = true →
      ∀ (m : ManagementFrame) (rest : List ManagementFrame), s.ports.management = m :: rest →
      ∃ t, exec (.frameTransmitted .B) s = .next t ∧
        t = { s with ports := { s.ports with
          management := rest, repliesFull := false
          b := { s.ports.b with transmitting := some { origin := m.origin, frame := m.frame } } } } ∧
        (m.notice = false → (s.ports.management.filter (fun x => !x.notice)).length ≤ 7 → s.part.awake = true →
          s.management.armed = .nothing → mayServe t = true))

/-- The last frame of a stored record transmitted in OPEN frees the record's slot; an earlier one leaves the next frame to be offered;
in DRAINING after the last block the freed slot takes the stream's stall run. At a block close the records handed to a stream are
stored in order while a slot is free; the first that finds none starts a stall run, counted and flagged, that absorbs the later ones;
a stall run held is stored ahead of them when two slots and a slot for each are free, and absorbs them otherwise. A boundary that
closes one block which does not qualify for a WITHHELD run puts the block's record at the tail of the OPEN FIFO, built from the latched
mode and the record time before its advance, and a record of its SEALED tracks, if any, at the tail of the SEALED FIFO. A block close
hands each stream the records built of the entries of its mapped tracks, the stations timed and the groups consumed before. -/
def Obligations.RecordLeavesStore : Prop :=
  (∀ (s : State) (f : Frame) (st : Stream) (l : List Frame) (q : QueuedRecord) (rest : List QueuedRecord),
    s.ports.b.transmitting = some { origin := .record, frame := f } →
    s.output.sending = some { stream := st, frames := f :: l } → (s.stream st).fifo = q :: rest → q.stored = true →
    q.record ≠ .close →
    (s.proceeding.state = .opened → ∃ t, exec (.frameTransmitted .B) s = .next t ∧ t.proceeding = s.proceeding ∧
      t.tables = s.tables ∧ t.stations = s.stations ∧
      (l = [] → (t.stream st).fifo = rest ∧ (t.stream st).held + 1 = (s.stream st).held) ∧
      (l ≠ [] → t.output = { s.output with sending := some { stream := st, frames := l } })) ∧
    (∀ run, s.proceeding.state = .draining → lastClosed s = true → s.StoreBounded → (s.stream st).takesPart = true → l = [] →
      (s.stream st).stallRun = some run → (s.stream (otherStream st)).stallRun = none →
      ∃ t, exec (.frameTransmitted .B) s = .next t ∧ t.proceeding = s.proceeding ∧ (t.stream st).stallRun = none ∧
        (t.stream st).fifo =
          rest ++ [{ record := .run (buildRun s.proceeding.id st .outputStall run), stored := true }])) ∧
  (∀ (s : State) (st : Stream) (l : List Record), (s.stream st).takesPart = true → (∀ r ∈ l, r ≠ .close) →
    let t := handRecords st l s
    let free := match st with
      | .openS => 2048 - (s.output.openS.held + s.output.sealedS.held)
      | .sealedS => min (2048 - (s.output.openS.held + s.output.sealedS.held)) (1024 - s.output.sealedS.held)
    let queued := fun l : List Record => l.map (fun r => ({ record := r, stored := true } : QueuedRecord))
    let counts := (t.stream st).stallCount = (s.stream st).stallCount
    t.stream (otherStream st) = s.stream (otherStream st) ∧
    t = { s with output := t.output, management := t.management, ports := t.ports } ∧
    ((s.stream st).stallRun = none → l.length ≤ free →
      (t.stream st).fifo = (s.stream st).fifo ++ queued l ∧ (t.stream st).stallRun = none ∧ counts) ∧
    ((s.stream st).stallRun = none → free < l.length →
      (t.stream st).fifo = (s.stream st).fifo ++ queued (l.take free) ∧
      (t.stream st).stallCount = satInc16 (s.stream st).stallCount ∧ flagSet t .outputStall = true ∧
      ∃ run, (t.stream st).stallRun = some run ∧ run.Covers ((l.drop free).filterMap Record.series)) ∧
    (∀ run, (s.stream st).stallRun = some run → 2 ≤ free → l.length + 1 ≤ free →
      (t.stream st).fifo = (s.stream st).fifo ++
        queued (.run (buildRun s.proceeding.id st .outputStall run) :: l) ∧ (t.stream st).stallRun = none ∧ counts) ∧
    (∀ run, (s.stream st).stallRun = some run → (free < 2 ∨ free < l.length + 1) →
      (t.stream st).fifo = (s.stream st).fifo ∧ counts ∧
      ∃ x, (t.stream st).stallRun = some x ∧ x.Covers (run :: l.filterMap Record.series))) ∧
  (∀ (s : State) (c : Instr) (g : Tick) (k : BlockNo) (p : BlockNo),
    (c = .guardExpiry ∧ s.timebase.state = .locked ∧ s.timebase.guardTimer = some g ∨
      c = .synthesisTimerExpiry ∧ s.timebase.state = .holdover ∧ s.timebase.synthesisTimer = some g) →
    s.assembler.next = some k →
    counterDiff (s.timebase.blockNumber + 1) k = (s.assembler.closeDelay : Int) + 1 →
    s.proceeding.state = .opened → s.proceeding.first = some p → 0 ≤ counterDiff k p → s.proceeding.last = none →
    s.output.openS.takesPart = true → s.output.openS.stallRun = none → s.assembler.run = none →
    s.output.openS.held + s.output.sealedS.held < 2048 →
    let sealedIn := fun (t : State) (q : Fin 48) => t.tables.active.tracks[q].mapped = true ∧
      dispositionIn t.tables.active (latchedMode s k) t.tables.active.tracks[q].role = .sealedD
    let sealedReady := s.output.sealedS.takesPart = true ∧ s.output.sealedS.stallRun = none ∧
      s.output.openS.held + s.output.sealedS.held < 2047 ∧ s.output.sealedS.held < 1024
    (k = p ∨ s.tables.staged = false ∧ ∃ q : Fin 48, s.tables.active.tracks[q].mapped = true ∧
      dispositionIn s.tables.active (latchedMode s k) s.tables.active.tracks[q].role ≠ .withheldD) →
    ∃ t r, exec c s = .next t ∧
      t.output.openS.fifo = s.output.openS.fifo ++ [{ record := .block r, stored := true }] ∧
      t.assembler.run = none ∧ r.proceeding = s.proceeding.id ∧ r.stream = .openS ∧ r.block = k ∧
      r.mode = latchedMode s k ∧ r.time = s.timebase.recordTime ∧ r.mapGeneration = t.tables.mapGeneration ∧
      r.first = decide (k = p) ∧ r.last = false ∧ r.check = manualCrc r.tracks.flatten ∧
      r.items.map (·.track) = (List.finRange 48).filter (fun q => t.tables.active.tracks[q].mapped) ∧
      ((s.output.sealedS.takesPart = false ∨ s.output.sealedS.stallRun = none ∧ ∀ q, ¬ sealedIn t q) →
        t.output.sealedS.fifo = s.output.sealedS.fifo) ∧
      (sealedReady → (∃ q, sealedIn t q) → ∃ x,
        t.output.sealedS.fifo = s.output.sealedS.fifo ++ [{ record := .block x, stored := true }] ∧
        x.stream = .sealedS ∧ x.block = k ∧ x.mode = latchedMode s k ∧ x.time = s.timebase.recordTime ∧
        x.check = manualCrc x.tracks.flatten ∧ (∀ y ∈ x.items, y ∈ r.items) ∧
        ∀ q, q ∈ x.items.map (·.track) ↔ sealedIn t q)) ∧
  (∀ (s : State) (k : BlockNo), s.tables.staged = false → isBlockClose s k = true → s.proceeding.state = .opened →
    let ts := (closeTimings k s).2
    let gb := groupBlocks (closeTimings k s).1 ts
    let u := consumeGroups ts (closeTimings k s).1
    let m := latchedMode s k
    let l := buildEntries u m ts gb
    let t := closePoint k s
    t.output = (handRecords .sealedS (sealedRecords u k m gb l) (handRecords .openS (openRecords u k m gb l).2 u)).output ∧
    t.assembler.run = (openRecords u k m gb l).1 ∧
    t.assembler.folds = min 65535 (s.assembler.folds + (l.filter (·.folded)).length) ∧
    t.assembler.next = some (k + 1))

/-! ## Requests -/

/-- A REQUEST that arrives is queued behind the others, answered BUSY when 4 wait, or rejected when its source is not the
controller. In STANDBY the frame wakes the part first and is then handled. -/
def Obligations.RequestIsQueued : Prop :=
  (∀ (s : State) (f : Frame), arrivesAs s .B f .request = true → s.part.awake = false →
    ∃ u, Woken (.frame 0x20) s u ∧ exec (.request f) s = exec (.request f) u) ∧
  ∀ (s : State) (f : Frame), s.Settled → ArrivesAwake s f .request →
    ((s.config.controller = 0 ∨ f.src = s.config.controller) → s.management.requests.length < 4 →
      exec (.request f) s = .next { s with management := { s.management with
        requests := s.management.requests ++ [{ source := f.src, body := f.body }] } }) ∧
    ((s.config.controller = 0 ∨ f.src = s.config.controller) → 4 ≤ s.management.requests.length →
      repliesWaiting s < 7 →
      exec (.request f) s = .next (withReply .nothing (replyTo s.config { source := f.src, body := f.body } .busy [])
        { s with management := { s.management with busy := satInc16 s.management.busy } })) ∧
    ((s.config.controller = 0 ∨ f.src = s.config.controller) → 4 ≤ s.management.requests.length →
      7 ≤ repliesWaiting s →
      exec (.request f) s = .next { s with
        management := { s.management with busy := satInc16 s.management.busy },
        ports := { s.ports with replyDrop := satInc16 s.ports.replyDrop } }) ∧
    (s.config.controller ≠ 0 → f.src ≠ s.config.controller → ∃ t, exec (.request f) s = .next t ∧
      t.management = { s.management with rejected := satInc16 s.management.rejected, faults := t.management.faults } ∧
      ((s.management.faults[faultManagement]).first = none → (t.management.faults[faultManagement]).first = some
        { subject := f.src, block := s.timebase.blockNumber, detail := frameStart f }) ∧
      t = { s with management := t.management })

/-- A request with a malformed header or an unknown code is answered UNKNOWN and counted; a write of STATION_STATUS or FAULT_LOG is
answered ACCESS and one of an unknown table RANGE; nothing else changes. -/
def Obligations.UnknownAndReadOnlyRequests : Prop :=
  ∀ (s : State) (r : Request) (rest : List Request), s.Settled →
    (Serving s .unknownRequest r rest → exec .unknownRequest s =
      .next (withReply .nothing (replyTo s.config r .unknown [])
        { s with management := { s.management with requests := rest, unknown := satInc16 s.management.unknown } })) ∧
    (Serving s .writeEntries r rest → fieldAt r.payload 4 1 < 8 → exec .writeEntries s =
      .next (withReply .nothing (replyTo s.config r .access []) (dequeued s rest))) ∧
    (Serving s .writeEntries r rest → 8 ≤ fieldAt r.payload 4 1 → exec .writeEntries s =
      .next (withReply .nothing (replyTo s.config r .range []) (dequeued s rest)))

/-- READ_ENTRIES: the first check that fails decides the result, and a read that passes returns its entries and changes nothing, but
that one of STATION_STATUS clears the peak absolute d of each station returned. That a shadow byte above 1 is refused with RANGE ahead
of the other checks is log entry 23. -/
def Obligations.ReadReturnsEntries : Prop :=
  ∀ (s : State) (r : Request) (rest : List Request), s.Settled →
    let first := fieldAt r.payload 5 1
    let count := fieldAt r.payload 6 1
    let plain := isYesNo (byteAt r.payload 7) = true
    let data := fun t => (r.payload.drop 4).take 3 ++ [0] ++
      (List.range count).flatMap (fun e => entryBytes s (byteAt r.payload 7 == 1) t (first + e))
    (Serving s .readEntries r rest →
      let answer := fun res data =>
        exec .readEntries s = .next (withReply .nothing (replyTo s.config r res data) (dequeued s rest))
      (1 < (byteAt r.payload 7).toNat → answer .range []) ∧
      (plain → 8 ≤ fieldAt r.payload 4 1 → answer .range []) ∧
      (plain → fieldAt r.payload 4 1 = 3 → answer .unreadable []) ∧
      (plain → ∀ t, tableOf (fieldAt r.payload 4 1) = some t → t ≠ .tallyOverride →
        (count = 0 ∨ t.entries < first + count → answer .range []) ∧
        (0 < count → first + count ≤ t.entries → answer .ok (data t)))) ∧
    (Serving s .readStationStatus r rest →
      ((1 < (byteAt r.payload 7).toNat ∨ count = 0 ∨ 16 < first + count) → exec .readStationStatus s =
        .next (withReply .nothing (replyTo s.config r .range []) (dequeued s rest))) ∧
      (plain → 0 < count → first + count ≤ 16 →
        ∃ t, exec .readStationStatus s = .next t ∧
          Replied .nothing (replyTo s.config r .ok (data .stationStatus)) t ∧
          (∀ i : Fin 16, first ≤ i.val → i.val < first + count →
            t.stations[i] = { s.stations[i] with tracker := { s.stations[i].tracker with peakD := 0 } }) ∧
          (∀ i : Fin 16, (i.val < first ∨ first + count ≤ i.val) → t.stations[i] = s.stations[i]) ∧
          t = { s with stations := t.stations, management := { s.management with requests := rest }, ports := t.ports }))

/-- A write of the three staged tables that passes its checks. Outside IDLE it goes to the shadow copies and is answered STAGED, and a
refused write changes neither copy; in IDLE it becomes active in both copies at once, is answered OK, and increments the map
generation; then each written station is DISABLED, ABSENT, or as it stood, with its tracker mode loaded and what an identity change
clears at 0, and a line test of one that leaves TEST ends ABORTED. A first index and count beyond the table are refused with RANGE.
That every written entry is applied, changed or not, and that an entry which becomes valid keeps its counts, are log entries 16 and
17. -/
def Obligations.TableWritesByState : Prop :=
  ∀ (s : State) (r : Request) (rest : List Request), s.Settled →
    let first := fieldAt r.payload 5 1
    let count := fieldAt r.payload 6 1
    (s.proceeding.state ≠ .idle →
      let refused := fun res => Host.Outcome.next (withReply .nothing (replyTo s.config r res []) (dequeued s rest))
      (Serving s .writeStation r rest → 0 < count → first + count ≤ 16 →
        (∀ u, stationWrite s.tables.shadow first count r.payload = .ok u → exec .writeStation s =
          .next (withReply .nothing (replyTo s.config r .staged []) { dequeued s rest with tables := { s.tables with
            shadow := u, staged := true,
            written := Vector.ofFn fun i =>
              s.tables.written[i] || (decide (first ≤ i.val) && decide (i.val < first + count)) } })) ∧
        (∀ e, stationWrite s.tables.shadow first count r.payload = .error e → exec .writeStation s = refused e)) ∧
      (Serving s .writeTrackMap r rest → 0 < count → first + count ≤ 48 →
        (∀ u, trackWrite s.tables.shadow first count r.payload = .ok u → ∃ t, exec .writeTrackMap s = .next t ∧
          t.tables.shadow = u ∧ t.tables.staged = true ∧ t.tables.active = s.tables.active ∧
          Replied .nothing (replyTo s.config r .staged []) t) ∧
        (∀ e, trackWrite s.tables.shadow first count r.payload = .error e → exec .writeTrackMap s = refused e)) ∧
      (Serving s .writeDisposition r rest → 0 < count → first + count ≤ 6 →
        (∀ u, dispositionWrite s.tables.shadow first count r.payload = .ok u → ∃ t, exec .writeDisposition s = .next t ∧
          t.tables.shadow = u ∧ t.tables.staged = true ∧ t.tables.active = s.tables.active ∧
          Replied .nothing (replyTo s.config r .staged []) t) ∧
        (∀ e, dispositionWrite s.tables.shadow first count r.payload = .error e →
          exec .writeDisposition s = refused e))) ∧
    ((count = 0 ∨ 16 < first + count) → Serving s .writeStation r rest → exec .writeStation s =
      .next (withReply .nothing (replyTo s.config r .range []) (dequeued s rest))) ∧
    ((count = 0 ∨ 48 < first + count) → Serving s .writeTrackMap r rest → exec .writeTrackMap s =
      .next (withReply .nothing (replyTo s.config r .range []) (dequeued s rest))) ∧
    ((count = 0 ∨ 6 < first + count) → Serving s .writeDisposition r rest → exec .writeDisposition s =
      .next (withReply .nothing (replyTo s.config r .range []) (dequeued s rest))) ∧
    (∀ u, s.proceeding.state = .idle →
      let done := fun (c : Instr) => ∃ t, exec c s = .next t ∧
        t.tables.active = u ∧ t.tables.shadow = u ∧ t.tables.staged = false ∧
        t.tables.mapGeneration = s.tables.mapGeneration + 1 ∧ Replied .nothing (replyTo s.config r .ok []) t ∧
        t.config = s.config ∧ t.timebase = s.timebase ∧ t.mode = s.mode ∧ t.proceeding = s.proceeding ∧
        t.output = s.output
      (Serving s .writeStation r rest → 0 < count → first + count ≤ 16 →
        stationWrite s.tables.active first count r.payload = .ok u → done .writeStation ∧
        ∃ t, exec .writeStation s = .next t ∧
          (∀ i : Fin 16, (i.val < first ∨ first + count ≤ i.val) → t.stations[i] = s.stations[i]) ∧
          (∀ i : Fin 16, first ≤ i.val → i.val < first + count →
            EntryApplied s.tables.active.stations[i] u.stations[i] s.stations[i] t.stations[i] ∧
            (t.stations[i].state ≠ s.stations[i].state → flagSet t .stationState = true) ∧
            (∀ x, s.engine.state = .test x → x.station = i → s.stations[i].state = .test →
              t.stations[i].state ≠ .test → t.engine.state = .idle ∧ t.engine.result = some .aborted ∧
                flagSet t .testDone = true)) ∧
          ((∀ i : Fin 16, s.stations[i].state ≠ .test) → t.engine = s.engine)) ∧
      (Serving s .writeTrackMap r rest → 0 < count → first + count ≤ 48 →
        trackWrite s.tables.active first count r.payload = .ok u → done .writeTrackMap) ∧
      (Serving s .writeDisposition r rest → 0 < count → first + count ≤ 6 →
        dispositionWrite s.tables.active first count r.payload = .ok u → done .writeDisposition))

/-- A write of the Tally Override acts at once in every proceeding state; a code outside the lamp states and NONE is refused. A track's
lamp is OFF outside OPEN and DRAINING and where the track is unmapped; else as its override names; else OFF where the current mode
makes it WITHHELD, FLASH where its group requests engagement and its role has confer-permit, RED where it is OPEN, AMBER where SEALED. -/
def Obligations.OverrideWriteActsAtOnce : Prop :=
  (∀ (s : State) (k : Fin 48),
    let e := s.tables.active.tracks[k]
    let d := dispositionIn s.tables.active s.mode.current e.role
    let recorded := s.proceeding.state = .opened ∨ s.proceeding.state = .draining
    (¬ recorded ∨ e.mapped = false → lampOf s k = .off) ∧
    (recorded → e.mapped = true →
      (∀ x, s.tally.override[k] = some x → lampOf s k = x) ∧
      (s.tally.override[k] = none →
        (d = .withheldD → lampOf s k = .off) ∧
        (∀ g : Fin 8, d ≠ .withheldD → e.group.val = g.val + 1 → s.groups[g].requested = true →
          s.tables.active.permit[e.role.column] = true → lampOf s k = .flash) ∧
        ((∀ g : Fin 8, e.group.val = g.val + 1 → s.groups[g].requested = false ∨
            s.tables.active.permit[e.role.column] = false) →
          (d = .openD → lampOf s k = .red) ∧ (d = .sealedD → lampOf s k = .amber))))) ∧
  ∀ (s : State) (r : Request) (rest : List Request), s.Settled → Serving s .writeTallyOverride r rest →
    let first := fieldAt r.payload 5 1
    let count := fieldAt r.payload 6 1
    0 < count → first + count ≤ 48 →
    ((∀ e, e < count → (overrideOf (fieldAt r.payload (8 + e) 1)).isSome = true) →
      ∃ t, exec .writeTallyOverride s = .next t ∧ Replied .nothing (replyTo s.config r .ok []) t ∧
        (∀ k : Fin 48, first ≤ k.val → k.val < first + count →
          some t.tally.override[k] = overrideOf (fieldAt r.payload (8 + (k.val - first)) 1)) ∧
        (∀ k : Fin 48, (k.val < first ∨ first + count ≤ k.val) → t.tally.override[k] = s.tally.override[k]) ∧
        (∀ k : Fin 48, t.tally.lamps[k] = lampOf t k) ∧
        t = { s with tally := t.tally, management := { s.management with requests := rest }, ports := t.ports }) ∧
    ((∃ e, e < count ∧ overrideOf (fieldAt r.payload (8 + e) 1) = none) → exec .writeTallyOverride s =
      .next (withReply .nothing (replyTo s.config r .range []) (dequeued s rest)))

/-- A write of the Stream Table: a first index and count beyond its 2 entries are refused with RANGE, one outside IDLE with STATE, and
in IDLE one with an entry out of range with RANGE: a yes/no byte above 1, a group destination, or enabled with destination 0. Otherwise
every entry written is stored, with its limits as adjusted. -/
def Obligations.StreamTableWritesInIdle : Prop :=
  ∀ (s : State) (r : Request) (rest : List Request), s.Settled → Serving s .writeStream r rest →
    let first := fieldAt r.payload 5 1
    let count := fieldAt r.payload 6 1
    let entry := fun e => (r.payload.drop (8 + 12 * e)).take 12
    let refused := fun res => exec .writeStream s =
      .next (withReply .nothing (replyTo s.config r res []) (dequeued s rest))
    ((count = 0 ∨ 2 < first + count) → refused .range) ∧
    (0 < count → first + count ≤ 2 →
      (s.proceeding.state ≠ .idle → refused .state) ∧
      (s.proceeding.state = .idle → (∃ e, e < count ∧ (1 < (byteAt (entry e) 0).toNat ∨ 1 < (byteAt (entry e) 1).toNat ∨
          (macAt (entry e) 2).getLsbD 40 = true ∨ byteAt (entry e) 0 = 1 ∧ macAt (entry e) 2 = 0)) → refused .range) ∧
      (s.proceeding.state = .idle → count = 1 → ∀ (st : Stream) (e : StreamEntry), streamCode st = first →
        readStream (entry 0) = some e →
        exec .writeStream s = .next (withReply .nothing (replyTo s.config r .ok [])
          (modStream st (fun x => { x with entry := e }) (dequeued s rest))) ∧
        1 ≤ e.stallLimit ∧ e.stallLimit ≤ 60 ∧ 1 ≤ e.confirmLimit ∧ e.confirmLimit ≤ 10) ∧
      (s.proceeding.state = .idle → count = 2 → ∀ o e : StreamEntry, readStream (entry 0) = some o →
        readStream (entry 1) = some e →
        exec .writeStream s = .next (withReply .nothing (replyTo s.config r .ok [])
          (modStream .sealedS (fun x => { x with entry := e })
            (modStream .openS (fun x => { x with entry := o }) (dequeued s rest))))))

/-- A write of the Device Configuration is refused with RANGE for any but its one entry, an EtherType below 0600h, a port role code
above 1, a group Room Master Address, or a notice mask with a bit above 19. An accepted one takes effect in every state: the own
address and the Controller Address stay, and the close delay, clamped to 1 to 8, is loaded into D. A change to TERMINAL empties the
forwarding queues and adds the frames discarded to the drop counts; that a frame in transmission is not discarded is log entry 52. -/
def Obligations.ConfigWriteLoadsDelay : Prop :=
  ∀ (s : State) (r : Request) (rest : List Request), s.Settled → Serving s .writeDeviceConfig r rest →
    let entry := (r.payload.drop 8).take 28
    let whole := fieldAt r.payload 5 1 = 0 ∧ fieldAt r.payload 6 1 = 1
    let inFlight := fun p : PortStatus =>
      match p.transmitting with
      | some x => if x.origin = .forwarded then 1 else 0
      | none => 0
    ((¬ whole ∨ fieldAt entry 12 2 < 0x600 ∨ 1 < fieldAt entry 14 1 ∨ (macAt entry 16).getLsbD 40 = true ∨
        2 ^ 20 ≤ fieldAt entry 24 4) → exec .writeDeviceConfig s =
      .next (withReply .nothing (replyTo s.config r .range []) (dequeued s rest))) ∧
    (∀ c : DeviceConfig, whole → readDeviceConfig s.config entry = some c →
      c.ownAddress = s.config.ownAddress ∧ c.controller = s.config.controller ∧
      c.closeDelay = min (max (fieldAt r.payload 23 1) 1) 8 ∧
      (¬ (s.config.role = .inlineRole ∧ c.role = .terminalRole) → exec .writeDeviceConfig s =
        .next (withReply .nothing (replyTo c r .ok [])
          { dequeued s rest with config := c, assembler := { s.assembler with closeDelay := c.closeDelay } })) ∧
      (s.config.role = .inlineRole → c.role = .terminalRole → ∃ t, exec .writeDeviceConfig s = .next t ∧
        t.config = c ∧ t.assembler = { s.assembler with closeDelay := c.closeDelay } ∧
        t.ports.forwardAB = [] ∧ t.ports.forwardBA = [] ∧ Replied .nothing (replyTo c r .ok []) t ∧
        t.ports.dropAB = satAdd 65535 s.ports.dropAB (s.ports.forwardAB.length - inFlight s.ports.b) ∧
        t.ports.dropBA = satAdd 65535 s.ports.dropBA (s.ports.forwardBA.length - inFlight s.ports.a)))

/-- SET_MODE replaces the mode and empties the Mode Stack; PUSH_MODE saves the current mode and discards the oldest of 4; POP_MODE
restores the newest, or is refused with STATE on an empty stack. That a push which overflows and leaves mode and stack as they were
raises MODE_STACK_OVERFLOW and no MODE_CHANGED is log entry 46. -/
def Obligations.ModeRequests : Prop :=
  ∀ (s : State) (r : Request) (rest : List Request), s.Settled →
    let done := fun (c : Instr) (m : CourtMode) (stack : List CourtMode) => ∃ t, exec c s = .next t ∧
      t.mode = { s.mode with current := m, stack := stack } ∧ Replied .nothing (replyTo s.config r .ok []) t ∧
      ((m ≠ s.mode.current ∨ stack ≠ s.mode.stack) → flagSet t .modeChanged = true) ∧
      (4 ≤ s.mode.stack.length → c = .pushMode → flagSet t .modeStackOverflow = true) ∧
      t = { s with mode := t.mode, management := t.management, ports := t.ports, tally := t.tally, engine := t.engine,
                   stations := t.stations }
    let refused := fun (c : Instr) res => exec c s =
      .next (withReply .nothing (replyTo s.config r res []) (dequeued s rest))
    (Serving s .setMode r rest →
      (∀ m, courtModeOf (fieldAt r.payload 4 1) = some m → done .setMode m []) ∧
      (5 ≤ fieldAt r.payload 4 1 → refused .setMode .range)) ∧
    (Serving s .pushMode r rest →
      (∀ m, courtModeOf (fieldAt r.payload 4 1) = some m →
        (s.mode.stack.length < 4 → done .pushMode m (s.mode.stack ++ [s.mode.current])) ∧
        (s.mode.stack.length = 4 → done .pushMode m (s.mode.stack.drop 1 ++ [s.mode.current]))) ∧
      (5 ≤ fieldAt r.payload 4 1 → refused .pushMode .range)) ∧
    (Serving s .popMode r rest →
      (∀ m stack, s.mode.stack = stack ++ [m] → done .popMode m stack) ∧
      (s.mode.stack = [] → refused .popMode .state))

/-- OPEN_PROCEEDING: refused with STATE outside IDLE, in SEARCH, or with no stream enabled; otherwise ARMED, with the credits, checks,
sequences and record time at their start values, and the counts of the streams, the stations, the timebase and the Block Assembler at
0. -/
def Obligations.OpenProceedingArms : Prop :=
  ∀ (s : State) (r : Request) (rest : List Request), s.Settled → Serving s .openProceeding r rest →
    ((s.proceeding.state ≠ .idle ∨ s.timebase.state = .search ∨
        (s.output.openS.entry.enabled = false ∧ s.output.sealedS.entry.enabled = false)) →
      exec .openProceeding s = .next (withReply .nothing (replyTo s.config r .state []) (dequeued s rest))) ∧
    (s.proceeding.state = .idle → s.timebase.state ≠ .search →
      (s.output.openS.entry.enabled = true ∨ s.output.sealedS.entry.enabled = true) →
      (∀ st, (s.stream st).fifo = []) →
      ∃ t, exec .openProceeding s = .next t ∧ Replied .nothing (replyTo s.config r .ok []) t ∧
        t.proceeding = { state := .armed, id := BitVec.ofNat 64 (fieldAt r.payload 4 8), first := none, last := none } ∧
        flagSet t .proceedingState = true ∧
        (∀ st, (s.stream st).entry.enabled = true → (t.stream st).takesPart = true ∧
          (t.stream st).credit = (s.stream st).entry.initialCredit ∧ (t.stream st).sequence = 0 ∧
          (t.stream st).check = 0xFFFFFFFF ∧ (t.stream st).stallRun = none ∧ (t.stream st).stallTimer = none ∧
          (t.stream st).stallCount = 0 ∧ (t.stream st).ignoredCredit = 0 ∧ (t.stream st).stalledMark = false ∧
          (t.stream st).stalledCount = 0 ∧
          (t.stream st).closeState = .none ∧ (t.stream st).closeOutcome = none ∧ (t.stream st).drainFailed = false) ∧
        (∀ i : Fin 16, t.stations[i].jitterCount = 0 ∧ t.stations[i].lateCount = 0 ∧ t.stations[i].formatCount = 0 ∧
          t.stations[i].evictCount = 0 ∧ t.stations[i].tracker.reanchor = 0) ∧
        ((∀ x, s.engine.state ≠ .test x) → t.engine = s.engine ∧ ∀ i : Fin 16, t.stations[i] = { s.stations[i] with
          jitterCount := 0, lateCount := 0, formatCount := 0, evictCount := 0,
          tracker := { s.stations[i].tracker with reanchor := 0 } }) ∧
        (∀ st, (s.stream st).entry.enabled = false → (t.stream st).takesPart = false) ∧
        t.output.turn = .openS ∧ t.assembler = { s.assembler with run := none, folds := 0 } ∧
        t.timebase = { s.timebase with
          early := 0, relock := 0, jump := 0,
          recordTime := if s.timebase.presetHeld then s.timebase.recordTime else RecordTime.zero,
          presetHeld := false, recordTimeFull := false } ∧
        t.tables = s.tables ∧ t.mode = s.mode ∧ t.groups = s.groups ∧ t.config = s.config)

/-- CLOSE_PROCEEDING: in ARMED the return to IDLE with no CLOSE record, in OPEN the block in progress becomes the last block, and in
any other state STATE. -/
def Obligations.CloseProceedingByState : Prop :=
  ∀ (s : State) (r : Request) (rest : List Request), s.Settled → Serving s .closeProceeding r rest →
    (s.proceeding.state = .armed → ∃ t, exec .closeProceeding s = .next t ∧
      Replied .nothing (replyTo s.config r .ok []) t ∧ t.proceeding = { s.proceeding with state := .idle } ∧
      flagSet t .proceedingState = true ∧
      (∀ st, (t.stream st).takesPart = false ∧ (t.stream st).stallTimer = none ∧
        (t.stream st).fifo = (s.stream st).fifo ∧ (t.stream st).closeOutcome = (s.stream st).closeOutcome) ∧
      (∀ g : Fin 8, t.groups[g].toggles = [] ∧ t.groups[g].forced = false ∧
        t.groups[g].engaged = t.groups[g].requested) ∧
      (s.tables.staged = true → t.tables.active = s.tables.shadow ∧ flagSet t .tableApplied = true ∧
        t.tables.mapGeneration = s.tables.mapGeneration + 1) ∧
      (s.tables.staged = false → t.tables = s.tables) ∧ t.mode = s.mode ∧ t.timebase = s.timebase) ∧
    (s.proceeding.state = .opened → ∃ t, exec .closeProceeding s = .next t ∧
      Replied .nothing (replyTo s.config r .ok []) t ∧
      t.proceeding = { s.proceeding with state := .draining, last := some s.timebase.blockNumber } ∧
      flagSet t .proceedingState = true ∧
      t = { s with proceeding := t.proceeding, tally := t.tally, management := t.management, ports := t.ports }) ∧
    ((s.proceeding.state = .idle ∨ s.proceeding.state = .draining ∨ s.proceeding.state = .confirming) →
      exec .closeProceeding s = .next (withReply .nothing (replyTo s.config r .state []) (dequeued s rest)))

/-- QUERY_STATUS returns the flag set and the device status as they stand, and clears every flag and the level meter. -/
def Obligations.QueryStatusClearsFlags : Prop :=
  ∀ (s : State) (r : Request) (rest : List Request), s.Settled → Serving s .queryStatus r rest →
    exec .queryStatus s = .next (withReply .nothing
      (replyTo s.config r .ok (beBytes 4 s.management.flags.toNat ++ numberItems 1 (statusItems (dequeued s rest))))
      { s with management := { s.management with requests := rest, flags := 0 },
               engine := { s.engine with meter := 0 } })

/-- READ_FAULTS returns the six classes and clears nothing; CLEAR_FAULTS empties the classes named and keeps the others, and a set with
bit 6 or 7 is refused with RANGE. -/
def Obligations.FaultLogRequests : Prop :=
  ∀ (s : State) (r : Request) (rest : List Request), s.Settled →
    (Serving s .readFaults r rest → exec .readFaults s = .next (withReply .nothing
      (replyTo s.config r .ok ((List.finRange 6).flatMap (fun i => (s.management.faults[i]).bytes)))
      (dequeued s rest))) ∧
    (Serving s .clearFaults r rest → (byteAt r.payload 4).toNat < 64 → ∃ t, exec .clearFaults s = .next t ∧
      Replied .nothing (replyTo s.config r .ok []) t ∧
      (∀ i : Fin 6, (byteAt r.payload 4).getLsbD i.val = true →
        t.management.faults[i] = { first := none, repeated := false }) ∧
      (∀ i : Fin 6, (byteAt r.payload 4).getLsbD i.val = false →
        t.management.faults[i] = s.management.faults[i]) ∧
      t = { s with management := { s.management with requests := rest, faults := t.management.faults },
                   ports := t.ports }) ∧
    (Serving s .clearFaults r rest → 64 ≤ (byteAt r.payload 4).toNat → exec .clearFaults s =
      .next (withReply .nothing (replyTo s.config r .range []) (dequeued s rest)))

/-- CLEAR_COUNTERS clears one station's counts, or with ALL those of every station, the timebase, the fold count, the ports and the
Management Unit; any other code is refused with RANGE. -/
def Obligations.ClearCountersByName : Prop :=
  ∀ (s : State) (r : Request) (rest : List Request), s.Settled → Serving s .clearCounters r rest →
    (∀ i : Fin 16, fieldAt r.payload 4 1 = i.val → exec .clearCounters s =
      .next (withReply .nothing (replyTo s.config r .ok []) (modStation i (fun x =>
        { x with jitterCount := 0, lateCount := 0, formatCount := 0, evictCount := 0,
                 tracker := { x.tracker with reanchor := 0 } }) (dequeued s rest)))) ∧
    (fieldAt r.payload 4 1 = 255 → ∃ u : State,
      exec .clearCounters s = .next (withReply .nothing (replyTo s.config r .ok []) u) ∧
      (∀ i : Fin 16, u.stations[i] = { s.stations[i] with
        jitterCount := 0, lateCount := 0, formatCount := 0, evictCount := 0,
        tracker := { s.stations[i].tracker with reanchor := 0 } }) ∧
      u = { s with
        stations := u.stations
        timebase := { s.timebase with early := 0, relock := 0, jump := 0 }
        assembler := { s.assembler with folds := 0 }
        management := { s.management with requests := rest, rejected := 0, busy := 0, unknown := 0 }
        ports := { s.ports with
          dropAB := 0, dropBA := 0, tallyDrop := 0, replyDrop := 0
          a := { s.ports.a with receiveErrors := 0, loops := 0, misdirected := 0, malformed := 0 }
          b := { s.ports.b with receiveErrors := 0, loops := 0, misdirected := 0, malformed := 0 } } }) ∧
    (16 ≤ fieldAt r.payload 4 1 → fieldAt r.payload 4 1 ≠ 255 → exec .clearCounters s =
      .next (withReply .nothing (replyTo s.config r .range []) (dequeued s rest)))

/-- ATTACH_TAP puts the engine in TAP with the meter at 0; it first ends a line test, whose figures it clears. DETACH is refused with
STATE in IDLE and otherwise returns the engine to IDLE. In TAP a block close builds one MONITOR_AUDIO frame of the tapped track, which
replaces and counts one that waits: AUDIO samples and, where included, SEALED ones with their value, every other as 0; the meter takes
the largest absolute value if larger, and a sample at a limit of the range raises TAP_CLIP. Outside TAP no frame is built. -/
def Obligations.TapAttachAndDetach : Prop :=
  (∀ (s : State) (k : BlockNo) (l : List TrackBuild),
    let t := runTap k l s
    ((∀ x, s.engine.state ≠ .tap x) → t = s) ∧
    (∀ x, s.engine.state = .tap x →
      let entry := l.find? (fun b => b.track == x.track)
      let samples : List Sample := match entry with
        | some b => b.cells.map (fun c : Machine.Cell =>
            if c.kind = .audio ∨ c.kind = .sealedK ∧ x.includeSealed = true then c.value.getD 0 else 0)
        | none => []
      let cause := match entry with
        | some b => b.cause.code
        | none => 0
      let payload := wordBytes k ++ byte x.track.val ++ yesNo entry.isSome ++ byte cause ++ yesNo x.includeSealed ++
        half samples.length ++ [0, 0] ++ samples.flatMap (fun v => beBytes 3 v.toNat)
      let frame : Frame := { dst := x.destination, src := s.config.ownAddress, etherType := s.config.etherType,
                             body := lrtBody 0x1A payload }
      t.engine = { s.engine with
        waiting := some frame, meter := t.engine.meter,
        monitorDrop := if s.engine.waiting.isSome then satInc16 s.engine.monitorDrop else s.engine.monitorDrop } ∧
      s.engine.meter ≤ t.engine.meter ∧ (∀ v ∈ samples, v.toInt.natAbs ≤ t.engine.meter) ∧
      (t.engine.meter = s.engine.meter ∨ ∃ v ∈ samples, v.toInt.natAbs = t.engine.meter) ∧
      (flagSet t .tapClip = true ↔ flagSet s .tapClip = true ∨ ∃ v ∈ samples, v = 0x7FFFFF ∨ v = 0x800000) ∧
      t = { s with engine := t.engine, management := t.management, ports := t.ports })) ∧
  ∀ (s : State) (r : Request) (rest : List Request), s.Settled →
    (Serving s .attachTap r rest →
      (∀ x, readTap r.payload = some x → ∃ t, exec .attachTap s = .next t ∧
        Replied .nothing (replyTo s.config r .ok []) t ∧ t.engine.state = .tap x ∧ t.engine.meter = 0 ∧
        t.tables = s.tables ∧ t.mode = s.mode ∧ t.proceeding = s.proceeding ∧ t.timebase = s.timebase ∧
        (∀ y, s.engine.state = .test y → flagSet t .testDone = true ∧ t.engine.result = none ∧
          t.engine.bitsChecked = 0 ∧ t.engine.bitErrors = 0 ∧ t.engine.missingFrames = 0)) ∧
      (readTap r.payload = none → exec .attachTap s =
        .next (withReply .nothing (replyTo s.config r .range []) (dequeued s rest)))) ∧
    (Serving s .detach r rest →
      (s.engine.state = .idle → exec .detach s =
        .next (withReply .nothing (replyTo s.config r .state []) (dequeued s rest))) ∧
      (∀ y, s.engine.state = .tap y → exec .detach s = .next (withReply .nothing (replyTo s.config r .ok [])
        { dequeued s rest with engine := { s.engine with state := .idle, waiting := none } })) ∧
      (∀ y, s.engine.state = .test y → ∃ t, exec .detach s = .next t ∧
        Replied .nothing (replyTo s.config r .ok []) t ∧ flagSet t .testDone = true ∧
        t.engine = { s.engine with state := .idle, result := some .aborted }))

/-- LINE_TEST: RANGE for its operands, STATE for a test in progress, a DISABLED station or a track that is not WITHHELD; otherwise the
test starts, the station enters TEST with STATION_STATE raised, and TEST_COMMAND BEGIN with the duration goes to its address on port
A: at once when the port is idle, and else into the control queue, full or not. That a test of an enabled entry with station address 0,
which R19 says stays ABSENT, is not refused for it is log entry 51. -/
def Obligations.LineTestStartsOrRefuses : Prop :=
  ∀ (s : State) (r : Request) (rest : List Request), s.Settled → Serving s .lineTest r rest →
    let d := fieldAt r.payload 6 2
    let refused := fun res => exec .lineTest s =
      .next (withReply .nothing (replyTo s.config r res []) (dequeued s rest))
    ((16 ≤ fieldAt r.payload 4 1 ∨ d = 0 ∨ 12000 < d) → refused .range) ∧
    (∀ i : Fin 16, fieldAt r.payload 4 1 = i.val → 0 < d → d ≤ 12000 →
      (((∃ y, s.engine.state = .test y) ∨ s.stations[i].state = .disabled ∨
          (s.proceeding.state = .armed ∨ s.proceeding.state = .opened ∨ s.proceeding.state = .draining) ∧
            (∃ k : Fin 48, s.tables.active.tracks[k].mapped = true ∧ s.tables.active.tracks[k].station = i ∧
              dispositionIn s.tables.active s.mode.current s.tables.active.tracks[k].role ≠ .withheldD)) →
        refused .state) ∧
      ((∀ y, s.engine.state ≠ .test y) → s.stations[i].state ≠ .disabled →
        (s.proceeding.state = .idle ∨ s.proceeding.state = .confirming ∨
          ∀ k : Fin 48, s.tables.active.tracks[k].mapped = true → s.tables.active.tracks[k].station = i →
            dispositionIn s.tables.active s.mode.current s.tables.active.tracks[k].role = .withheldD) →
        ∃ t, exec .lineTest s = .next t ∧ Replied .nothing (replyTo s.config r .ok []) t ∧
          (∃ x, t.engine.state = .test x ∧ x.station = i ∧ x.address = (s.entry i).address ∧ x.duration = d ∧
            x.elapsed = 0 ∧ x.checker.synchronised = false) ∧
          t.engine.meter = 0 ∧ t.engine.bitsChecked = 0 ∧ t.engine.bitErrors = 0 ∧ t.engine.missingFrames = 0 ∧
          t.engine.result = none ∧ t.engine.waiting = none ∧
          t.stations[i] = { s.stations[i] with
            state := .test, window := [], releasePoint := none, evictedBelow := none, silence := 0,
            tracker := { s.stations[i].tracker with boundaries := [], coastCount := 0 } } ∧
          (∀ k : Fin 16, k ≠ i → t.stations[k] = s.stations[k]) ∧
          (s.stations[i].state ≠ .test → flagSet t .stationState = true) ∧
          (∀ command : Frame, command = { dst := (s.entry i).address, src := s.config.ownAddress,
                                          etherType := s.config.etherType, body := lrtBody 0x04 ([1, 0] ++ half d) } →
            (portReady s .A = true → t.ports.a.transmitting = some { origin := .control, frame := command }) ∧
            (portReady s .A = false → ({ tally := false, frame := command } : ControlFrame) ∈ t.ports.control) ∧
            (portReady s .A = false → s.ports.control.length < 64 →
              t.ports.control = s.ports.control ++ [{ tally := false, frame := command }])) ∧
          t = { s with engine := t.engine, stations := t.stations, management := t.management, ports := t.ports }))

/-- SET_RECORD_TIME: STATE outside IDLE, RANGE for a value that is no record time, and otherwise the value with the preset held. -/
def Obligations.RecordTimeIsPreset : Prop :=
  ∀ (s : State) (r : Request) (rest : List Request), s.Settled → Serving s .setRecordTime r rest →
    (s.proceeding.state ≠ .idle → exec .setRecordTime s =
      .next (withReply .nothing (replyTo s.config r .state []) (dequeued s rest))) ∧
    (s.proceeding.state = .idle → recordTimeOf ((r.payload.drop 4).take 5) = none → exec .setRecordTime s =
      .next (withReply .nothing (replyTo s.config r .range []) (dequeued s rest))) ∧
    (∀ x : RecordTime, s.proceeding.state = .idle → x.legal → (r.payload.drop 4).take 5 = x.bytes →
      exec .setRecordTime s = .next (withReply .nothing (replyTo s.config r .ok []) { dequeued s rest with
        timebase := { s.timebase with recordTime := x, presetHeld := true, recordTimeFull := false } }))

/-- STANDBY: STATE unless the proceeding and the engine are IDLE, entered = no with a flag set, and otherwise entered = yes with the
entry waiting for its reply. SOFT_RESET: the reset waits for its reply, or RANGE for another scope. -/
def Obligations.StandbyAndSoftResetWait : Prop :=
  ∀ (s : State) (r : Request) (rest : List Request), s.Settled →
    let waiting := fun (a : AfterReply) (data : List Byte) => Host.Outcome.next (withReply a (replyTo s.config r .ok data)
      { s with management := { s.management with requests := rest, armed := a } })
    (Serving s .standby r rest →
      ((s.proceeding.state ≠ .idle ∨ s.engine.state ≠ .idle) → exec .standby s =
        .next (withReply .nothing (replyTo s.config r .state []) (dequeued s rest))) ∧
      (s.proceeding.state = .idle → s.engine.state = .idle → s.management.flags ≠ 0 → exec .standby s =
        .next (withReply .nothing (replyTo s.config r .ok [0, 0, 0, 0]) (dequeued s rest))) ∧
      (s.proceeding.state = .idle → s.engine.state = .idle → s.management.flags = 0 →
        exec .standby s = waiting .enterStandby [1, 0, 0, 0])) ∧
    (Serving s .softReset r rest →
      (fieldAt r.payload 4 1 = 1 → exec .softReset s = waiting .resetFull []) ∧
      (fieldAt r.payload 4 1 = 2 → exec .softReset s = waiting .resetRuntime []) ∧
      (fieldAt r.payload 4 1 ≠ 1 → fieldAt r.payload 4 1 ≠ 2 → exec .softReset s =
        .next (withReply .nothing (replyTo s.config r .range []) (dequeued s rest))))

/-- SET_CONTROLLER writes the Controller Address and answers the request's source; an address with the group bit is refused. -/
def Obligations.ControllerAddressIsSet : Prop :=
  ∀ (s : State) (r : Request) (rest : List Request), s.Settled → Serving s .setController r rest →
    ((macAt r.payload 4).getLsbD 40 = true → exec .setController s =
      .next (withReply .nothing (replyTo s.config r .range []) (dequeued s rest))) ∧
    ((macAt r.payload 4).getLsbD 40 = false → exec .setController s =
      .next (withReply .nothing (replyTo s.config r .ok [])
        { dequeued s rest with config := { s.config with controller := macAt r.payload 4 } }))
end

