-- ==== Sys2Proof/Laws/State.lean ====
section
/-! SUPPORT. One lemma per field of the state and per named update that leaves the field alone, and one per update that writes it, so
that no proof unfolds a record update. -/

namespace Sys2Proof.Machine

variable (s : State)

/-! ## modPort -/

@[simp] theorem modPort_config (p : Port) (f : PortStatus → PortStatus) : (modPort p f s).config = s.config := by cases p <;> rfl
@[simp] theorem modPort_part (p : Port) (f : PortStatus → PortStatus) : (modPort p f s).part = s.part := by cases p <;> rfl
@[simp] theorem modPort_timebase (p : Port) (f : PortStatus → PortStatus) : (modPort p f s).timebase = s.timebase := by cases p <;> rfl
@[simp] theorem modPort_stations (p : Port) (f : PortStatus → PortStatus) : (modPort p f s).stations = s.stations := by cases p <;> rfl
@[simp] theorem modPort_tables (p : Port) (f : PortStatus → PortStatus) : (modPort p f s).tables = s.tables := by cases p <;> rfl
@[simp] theorem modPort_mode (p : Port) (f : PortStatus → PortStatus) : (modPort p f s).mode = s.mode := by cases p <;> rfl
@[simp] theorem modPort_groups (p : Port) (f : PortStatus → PortStatus) : (modPort p f s).groups = s.groups := by cases p <;> rfl
@[simp] theorem modPort_tally (p : Port) (f : PortStatus → PortStatus) : (modPort p f s).tally = s.tally := by cases p <;> rfl
@[simp] theorem modPort_assembler (p : Port) (f : PortStatus → PortStatus) : (modPort p f s).assembler = s.assembler := by cases p <;> rfl
@[simp] theorem modPort_output (p : Port) (f : PortStatus → PortStatus) : (modPort p f s).output = s.output := by cases p <;> rfl
@[simp] theorem modPort_proceeding (p : Port) (f : PortStatus → PortStatus) : (modPort p f s).proceeding = s.proceeding := by cases p <;> rfl
@[simp] theorem modPort_engine (p : Port) (f : PortStatus → PortStatus) : (modPort p f s).engine = s.engine := by cases p <;> rfl
@[simp] theorem modPort_management (p : Port) (f : PortStatus → PortStatus) : (modPort p f s).management = s.management := by cases p <;> rfl
@[simp] theorem modPort_pending (p : Port) (f : PortStatus → PortStatus) : (modPort p f s).pending = s.pending := by cases p <;> rfl

/-! ## modStation -/

@[simp] theorem modStation_config (i : Fin 16) (f : Station → Station) : (modStation i f s).config = s.config := rfl
@[simp] theorem modStation_part (i : Fin 16) (f : Station → Station) : (modStation i f s).part = s.part := rfl
@[simp] theorem modStation_ports (i : Fin 16) (f : Station → Station) : (modStation i f s).ports = s.ports := rfl
@[simp] theorem modStation_timebase (i : Fin 16) (f : Station → Station) : (modStation i f s).timebase = s.timebase := rfl
@[simp] theorem modStation_tables (i : Fin 16) (f : Station → Station) : (modStation i f s).tables = s.tables := rfl
@[simp] theorem modStation_mode (i : Fin 16) (f : Station → Station) : (modStation i f s).mode = s.mode := rfl
@[simp] theorem modStation_groups (i : Fin 16) (f : Station → Station) : (modStation i f s).groups = s.groups := rfl
@[simp] theorem modStation_tally (i : Fin 16) (f : Station → Station) : (modStation i f s).tally = s.tally := rfl
@[simp] theorem modStation_assembler (i : Fin 16) (f : Station → Station) : (modStation i f s).assembler = s.assembler := rfl
@[simp] theorem modStation_output (i : Fin 16) (f : Station → Station) : (modStation i f s).output = s.output := rfl
@[simp] theorem modStation_proceeding (i : Fin 16) (f : Station → Station) : (modStation i f s).proceeding = s.proceeding := rfl
@[simp] theorem modStation_engine (i : Fin 16) (f : Station → Station) : (modStation i f s).engine = s.engine := rfl
@[simp] theorem modStation_management (i : Fin 16) (f : Station → Station) : (modStation i f s).management = s.management := rfl
@[simp] theorem modStation_pending (i : Fin 16) (f : Station → Station) : (modStation i f s).pending = s.pending := rfl

/-! ## modTracker -/

@[simp] theorem modTracker_config (i : Fin 16) (f : Tracker → Tracker) : (modTracker i f s).config = s.config := rfl
@[simp] theorem modTracker_part (i : Fin 16) (f : Tracker → Tracker) : (modTracker i f s).part = s.part := rfl
@[simp] theorem modTracker_ports (i : Fin 16) (f : Tracker → Tracker) : (modTracker i f s).ports = s.ports := rfl
@[simp] theorem modTracker_timebase (i : Fin 16) (f : Tracker → Tracker) : (modTracker i f s).timebase = s.timebase := rfl
@[simp] theorem modTracker_tables (i : Fin 16) (f : Tracker → Tracker) : (modTracker i f s).tables = s.tables := rfl
@[simp] theorem modTracker_mode (i : Fin 16) (f : Tracker → Tracker) : (modTracker i f s).mode = s.mode := rfl
@[simp] theorem modTracker_groups (i : Fin 16) (f : Tracker → Tracker) : (modTracker i f s).groups = s.groups := rfl
@[simp] theorem modTracker_tally (i : Fin 16) (f : Tracker → Tracker) : (modTracker i f s).tally = s.tally := rfl
@[simp] theorem modTracker_assembler (i : Fin 16) (f : Tracker → Tracker) : (modTracker i f s).assembler = s.assembler := rfl
@[simp] theorem modTracker_output (i : Fin 16) (f : Tracker → Tracker) : (modTracker i f s).output = s.output := rfl
@[simp] theorem modTracker_proceeding (i : Fin 16) (f : Tracker → Tracker) : (modTracker i f s).proceeding = s.proceeding := rfl
@[simp] theorem modTracker_engine (i : Fin 16) (f : Tracker → Tracker) : (modTracker i f s).engine = s.engine := rfl
@[simp] theorem modTracker_management (i : Fin 16) (f : Tracker → Tracker) : (modTracker i f s).management = s.management := rfl
@[simp] theorem modTracker_pending (i : Fin 16) (f : Tracker → Tracker) : (modTracker i f s).pending = s.pending := rfl

/-! ## modGroup -/

@[simp] theorem modGroup_config (g : Fin 8) (f : ConferGroup → ConferGroup) : (modGroup g f s).config = s.config := rfl
@[simp] theorem modGroup_part (g : Fin 8) (f : ConferGroup → ConferGroup) : (modGroup g f s).part = s.part := rfl
@[simp] theorem modGroup_ports (g : Fin 8) (f : ConferGroup → ConferGroup) : (modGroup g f s).ports = s.ports := rfl
@[simp] theorem modGroup_timebase (g : Fin 8) (f : ConferGroup → ConferGroup) : (modGroup g f s).timebase = s.timebase := rfl
@[simp] theorem modGroup_stations (g : Fin 8) (f : ConferGroup → ConferGroup) : (modGroup g f s).stations = s.stations := rfl
@[simp] theorem modGroup_tables (g : Fin 8) (f : ConferGroup → ConferGroup) : (modGroup g f s).tables = s.tables := rfl
@[simp] theorem modGroup_mode (g : Fin 8) (f : ConferGroup → ConferGroup) : (modGroup g f s).mode = s.mode := rfl
@[simp] theorem modGroup_tally (g : Fin 8) (f : ConferGroup → ConferGroup) : (modGroup g f s).tally = s.tally := rfl
@[simp] theorem modGroup_assembler (g : Fin 8) (f : ConferGroup → ConferGroup) : (modGroup g f s).assembler = s.assembler := rfl
@[simp] theorem modGroup_output (g : Fin 8) (f : ConferGroup → ConferGroup) : (modGroup g f s).output = s.output := rfl
@[simp] theorem modGroup_proceeding (g : Fin 8) (f : ConferGroup → ConferGroup) : (modGroup g f s).proceeding = s.proceeding := rfl
@[simp] theorem modGroup_engine (g : Fin 8) (f : ConferGroup → ConferGroup) : (modGroup g f s).engine = s.engine := rfl
@[simp] theorem modGroup_management (g : Fin 8) (f : ConferGroup → ConferGroup) : (modGroup g f s).management = s.management := rfl
@[simp] theorem modGroup_pending (g : Fin 8) (f : ConferGroup → ConferGroup) : (modGroup g f s).pending = s.pending := rfl

/-! ## modStream -/

@[simp] theorem modStream_config (st : Stream) (f : StreamState → StreamState) : (modStream st f s).config = s.config := by cases st <;> rfl
@[simp] theorem modStream_part (st : Stream) (f : StreamState → StreamState) : (modStream st f s).part = s.part := by cases st <;> rfl
@[simp] theorem modStream_ports (st : Stream) (f : StreamState → StreamState) : (modStream st f s).ports = s.ports := by cases st <;> rfl
@[simp] theorem modStream_timebase (st : Stream) (f : StreamState → StreamState) : (modStream st f s).timebase = s.timebase := by cases st <;> rfl
@[simp] theorem modStream_stations (st : Stream) (f : StreamState → StreamState) : (modStream st f s).stations = s.stations := by cases st <;> rfl
@[simp] theorem modStream_tables (st : Stream) (f : StreamState → StreamState) : (modStream st f s).tables = s.tables := by cases st <;> rfl
@[simp] theorem modStream_mode (st : Stream) (f : StreamState → StreamState) : (modStream st f s).mode = s.mode := by cases st <;> rfl
@[simp] theorem modStream_groups (st : Stream) (f : StreamState → StreamState) : (modStream st f s).groups = s.groups := by cases st <;> rfl
@[simp] theorem modStream_tally (st : Stream) (f : StreamState → StreamState) : (modStream st f s).tally = s.tally := by cases st <;> rfl
@[simp] theorem modStream_assembler (st : Stream) (f : StreamState → StreamState) : (modStream st f s).assembler = s.assembler := by cases st <;> rfl
@[simp] theorem modStream_proceeding (st : Stream) (f : StreamState → StreamState) : (modStream st f s).proceeding = s.proceeding := by cases st <;> rfl
@[simp] theorem modStream_engine (st : Stream) (f : StreamState → StreamState) : (modStream st f s).engine = s.engine := by cases st <;> rfl
@[simp] theorem modStream_management (st : Stream) (f : StreamState → StreamState) : (modStream st f s).management = s.management := by cases st <;> rfl
@[simp] theorem modStream_pending (st : Stream) (f : StreamState → StreamState) : (modStream st f s).pending = s.pending := by cases st <;> rfl

/-! ## logFault -/

@[simp] theorem logFault_config (k : Fin 6) (o : Occurrence) : (logFault k o s).config = s.config := rfl
@[simp] theorem logFault_part (k : Fin 6) (o : Occurrence) : (logFault k o s).part = s.part := rfl
@[simp] theorem logFault_ports (k : Fin 6) (o : Occurrence) : (logFault k o s).ports = s.ports := rfl
@[simp] theorem logFault_timebase (k : Fin 6) (o : Occurrence) : (logFault k o s).timebase = s.timebase := rfl
@[simp] theorem logFault_stations (k : Fin 6) (o : Occurrence) : (logFault k o s).stations = s.stations := rfl
@[simp] theorem logFault_tables (k : Fin 6) (o : Occurrence) : (logFault k o s).tables = s.tables := rfl
@[simp] theorem logFault_mode (k : Fin 6) (o : Occurrence) : (logFault k o s).mode = s.mode := rfl
@[simp] theorem logFault_groups (k : Fin 6) (o : Occurrence) : (logFault k o s).groups = s.groups := rfl
@[simp] theorem logFault_tally (k : Fin 6) (o : Occurrence) : (logFault k o s).tally = s.tally := rfl
@[simp] theorem logFault_assembler (k : Fin 6) (o : Occurrence) : (logFault k o s).assembler = s.assembler := rfl
@[simp] theorem logFault_output (k : Fin 6) (o : Occurrence) : (logFault k o s).output = s.output := rfl
@[simp] theorem logFault_proceeding (k : Fin 6) (o : Occurrence) : (logFault k o s).proceeding = s.proceeding := rfl
@[simp] theorem logFault_engine (k : Fin 6) (o : Occurrence) : (logFault k o s).engine = s.engine := rfl
@[simp] theorem logFault_pending (k : Fin 6) (o : Occurrence) : (logFault k o s).pending = s.pending := rfl

/-! ## queueReply -/

@[simp] theorem queueReply_config (a : AfterReply) (f : Frame) : (queueReply a f s).config = s.config := rfl
@[simp] theorem queueReply_part (a : AfterReply) (f : Frame) : (queueReply a f s).part = s.part := rfl
@[simp] theorem queueReply_timebase (a : AfterReply) (f : Frame) : (queueReply a f s).timebase = s.timebase := rfl
@[simp] theorem queueReply_stations (a : AfterReply) (f : Frame) : (queueReply a f s).stations = s.stations := rfl
@[simp] theorem queueReply_tables (a : AfterReply) (f : Frame) : (queueReply a f s).tables = s.tables := rfl
@[simp] theorem queueReply_mode (a : AfterReply) (f : Frame) : (queueReply a f s).mode = s.mode := rfl
@[simp] theorem queueReply_groups (a : AfterReply) (f : Frame) : (queueReply a f s).groups = s.groups := rfl
@[simp] theorem queueReply_tally (a : AfterReply) (f : Frame) : (queueReply a f s).tally = s.tally := rfl
@[simp] theorem queueReply_assembler (a : AfterReply) (f : Frame) : (queueReply a f s).assembler = s.assembler := rfl
@[simp] theorem queueReply_output (a : AfterReply) (f : Frame) : (queueReply a f s).output = s.output := rfl
@[simp] theorem queueReply_proceeding (a : AfterReply) (f : Frame) : (queueReply a f s).proceeding = s.proceeding := rfl
@[simp] theorem queueReply_engine (a : AfterReply) (f : Frame) : (queueReply a f s).engine = s.engine := rfl
@[simp] theorem queueReply_management (a : AfterReply) (f : Frame) : (queueReply a f s).management = s.management := rfl
@[simp] theorem queueReply_pending (a : AfterReply) (f : Frame) : (queueReply a f s).pending = s.pending := rfl

/-! ## setEngine -/

@[simp] theorem setEngine_config (e : EngineState) : (setEngine e s).config = s.config := rfl
@[simp] theorem setEngine_part (e : EngineState) : (setEngine e s).part = s.part := rfl
@[simp] theorem setEngine_ports (e : EngineState) : (setEngine e s).ports = s.ports := rfl
@[simp] theorem setEngine_timebase (e : EngineState) : (setEngine e s).timebase = s.timebase := rfl
@[simp] theorem setEngine_stations (e : EngineState) : (setEngine e s).stations = s.stations := rfl
@[simp] theorem setEngine_tables (e : EngineState) : (setEngine e s).tables = s.tables := rfl
@[simp] theorem setEngine_mode (e : EngineState) : (setEngine e s).mode = s.mode := rfl
@[simp] theorem setEngine_groups (e : EngineState) : (setEngine e s).groups = s.groups := rfl
@[simp] theorem setEngine_tally (e : EngineState) : (setEngine e s).tally = s.tally := rfl
@[simp] theorem setEngine_assembler (e : EngineState) : (setEngine e s).assembler = s.assembler := rfl
@[simp] theorem setEngine_output (e : EngineState) : (setEngine e s).output = s.output := rfl
@[simp] theorem setEngine_proceeding (e : EngineState) : (setEngine e s).proceeding = s.proceeding := rfl
@[simp] theorem setEngine_management (e : EngineState) : (setEngine e s).management = s.management := rfl
@[simp] theorem setEngine_pending (e : EngineState) : (setEngine e s).pending = s.pending := rfl

/-! ## flushStation -/

@[simp] theorem flushStation_config (i : Fin 16) : (flushStation i s).config = s.config := rfl
@[simp] theorem flushStation_part (i : Fin 16) : (flushStation i s).part = s.part := rfl
@[simp] theorem flushStation_ports (i : Fin 16) : (flushStation i s).ports = s.ports := rfl
@[simp] theorem flushStation_timebase (i : Fin 16) : (flushStation i s).timebase = s.timebase := rfl
@[simp] theorem flushStation_stations (i : Fin 16) : (flushStation i s).stations = s.stations := rfl
@[simp] theorem flushStation_tables (i : Fin 16) : (flushStation i s).tables = s.tables := rfl
@[simp] theorem flushStation_mode (i : Fin 16) : (flushStation i s).mode = s.mode := rfl
@[simp] theorem flushStation_tally (i : Fin 16) : (flushStation i s).tally = s.tally := rfl
@[simp] theorem flushStation_assembler (i : Fin 16) : (flushStation i s).assembler = s.assembler := rfl
@[simp] theorem flushStation_output (i : Fin 16) : (flushStation i s).output = s.output := rfl
@[simp] theorem flushStation_proceeding (i : Fin 16) : (flushStation i s).proceeding = s.proceeding := rfl
@[simp] theorem flushStation_engine (i : Fin 16) : (flushStation i s).engine = s.engine := rfl
@[simp] theorem flushStation_management (i : Fin 16) : (flushStation i s).management = s.management := rfl
@[simp] theorem flushStation_pending (i : Fin 16) : (flushStation i s).pending = s.pending := rfl

/-! ## transmit -/

@[simp] theorem transmit_config (p : Port) (o : TxOrigin) (f : Frame) : (transmit p o f s).config = s.config := by cases p <;> rfl
@[simp] theorem transmit_part (p : Port) (o : TxOrigin) (f : Frame) : (transmit p o f s).part = s.part := by cases p <;> rfl
@[simp] theorem transmit_timebase (p : Port) (o : TxOrigin) (f : Frame) : (transmit p o f s).timebase = s.timebase := by cases p <;> rfl
@[simp] theorem transmit_stations (p : Port) (o : TxOrigin) (f : Frame) : (transmit p o f s).stations = s.stations := by cases p <;> rfl
@[simp] theorem transmit_tables (p : Port) (o : TxOrigin) (f : Frame) : (transmit p o f s).tables = s.tables := by cases p <;> rfl
@[simp] theorem transmit_mode (p : Port) (o : TxOrigin) (f : Frame) : (transmit p o f s).mode = s.mode := by cases p <;> rfl
@[simp] theorem transmit_groups (p : Port) (o : TxOrigin) (f : Frame) : (transmit p o f s).groups = s.groups := by cases p <;> rfl
@[simp] theorem transmit_tally (p : Port) (o : TxOrigin) (f : Frame) : (transmit p o f s).tally = s.tally := by cases p <;> rfl
@[simp] theorem transmit_assembler (p : Port) (o : TxOrigin) (f : Frame) : (transmit p o f s).assembler = s.assembler := by cases p <;> rfl
@[simp] theorem transmit_output (p : Port) (o : TxOrigin) (f : Frame) : (transmit p o f s).output = s.output := by cases p <;> rfl
@[simp] theorem transmit_proceeding (p : Port) (o : TxOrigin) (f : Frame) : (transmit p o f s).proceeding = s.proceeding := by cases p <;> rfl
@[simp] theorem transmit_engine (p : Port) (o : TxOrigin) (f : Frame) : (transmit p o f s).engine = s.engine := by cases p <;> rfl
@[simp] theorem transmit_management (p : Port) (o : TxOrigin) (f : Frame) : (transmit p o f s).management = s.management := by cases p <;> rfl
@[simp] theorem transmit_pending (p : Port) (o : TxOrigin) (f : Frame) : (transmit p o f s).pending = s.pending := by cases p <;> rfl

/-! ## Within the ports, the output and the Management Unit -/

@[simp] theorem logFault_flags (k : Fin 6) (o : Occurrence) :
    (logFault k o s).management.flags = s.management.flags := rfl
@[simp] theorem logFault_requests (k : Fin 6) (o : Occurrence) :
    (logFault k o s).management.requests = s.management.requests := rfl
@[simp] theorem logFault_holdoff (k : Fin 6) (o : Occurrence) :
    (logFault k o s).management.holdoff = s.management.holdoff := rfl
@[simp] theorem modStream_turn (st : Stream) (f : StreamState → StreamState) :
    (modStream st f s).output.turn = s.output.turn := by cases st <;> rfl
@[simp] theorem modStream_sending (st : Stream) (f : StreamState → StreamState) :
    (modStream st f s).output.sending = s.output.sending := by cases st <;> rfl
@[simp] theorem queueReply_a (a : AfterReply) (f : Frame) : (queueReply a f s).ports.a = s.ports.a := rfl
@[simp] theorem queueReply_b (a : AfterReply) (f : Frame) : (queueReply a f s).ports.b = s.ports.b := rfl
@[simp] theorem queueReply_control (a : AfterReply) (f : Frame) : (queueReply a f s).ports.control = s.ports.control := rfl
@[simp] theorem queueReply_forwardAB (a : AfterReply) (f : Frame) :
    (queueReply a f s).ports.forwardAB = s.ports.forwardAB := rfl
@[simp] theorem queueReply_forwardBA (a : AfterReply) (f : Frame) :
    (queueReply a f s).ports.forwardBA = s.ports.forwardBA := rfl
@[simp] theorem queueReply_management_queue (a : AfterReply) (f : Frame) :
    (queueReply a f s).ports.management = s.ports.management ++ [{ notice := false, after := a, frame := f }] := rfl
@[simp] theorem modPort_control (p : Port) (f : PortStatus → PortStatus) :
    (modPort p f s).ports.control = s.ports.control := by cases p <;> rfl
@[simp] theorem modPort_management_queue (p : Port) (f : PortStatus → PortStatus) :
    (modPort p f s).ports.management = s.ports.management := by cases p <;> rfl
@[simp] theorem modPort_forwardAB (p : Port) (f : PortStatus → PortStatus) :
    (modPort p f s).ports.forwardAB = s.ports.forwardAB := by cases p <;> rfl
@[simp] theorem modPort_forwardBA (p : Port) (f : PortStatus → PortStatus) :
    (modPort p f s).ports.forwardBA = s.ports.forwardBA := by cases p <;> rfl
@[simp] theorem queueReply_repliesFull (a : AfterReply) (f : Frame) :
    (queueReply a f s).ports.repliesFull = (s.ports.repliesFull || decide (7 ≤ repliesWaiting s + 1)) := rfl
@[simp] theorem modPort_repliesFull (p : Port) (f : PortStatus → PortStatus) :
    (modPort p f s).ports.repliesFull = s.ports.repliesFull := by cases p <;> rfl
@[simp] theorem transmit_repliesFull (p : Port) (o : TxOrigin) (f : Frame) :
    (transmit p o f s).ports.repliesFull = s.ports.repliesFull := by cases p <;> rfl
@[simp] theorem replyTransmitted_repliesFull : (replyTransmitted s).ports.repliesFull = false := rfl
theorem replyTransmitted_frame :
    replyTransmitted s = { s with ports := { s.ports with repliesFull := false } } := rfl
@[simp] theorem countStall_stallHeld (x : StreamState) :
    x.countStall.stallHeld =
      if x.stallTimer.map (· + 1) = some x.stallBound then x.held else x.stallHeld := rfl

/-! ## Reading what an update wrote -/

@[simp] theorem modPort_port_self (p : Port) (f : PortStatus → PortStatus) : (modPort p f s).port p = f (s.port p) := by
  cases p <;> rfl

theorem modPort_port_other (p q : Port) (f : PortStatus → PortStatus) (h : q ≠ p) :
    (modPort p f s).port q = s.port q := by
  cases p <;> cases q <;> first | rfl | exact absurd rfl h

@[simp] theorem modStream_stream_self (st : Stream) (f : StreamState → StreamState) :
    (modStream st f s).stream st = f (s.stream st) := by
  cases st <;> rfl

@[simp] theorem modStream_stream_other (st : Stream) (f : StreamState → StreamState) :
    (modStream st f s).stream (otherStream st) = s.stream (otherStream st) := by
  cases st <;> rfl

@[simp] theorem otherStream_otherStream (st : Stream) : otherStream (otherStream st) = st := by
  cases st <;> rfl

theorem modifyAt_self {α : Type} {n : Nat} (v : Vector α n) (i : Fin n) (f : α → α) : (modifyAt v i f)[i] = f v[i] := by
  simp [modifyAt]

theorem modifyAt_other {α : Type} {n : Nat} (v : Vector α n) (i k : Fin n) (f : α → α) (h : k ≠ i) :
    (modifyAt v i f)[k] = v[k] := by
  have h' : i.val ≠ k.val := fun e => h (Fin.ext e.symm)
  simp [modifyAt, h']

@[simp] theorem modStation_station_self (i : Fin 16) (f : Station → Station) :
    (modStation i f s).stations[i] = f s.stations[i] := modifyAt_self _ _ _

theorem modStation_station_other (i k : Fin 16) (f : Station → Station) (h : k ≠ i) :
    (modStation i f s).stations[k] = s.stations[k] := modifyAt_other _ _ _ _ h

@[simp] theorem modGroup_group_self (g : Fin 8) (f : ConferGroup → ConferGroup) :
    (modGroup g f s).groups[g] = f s.groups[g] := modifyAt_self _ _ _

theorem modGroup_group_other (g k : Fin 8) (f : ConferGroup → ConferGroup) (h : k ≠ g) :
    (modGroup g f s).groups[k] = s.groups[k] := modifyAt_other _ _ _ _ h

theorem logFault_class_self (k : Fin 6) (o : Occurrence) :
    (logFault k o s).management.faults[k] = (s.management.faults[k]).record o := modifyAt_self _ _ _

theorem logFault_class_other (k l : Fin 6) (o : Occurrence) (h : l ≠ k) :
    (logFault k o s).management.faults[l] = s.management.faults[l] := modifyAt_other _ _ _ _ h

@[simp] theorem modStation_entry (i k : Fin 16) (f : Station → Station) : (modStation i f s).entry k = s.entry k := rfl

end Sys2Proof.Machine
end

