-- ==== Sys2Proof/Laws/Flags.lean ====
section
/-! SUPPORT. What raising a flag can do: the flag is set, no flag is cleared, and outside the flags and the notice nothing changes
(R173, R176). -/

namespace Sys2Proof.Machine

/-- Setting one bit leaves every bit that was set. -/
theorem flag_kept (v : BitVec 20) (f g : EventFlag) (h : v.getLsbD g.bit = true) :
    (v ||| f.mask).getLsbD g.bit = true := by
  simp [BitVec.getLsbD_or, h]

/-- Setting a flag's bit sets it. -/
theorem flag_written (v : BitVec 20) (f : EventFlag) : (v ||| f.mask).getLsbD f.bit = true := by
  have h : f.mask.getLsbD f.bit = true := by cases f <;> decide
  simp [BitVec.getLsbD_or, h]

/-- Setting a flag's bit leaves the other flags. -/
theorem flag_other (v : BitVec 20) (f g : EventFlag) (h : g ≠ f) :
    (v ||| f.mask).getLsbD g.bit = v.getLsbD g.bit := by
  have k : f.mask.getLsbD g.bit = false := by
    cases f <;> cases g <;> first | rfl | exact absurd rfl h
  simp [BitVec.getLsbD_or, k]

/-- What placing a NOTICE can change: the management transmit queue alone (R162). -/
theorem queueNotice_spec (f : Frame) (s : State) :
    ∃ q, queueNotice f s = { s with ports := { s.ports with management := q } } ∧
      ({ notice := true, after := .nothing, frame := f } : ManagementFrame) ∈ q := by
  unfold queueNotice
  by_cases h : s.ports.management.any (·.notice) = true
  · refine ⟨_, if_pos h, ?_⟩
    obtain ⟨m, hm, hn⟩ := List.any_eq_true.mp h
    exact List.mem_map.mpr ⟨m, hm, by simp [hn]⟩
  · exact ⟨_, if_neg h, by simp⟩

/-- What building a NOTICE can change: the management transmit queue, and the holdoff timer runs (R176). -/
theorem buildNotice_spec (s : State) :
    ∃ q, buildNotice s = { s with
      ports := { s.ports with management := q }, management := { s.management with holdoff := true } } := by
  obtain ⟨q, h, -⟩ := queueNotice_spec (ownFrame s s.config.controller kindNotice (noticePayload s)) s
  exact ⟨q, by simp [buildNotice, h]⟩

/-- What the rise of a flag can change: the management transmit queue, the holdoff timer and the pending mark (R176, R177). -/
theorem noticeRise_spec (f : EventFlag) (s : State) :
    ∃ q h p, noticeRise f s = { s with
      ports := { s.ports with management := q }, management := { s.management with holdoff := h, noticePending := p } } := by
  unfold noticeRise
  split
  · exact ⟨_, _, _, rfl⟩
  · split
    · exact ⟨_, _, _, rfl⟩
    · obtain ⟨q, h⟩ := buildNotice_spec s
      exact ⟨q, true, s.management.noticePending, h⟩

/-- What raising a flag can change: the flag is set beside those already set, and a notice may be built or held back (R173). -/
theorem raise_spec (f : EventFlag) (s : State) :
    ∃ q h p, raise f s = { s with
      ports := { s.ports with management := q },
      management := { s.management with flags := s.management.flags ||| f.mask, holdoff := h, noticePending := p } } := by
  unfold raise
  by_cases hf : flagSet s f = true
  · have he : s.management.flags ||| f.mask = s.management.flags := by
      apply BitVec.eq_of_getLsbD_eq
      intro i _
      by_cases hm : f.mask.getLsbD i = true
      · have hb : i = f.bit := by
          revert hm
          unfold EventFlag.mask
          have : i < 20 := by assumption
          interval_cases i <;> cases f <;> decide
        subst hb
        simp only [BitVec.getLsbD_or, hm, Bool.or_true]
        exact hf.symm
      · simp [BitVec.getLsbD_or, Bool.eq_false_iff.mpr hm]
    exact ⟨s.ports.management, s.management.holdoff, s.management.noticePending, by rw [if_pos hf, he]⟩
  · obtain ⟨q, h, p, e⟩ := noticeRise_spec f
      { s with management := { s.management with flags := s.management.flags ||| f.mask } }
    exact ⟨q, h, p, by rw [if_neg hf, e]⟩

/-- A flag raised is set. -/
@[simp] theorem raise_sets (f : EventFlag) (s : State) : flagSet (raise f s) f = true := by
  obtain ⟨q, h, p, e⟩ := raise_spec f s
  rw [e]
  exact flag_written _ _

/-- Raising a flag clears none. -/
theorem raise_keeps (f g : EventFlag) (s : State) (h : flagSet s g = true) : flagSet (raise f s) g = true := by
  obtain ⟨q, a, p, e⟩ := raise_spec f s
  rw [e]
  exact flag_kept _ _ _ h

/-- Raising a flag sets no other. -/
theorem raise_other (f g : EventFlag) (s : State) (h : g ≠ f) : flagSet (raise f s) g = flagSet s g := by
  obtain ⟨q, a, p, e⟩ := raise_spec f s
  rw [e]
  exact flag_other _ _ _ h

@[simp] theorem raise_config (f : EventFlag) (s : State) : (raise f s).config = s.config := by
  obtain ⟨q, a, p, e⟩ := raise_spec f s
  rw [e]
@[simp] theorem raise_part (f : EventFlag) (s : State) : (raise f s).part = s.part := by
  obtain ⟨q, a, p, e⟩ := raise_spec f s
  rw [e]
@[simp] theorem raise_timebase (f : EventFlag) (s : State) : (raise f s).timebase = s.timebase := by
  obtain ⟨q, a, p, e⟩ := raise_spec f s
  rw [e]
@[simp] theorem raise_stations (f : EventFlag) (s : State) : (raise f s).stations = s.stations := by
  obtain ⟨q, a, p, e⟩ := raise_spec f s
  rw [e]
@[simp] theorem raise_tables (f : EventFlag) (s : State) : (raise f s).tables = s.tables := by
  obtain ⟨q, a, p, e⟩ := raise_spec f s
  rw [e]
@[simp] theorem raise_mode (f : EventFlag) (s : State) : (raise f s).mode = s.mode := by
  obtain ⟨q, a, p, e⟩ := raise_spec f s
  rw [e]
@[simp] theorem raise_groups (f : EventFlag) (s : State) : (raise f s).groups = s.groups := by
  obtain ⟨q, a, p, e⟩ := raise_spec f s
  rw [e]
@[simp] theorem raise_tally (f : EventFlag) (s : State) : (raise f s).tally = s.tally := by
  obtain ⟨q, a, p, e⟩ := raise_spec f s
  rw [e]
@[simp] theorem raise_assembler (f : EventFlag) (s : State) : (raise f s).assembler = s.assembler := by
  obtain ⟨q, a, p, e⟩ := raise_spec f s
  rw [e]
@[simp] theorem raise_output (f : EventFlag) (s : State) : (raise f s).output = s.output := by
  obtain ⟨q, a, p, e⟩ := raise_spec f s
  rw [e]
@[simp] theorem raise_proceeding (f : EventFlag) (s : State) : (raise f s).proceeding = s.proceeding := by
  obtain ⟨q, a, p, e⟩ := raise_spec f s
  rw [e]
@[simp] theorem raise_engine (f : EventFlag) (s : State) : (raise f s).engine = s.engine := by
  obtain ⟨q, a, p, e⟩ := raise_spec f s
  rw [e]
@[simp] theorem raise_pending (f : EventFlag) (s : State) : (raise f s).pending = s.pending := by
  obtain ⟨q, a, p, e⟩ := raise_spec f s
  rw [e]
@[simp] theorem raise_ports_a (f : EventFlag) (s : State) : (raise f s).ports.a = s.ports.a := by
  obtain ⟨q, a, p, e⟩ := raise_spec f s
  rw [e]
@[simp] theorem raise_ports_b (f : EventFlag) (s : State) : (raise f s).ports.b = s.ports.b := by
  obtain ⟨q, a, p, e⟩ := raise_spec f s
  rw [e]
@[simp] theorem raise_ports_forwardAB (f : EventFlag) (s : State) : (raise f s).ports.forwardAB = s.ports.forwardAB := by
  obtain ⟨q, a, p, e⟩ := raise_spec f s
  rw [e]
@[simp] theorem raise_ports_forwardBA (f : EventFlag) (s : State) : (raise f s).ports.forwardBA = s.ports.forwardBA := by
  obtain ⟨q, a, p, e⟩ := raise_spec f s
  rw [e]
@[simp] theorem raise_ports_control (f : EventFlag) (s : State) : (raise f s).ports.control = s.ports.control := by
  obtain ⟨q, a, p, e⟩ := raise_spec f s
  rw [e]
@[simp] theorem raise_ports_turn (f : EventFlag) (s : State) : (raise f s).ports.turn = s.ports.turn := by
  obtain ⟨q, a, p, e⟩ := raise_spec f s
  rw [e]
@[simp] theorem raise_ports_dropAB (f : EventFlag) (s : State) : (raise f s).ports.dropAB = s.ports.dropAB := by
  obtain ⟨q, a, p, e⟩ := raise_spec f s
  rw [e]
@[simp] theorem raise_ports_dropBA (f : EventFlag) (s : State) : (raise f s).ports.dropBA = s.ports.dropBA := by
  obtain ⟨q, a, p, e⟩ := raise_spec f s
  rw [e]
@[simp] theorem raise_ports_tallyDrop (f : EventFlag) (s : State) : (raise f s).ports.tallyDrop = s.ports.tallyDrop := by
  obtain ⟨q, a, p, e⟩ := raise_spec f s
  rw [e]
@[simp] theorem raise_ports_replyDrop (f : EventFlag) (s : State) : (raise f s).ports.replyDrop = s.ports.replyDrop := by
  obtain ⟨q, a, p, e⟩ := raise_spec f s
  rw [e]
@[simp] theorem raise_management_requests (f : EventFlag) (s : State) :
    (raise f s).management.requests = s.management.requests := by
  obtain ⟨q, a, p, e⟩ := raise_spec f s
  rw [e]
@[simp] theorem raise_management_armed (f : EventFlag) (s : State) :
    (raise f s).management.armed = s.management.armed := by
  obtain ⟨q, a, p, e⟩ := raise_spec f s
  rw [e]
@[simp] theorem raise_management_faults (f : EventFlag) (s : State) :
    (raise f s).management.faults = s.management.faults := by
  obtain ⟨q, a, p, e⟩ := raise_spec f s
  rw [e]
@[simp] theorem raise_management_rejected (f : EventFlag) (s : State) :
    (raise f s).management.rejected = s.management.rejected := by
  obtain ⟨q, a, p, e⟩ := raise_spec f s
  rw [e]
@[simp] theorem raise_management_busy (f : EventFlag) (s : State) :
    (raise f s).management.busy = s.management.busy := by
  obtain ⟨q, a, p, e⟩ := raise_spec f s
  rw [e]
@[simp] theorem raise_management_unknown (f : EventFlag) (s : State) :
    (raise f s).management.unknown = s.management.unknown := by
  obtain ⟨q, a, p, e⟩ := raise_spec f s
  rw [e]

/-- Raising a flag keeps every port's status. -/
@[simp] theorem raise_port (f : EventFlag) (s : State) (p : Port) : (raise f s).port p = s.port p := by
  cases p
  · exact raise_ports_a f s
  · exact raise_ports_b f s

end Sys2Proof.Machine
end

