-- ==== Sys2Proof/Laws/Queues.lean ====
section
/-! SUPPORT. What the queues toward the ports, the lamps and a change of station state can change, each said once (R22, R75, R76,
R159, R161). -/

namespace Sys2Proof.Machine

/-- A property that every index's work keeps holds after the work on all of them. -/
theorem forEach_keeps {σ : Type} (n : Nat) (f : Fin n → σ → σ) (P : σ → Prop) (h : ∀ i t, P t → P (f i t)) (s : σ)
    (hs : P s) : P (forEach n f s) := by
  unfold forEach
  generalize List.finRange n = l
  induction l generalizing s with
  | nil => exact hs
  | cons i l ih => exact ih (f i s) (h i s hs)

/-- A TALLY frame offered changes the control queue and its drop count alone (R161). -/
theorem queueTally_spec (f : Frame) (s : State) :
    ∃ q d, queueTally f s = { s with ports := { s.ports with control := q, tallyDrop := d } } := by
  unfold queueTally
  split
  · exact ⟨_, _, rfl⟩
  · exact ⟨_, _, rfl⟩

/-- With room in the control queue a TALLY frame joins its tail (R161). -/
theorem queueTally_room (f : Frame) (s : State) (h : s.ports.control.length < 64) :
    queueTally f s =
      { s with ports := { s.ports with control := s.ports.control ++ [{ tally := true, frame := f }] } } :=
  if_pos h

/-- A TEST_COMMAND placed changes the control queue and its drop count alone (R161). -/
theorem queueTestCommand_spec (f : Frame) (s : State) :
    ∃ q d, queueTestCommand f s = { s with ports := { s.ports with control := q, tallyDrop := d } } ∧
      ({ tally := false, frame := f } : ControlFrame) ∈ q := by
  unfold queueTestCommand
  simp only
  split
  · exact ⟨_, _, rfl, by simp⟩
  · split
    · exact ⟨_, _, rfl, by simp⟩
    · exact ⟨_, _, rfl, by simp⟩

/-- What a forwarded frame can change: the two queues and their drop counts (R159). -/
theorem forwardFrom_spec (p : Port) (f : Frame) (s : State) :
    ∃ x y d e, forwardFrom p f s =
      { s with ports := { s.ports with forwardAB := x, forwardBA := y, dropAB := d, dropBA := e } } := by
  unfold forwardFrom
  split
  · exact ⟨_, _, _, _, rfl⟩
  · cases p <;> simp only <;> split <;> exact ⟨_, _, _, _, rfl⟩

/-- A TALLY frame built for a station changes the control queue and its drop count alone (R76). -/
theorem sendTally_spec (i : Fin 16) (s : State) :
    ∃ q d, sendTally i s = { s with ports := { s.ports with control := q, tallyDrop := d } } := by
  unfold sendTally
  split
  · exact queueTally_spec _ _
  · exact ⟨_, _, rfl⟩

/-- What a recomputation of the lamps can change: the lamps, and the control queue with its drop count (R75, R76). -/
theorem recomputeLamps_spec (s : State) :
    ∃ l q d, recomputeLamps s =
      { s with tally := { s.tally with lamps := l }, ports := { s.ports with control := q, tallyDrop := d } } := by
  unfold recomputeLamps
  split
  · refine forEach_keeps 16 _ (fun t : State => ∃ l q d, t =
      { s with tally := { s.tally with lamps := l }, ports := { s.ports with control := q, tallyDrop := d } }) ?_ _
      ⟨Vector.ofFn (lampOf s), s.ports.control, s.ports.tallyDrop, rfl⟩
    rintro i t ⟨l, q, d, rfl⟩
    dsimp only
    split
    · obtain ⟨q', d', h⟩ := sendTally_spec i
        { s with tally := { s.tally with lamps := l }, ports := { s.ports with control := q, tallyDrop := d } }
      exact ⟨l, q', d', h⟩
    · exact ⟨l, q, d, rfl⟩
  · exact ⟨_, _, _, rfl⟩

/-- What a change of station state can change: the station's state, and what raising STATION_STATE changes (R22). -/
theorem setStationState_spec (i : Fin 16) (x : StationState) (s : State) :
    setStationState i x s = s ∨
      setStationState i x s = raise .stationState (modStation i (fun st => { st with state := x }) s) := by
  unfold setStationState
  split
  · exact .inl rfl
  · exact .inr rfl

/-- After a change of station state the station is in that state (R22). -/
theorem setStationState_state (i : Fin 16) (x : StationState) (s : State) :
    (setStationState i x s).stations[i].state = x := by
  unfold setStationState
  by_cases h : s.stations[i].state = x
  · rw [if_pos h]; exact h
  · have e := modStation_station_self s i (fun st => { st with state := x })
    have r := raise_stations .stationState (modStation i (fun st => { st with state := x }) s)
    rw [if_neg h]
    simp only [r, e]

@[simp] theorem recomputeLamps_config (s : State) : (recomputeLamps s).config = s.config := by
  obtain ⟨l, q, d, h⟩ := recomputeLamps_spec s
  rw [h]
@[simp] theorem recomputeLamps_part (s : State) : (recomputeLamps s).part = s.part := by
  obtain ⟨l, q, d, h⟩ := recomputeLamps_spec s
  rw [h]
@[simp] theorem recomputeLamps_timebase (s : State) : (recomputeLamps s).timebase = s.timebase := by
  obtain ⟨l, q, d, h⟩ := recomputeLamps_spec s
  rw [h]
@[simp] theorem recomputeLamps_stations (s : State) : (recomputeLamps s).stations = s.stations := by
  obtain ⟨l, q, d, h⟩ := recomputeLamps_spec s
  rw [h]
@[simp] theorem recomputeLamps_tables (s : State) : (recomputeLamps s).tables = s.tables := by
  obtain ⟨l, q, d, h⟩ := recomputeLamps_spec s
  rw [h]
@[simp] theorem recomputeLamps_mode (s : State) : (recomputeLamps s).mode = s.mode := by
  obtain ⟨l, q, d, h⟩ := recomputeLamps_spec s
  rw [h]
@[simp] theorem recomputeLamps_groups (s : State) : (recomputeLamps s).groups = s.groups := by
  obtain ⟨l, q, d, h⟩ := recomputeLamps_spec s
  rw [h]
@[simp] theorem recomputeLamps_assembler (s : State) : (recomputeLamps s).assembler = s.assembler := by
  obtain ⟨l, q, d, h⟩ := recomputeLamps_spec s
  rw [h]
@[simp] theorem recomputeLamps_output (s : State) : (recomputeLamps s).output = s.output := by
  obtain ⟨l, q, d, h⟩ := recomputeLamps_spec s
  rw [h]
@[simp] theorem recomputeLamps_proceeding (s : State) : (recomputeLamps s).proceeding = s.proceeding := by
  obtain ⟨l, q, d, h⟩ := recomputeLamps_spec s
  rw [h]
@[simp] theorem recomputeLamps_engine (s : State) : (recomputeLamps s).engine = s.engine := by
  obtain ⟨l, q, d, h⟩ := recomputeLamps_spec s
  rw [h]
@[simp] theorem recomputeLamps_management (s : State) : (recomputeLamps s).management = s.management := by
  obtain ⟨l, q, d, h⟩ := recomputeLamps_spec s
  rw [h]
@[simp] theorem recomputeLamps_pending (s : State) : (recomputeLamps s).pending = s.pending := by
  obtain ⟨l, q, d, h⟩ := recomputeLamps_spec s
  rw [h]
@[simp] theorem setStationState_config (i : Fin 16) (x : StationState) (s : State) :
    (setStationState i x s).config = s.config := by
  rcases setStationState_spec i x s with h | h <;> rw [h]
  exact raise_config _ _
@[simp] theorem setStationState_part (i : Fin 16) (x : StationState) (s : State) :
    (setStationState i x s).part = s.part := by
  rcases setStationState_spec i x s with h | h <;> rw [h]
  exact raise_part _ _
@[simp] theorem setStationState_timebase (i : Fin 16) (x : StationState) (s : State) :
    (setStationState i x s).timebase = s.timebase := by
  rcases setStationState_spec i x s with h | h <;> rw [h]
  exact raise_timebase _ _
@[simp] theorem setStationState_tables (i : Fin 16) (x : StationState) (s : State) :
    (setStationState i x s).tables = s.tables := by
  rcases setStationState_spec i x s with h | h <;> rw [h]
  exact raise_tables _ _
@[simp] theorem setStationState_mode (i : Fin 16) (x : StationState) (s : State) :
    (setStationState i x s).mode = s.mode := by
  rcases setStationState_spec i x s with h | h <;> rw [h]
  exact raise_mode _ _
@[simp] theorem setStationState_groups (i : Fin 16) (x : StationState) (s : State) :
    (setStationState i x s).groups = s.groups := by
  rcases setStationState_spec i x s with h | h <;> rw [h]
  exact raise_groups _ _
@[simp] theorem setStationState_tally (i : Fin 16) (x : StationState) (s : State) :
    (setStationState i x s).tally = s.tally := by
  rcases setStationState_spec i x s with h | h <;> rw [h]
  exact raise_tally _ _
@[simp] theorem setStationState_assembler (i : Fin 16) (x : StationState) (s : State) :
    (setStationState i x s).assembler = s.assembler := by
  rcases setStationState_spec i x s with h | h <;> rw [h]
  exact raise_assembler _ _
@[simp] theorem setStationState_output (i : Fin 16) (x : StationState) (s : State) :
    (setStationState i x s).output = s.output := by
  rcases setStationState_spec i x s with h | h <;> rw [h]
  exact raise_output _ _
@[simp] theorem setStationState_proceeding (i : Fin 16) (x : StationState) (s : State) :
    (setStationState i x s).proceeding = s.proceeding := by
  rcases setStationState_spec i x s with h | h <;> rw [h]
  exact raise_proceeding _ _
@[simp] theorem setStationState_engine (i : Fin 16) (x : StationState) (s : State) :
    (setStationState i x s).engine = s.engine := by
  rcases setStationState_spec i x s with h | h <;> rw [h]
  exact raise_engine _ _
@[simp] theorem setStationState_pending (i : Fin 16) (x : StationState) (s : State) :
    (setStationState i x s).pending = s.pending := by
  rcases setStationState_spec i x s with h | h <;> rw [h]
  exact raise_pending _ _

end Sys2Proof.Machine
end

