-- ==== Sys2Proof/Laws/Settle.lean ====
section
/-! SUPPORT. What the sender and the arbiters take at the end of a command: a settled state stays as it is, the state after is
settled, and outside the ports, the Record Output and the waiting monitor frame nothing changes (R123, R160 to R162). -/

namespace Sys2Proof.Machine

/-! ## A settled state takes nothing -/

theorem senderChoice_none (o : RecordOutput) (h : o.openS.eligible = false ∧ o.sealedS.eligible = false) :
    senderChoice o = none := by
  unfold senderChoice
  cases o.turn <;> simp [RecordOutput.stream, otherStream, h.1, h.2]

theorem runSender_settled (s : State)
    (h : s.output.sending = none → s.output.openS.eligible = false ∧ s.output.sealedS.eligible = false) :
    runSender s = s := by
  unfold runSender
  cases hs : s.output.sending with
  | none => simp [senderChoice_none _ (h hs)]
  | some x => rfl

theorem arbiterA_settled (s : State)
    (h : portReady s .A = true → s.ports.control = [] ∧ monitorFor s .A = none ∧ s.ports.forwardBA = []) :
    arbiterA s = s := by
  unfold arbiterA
  split
  · next hr =>
    obtain ⟨hc, hm, hf⟩ := h hr
    simp [selectA, hc, hm, hf]
  · rfl

theorem arbiterB_settled (s : State)
    (h : portReady s .B = true →
      s.ports.management = [] ∧ monitorFor s .B = none ∧ offeredFrame s = none ∧ s.ports.forwardAB = []) :
    arbiterB s = s := by
  unfold arbiterB
  split
  · next hr =>
    obtain ⟨hm, hw, ho, hf⟩ := h hr
    simp [selectB, hm, hw, selectClass3, ho, hf]
  · rfl

/-- Nothing is taken in a settled state. -/
theorem settle_of_settled (s : State) (h : s.Settled) : settle s = s := by
  unfold settle
  rw [runSender_settled s h.1, arbiterA_settled s h.2.1, arbiterB_settled s h.2.2]

/-! ## What may change -/

/-- What a transmission that begins can change. -/
theorem arbiterA_spec (s : State) :
    ∃ q e, arbiterA s = { s with ports := q, engine := { s.engine with waiting := e } } := by
  unfold arbiterA
  split
  · unfold selectA
    split
    · exact ⟨_, _, rfl⟩
    · split
      · exact ⟨_, _, rfl⟩
      · exact ⟨_, _, rfl⟩
      · exact ⟨_, _, rfl⟩
  · exact ⟨_, _, rfl⟩

theorem selectClass3_spec (s : State) : ∃ q, selectClass3 s = { s with ports := q } := by
  unfold selectClass3
  split
  · split
    · exact ⟨_, rfl⟩
    · exact ⟨_, rfl⟩
  · exact ⟨_, rfl⟩
  · exact ⟨_, rfl⟩
  · exact ⟨_, rfl⟩

theorem arbiterB_spec (s : State) :
    ∃ q e, arbiterB s = { s with ports := q, engine := { s.engine with waiting := e } } := by
  unfold arbiterB
  split
  · unfold selectB
    split
    · exact ⟨_, _, rfl⟩
    · split
      · exact ⟨_, _, rfl⟩
      · obtain ⟨q, h⟩ := selectClass3_spec s
        exact ⟨q, s.engine.waiting, h⟩
  · exact ⟨_, _, rfl⟩

theorem takeRecord_spec (st : Stream) (q : QueuedRecord) (s : State) :
    ∃ o, takeRecord st q s = { s with output := o } := by
  cases st <;> exact ⟨_, rfl⟩

theorem runSender_spec (s : State) : ∃ o, runSender s = { s with output := o } := by
  unfold runSender
  split
  · split
    · exact takeRecord_spec _ _ _
    · exact ⟨_, rfl⟩
  · exact ⟨_, rfl⟩

/-- What the end of a command can change besides the command's own effect. -/
theorem settle_spec (s : State) :
    ∃ p o w, settle s = { s with ports := p, output := o, engine := { s.engine with waiting := w } } := by
  obtain ⟨o, h1⟩ := runSender_spec s
  obtain ⟨p, w, h2⟩ := arbiterA_spec (runSender s)
  obtain ⟨p', w', h3⟩ := arbiterB_spec (arbiterA (runSender s))
  exact ⟨p', o, w', by unfold settle; rw [h3, h2, h1]⟩

@[simp] theorem settle_config (s : State) : (settle s).config = s.config := by
  obtain ⟨p, o, w, h⟩ := settle_spec s
  rw [h]
@[simp] theorem settle_part (s : State) : (settle s).part = s.part := by
  obtain ⟨p, o, w, h⟩ := settle_spec s
  rw [h]
@[simp] theorem settle_timebase (s : State) : (settle s).timebase = s.timebase := by
  obtain ⟨p, o, w, h⟩ := settle_spec s
  rw [h]
@[simp] theorem settle_stations (s : State) : (settle s).stations = s.stations := by
  obtain ⟨p, o, w, h⟩ := settle_spec s
  rw [h]
@[simp] theorem settle_tables (s : State) : (settle s).tables = s.tables := by
  obtain ⟨p, o, w, h⟩ := settle_spec s
  rw [h]
@[simp] theorem settle_mode (s : State) : (settle s).mode = s.mode := by
  obtain ⟨p, o, w, h⟩ := settle_spec s
  rw [h]
@[simp] theorem settle_groups (s : State) : (settle s).groups = s.groups := by
  obtain ⟨p, o, w, h⟩ := settle_spec s
  rw [h]
@[simp] theorem settle_tally (s : State) : (settle s).tally = s.tally := by
  obtain ⟨p, o, w, h⟩ := settle_spec s
  rw [h]
@[simp] theorem settle_assembler (s : State) : (settle s).assembler = s.assembler := by
  obtain ⟨p, o, w, h⟩ := settle_spec s
  rw [h]
@[simp] theorem settle_proceeding (s : State) : (settle s).proceeding = s.proceeding := by
  obtain ⟨p, o, w, h⟩ := settle_spec s
  rw [h]
@[simp] theorem settle_management (s : State) : (settle s).management = s.management := by
  obtain ⟨p, o, w, h⟩ := settle_spec s
  rw [h]
@[simp] theorem settle_pending (s : State) : (settle s).pending = s.pending := by
  obtain ⟨p, o, w, h⟩ := settle_spec s
  rw [h]

/-- No flag changes at the end of a command. -/
@[simp] theorem settle_flagSet (s : State) (f : EventFlag) : flagSet (settle s) f = flagSet s f := by
  unfold flagSet
  rw [settle_management]

/-! ## The state after is settled -/

theorem runSender_done (s : State) :
    (runSender s).output.sending = none →
      (runSender s).output.openS.eligible = false ∧ (runSender s).output.sealedS.eligible = false := by
  intro h
  cases hs : s.output.sending with
  | some x =>
    have e : runSender s = s := by unfold runSender; rw [hs]
    rw [e, hs] at h
    cases h
  | none =>
    cases hc : senderChoice s.output with
    | none =>
      have e : runSender s = s := by unfold runSender; rw [hs, hc]
      rw [e]
      unfold senderChoice at hc
      revert hc
      cases s.output.turn <;> simp only [RecordOutput.stream, otherStream] <;>
        rcases Bool.eq_false_or_eq_true s.output.openS.eligible with ho | ho <;>
          rcases Bool.eq_false_or_eq_true s.output.sealedS.eligible with hz | hz <;> simp [ho, hz]
    | some st =>
      cases hq : (s.stream st).fifo.head? with
      | some q =>
        have e : runSender s = takeRecord st q s := by unfold runSender; rw [hs, hc]; simp [hq]
        rw [e] at h
        cases h
      | none =>
        exfalso
        have he : (s.stream st).eligible = false := by unfold StreamState.eligible; rw [hq]
        unfold senderChoice at hc
        revert hc he
        cases s.output.turn <;> cases st <;> simp only [RecordOutput.stream, otherStream, State.stream] <;>
          rcases Bool.eq_false_or_eq_true s.output.openS.eligible with ho | ho <;>
            rcases Bool.eq_false_or_eq_true s.output.sealedS.eligible with hz | hz <;> simp [ho, hz]

theorem arbiterA_done (s : State) : portReady (arbiterA s) .A = true →
    (arbiterA s).ports.control = [] ∧ monitorFor (arbiterA s) .A = none ∧ (arbiterA s).ports.forwardBA = [] := by
  unfold arbiterA
  split
  · next hr =>
    unfold selectA
    split
    · simp [transmit, modPort, portReady, State.port]
    · split
      · simp [takeMonitor, transmit, modPort, portReady, State.port]
      · simp [transmit, modPort, portReady, State.port]
      · next hc _ _ hm hf => exact fun _ => ⟨hc, hm, hf⟩
  · next hr => exact fun h => absurd h hr

theorem arbiterB_done (s : State) : portReady (arbiterB s) .B = true →
    (arbiterB s).ports.management = [] ∧ monitorFor (arbiterB s) .B = none ∧ offeredFrame (arbiterB s) = none ∧
      (arbiterB s).ports.forwardAB = [] := by
  unfold arbiterB
  split
  · unfold selectB
    split
    · simp [transmit, modPort, portReady, State.port]
    · split
      · simp [takeMonitor, transmit, modPort, portReady, State.port]
      · unfold selectClass3
        split
        · split <;> simp [takeRecordFrame, takeForwarded, transmit, modPort, portReady, State.port]
        · simp [takeRecordFrame, transmit, modPort, portReady, State.port]
        · simp [takeForwarded, transmit, modPort, portReady, State.port]
        · next hm _ hw _ _ ho hf => exact fun _ => ⟨hm, hw, ho, hf⟩
  · next hr => exact fun h => absurd h hr

/-- Port B's arbiter leaves what port A's looked at, but for a monitor frame it takes. -/
theorem arbiterB_portA (s : State) :
    (arbiterB s).ports.a = s.ports.a ∧ (arbiterB s).ports.control = s.ports.control ∧
      (arbiterB s).ports.forwardBA = s.ports.forwardBA ∧ (monitorFor s .A = none → monitorFor (arbiterB s) .A = none) := by
  have key : ∀ t : State, t.engine = s.engine → monitorFor t .A = monitorFor s .A := by
    intro t h
    unfold monitorFor
    rw [h]
  unfold arbiterB
  split
  · unfold selectB
    split
    · exact ⟨rfl, rfl, rfl, fun h => (key _ rfl).trans h⟩
    · split
      · refine ⟨rfl, rfl, rfl, fun _ => ?_⟩
        simp only [takeMonitor, monitorFor, transmit_engine]
        split
        · split <;> rfl
        · rfl
        · rfl
      · obtain ⟨q, h⟩ := selectClass3_spec s
        refine ⟨?_, ?_, ?_, fun hm => (key _ (by rw [h])).trans hm⟩ <;>
          (unfold selectClass3; split <;> first | rfl | (split <;> rfl))
  · exact ⟨rfl, rfl, rfl, id⟩

/-- The state that the end of a command leaves is settled. -/
theorem settled_settle (s : State) : (settle s).Settled := by
  obtain ⟨o, h1⟩ := runSender_spec s
  obtain ⟨p, w, h2⟩ := arbiterA_spec (runSender s)
  obtain ⟨p', w', h3⟩ := arbiterB_spec (arbiterA (runSender s))
  have ho : (settle s).output = (runSender s).output := by unfold settle; rw [h3, h2]
  obtain ⟨ha, hc, hf, hm⟩ := arbiterB_portA (arbiterA (runSender s))
  refine ⟨?_, ?_, ?_⟩
  · rw [ho]; exact runSender_done s
  · intro hr
    have hr' : portReady (arbiterA (runSender s)) .A = true := by
      unfold portReady State.port at hr ⊢
      simpa [settle, ha] using hr
    obtain ⟨x, y, z⟩ := arbiterA_done _ hr'
    exact ⟨hc.trans x, hm y, hf.trans z⟩
  · exact arbiterB_done _

end Sys2Proof.Machine
end

