-- ==== Sys2Proof/Laws/Requests.lean ====
section
/-! SUPPORT. Serving a request: what `serve` comes to when its request is at the head, and what placing the REPLY does in a settled
state (R162, R169). -/

namespace Sys2Proof.Machine

theorem replyFrame_eq (s : State) (r : Request) (x : ResultCode) (d : List Byte) :
    replyFrame s r x d = replyTo s.config r x d := rfl

/-- A request at the head is carried out on the state without it, and its REPLY is placed. -/
theorem serve_serving (s : State) (k : RequestKind) (r : Request) (rest : List Request)
    (h : List Byte → State → Answer) (hs : Serving s k r rest) :
    serve k h s = settle (queueReply (h r.payload (dequeued s rest)).after
      (replyTo (h r.payload (dequeued s rest)).state.config r (h r.payload (dequeued s rest)).result
        (h r.payload (dequeued s rest)).data) (h r.payload (dequeued s rest)).state) := by
  obtain ⟨hq, hk, hm⟩ := hs
  unfold serve
  rw [hq]
  simp only [hm, hk, Bool.true_and, beq_self_eq_true, if_true]
  rfl

/-- Nothing happens while another request is at the head, or it must wait, or none is queued. -/
theorem serve_waiting (s : State) (k : RequestKind) (h : List Byte → State → Answer)
    (hs : ∀ r rest, ¬ Serving s k r rest) : serve k h s = s := by
  unfold serve
  cases hq : s.management.requests with
  | nil => rfl
  | cons r rest =>
    simp only
    split
    · next hc =>
      simp only [Bool.and_eq_true, beq_iff_eq] at hc
      exact absurd ⟨hq, hc.2, hc.1⟩ (hs r rest)
    · rfl

/-- Taking a request from the queue keeps a state settled. -/
theorem dequeued_settled (s : State) (rest : List Request) (h : s.Settled) : (dequeued s rest).Settled := h

/-- In a settled state a REPLY goes out at once when port B is ready, and otherwise waits at the tail of its queue. -/
theorem settle_queueReply (a : AfterReply) (f : Frame) (s : State) (h : s.Settled) :
    settle (queueReply a f s) = withReply a f s := by
  obtain ⟨hq, ha, hb⟩ := h
  have h1 : runSender (queueReply a f s) = queueReply a f s := runSender_settled _ hq
  have h2 : arbiterA (queueReply a f s) = queueReply a f s := arbiterA_settled _ ha
  have hp : portReady (queueReply a f s) .B = portReady s .B := rfl
  unfold settle withReply
  rw [h1, h2]
  unfold arbiterB
  rw [hp]
  split
  · next hr =>
    have hm := (hb hr).1
    have hn : (queueReply a f s).ports.management = [{ notice := false, after := a, frame := f }] := by
      simp [hm]
    have hf : (s.ports.repliesFull || decide (replyPlaces ≤ repliesWaiting s + 1)) = s.ports.repliesFull := by
      simp [repliesWaiting, hm, replyPlaces]
    unfold selectB
    rw [hn]
    simp only [transmit, modPort, ManagementFrame.origin, Bool.false_eq_true, if_false]
    simp only [queueReply, hf]
    rw [← hm]
  · rfl

/-- A served request whose handler leaves the state settled is answered by `withReply`. -/
theorem serve_reply (s : State) (k : RequestKind) (r : Request) (rest : List Request) (h : List Byte → State → Answer)
    (hs : Serving s k r rest) (ht : (h r.payload (dequeued s rest)).state.Settled) :
    serve k h s = withReply (h r.payload (dequeued s rest)).after
      (replyTo (h r.payload (dequeued s rest)).state.config r (h r.payload (dequeued s rest)).result
        (h r.payload (dequeued s rest)).data) (h r.payload (dequeued s rest)).state := by
  rw [serve_serving s k r rest h hs, settle_queueReply _ _ _ ht]

end Sys2Proof.Machine
end

