-- ==== Sys2Proof/Tests/Slice0.lean ====
section
/-! SUPPORT. The model's own tests: the WellFormed smoke, worked examples of the manual, and for each statement with hypotheses a
concrete state that meets them. -/

set_option Elab.async false

namespace Sys2Proof.Tests

open Sys2Proof.Machine

/-! ## WellFormed: each check refuses an ill-formed command -/

/-- A frame whose body has n bytes and whose kind code is k. -/
def frameOf (k : Byte) (n : Nat) : Frame :=
  { dst := 0, src := 1, etherType := 0x88B6, body := [1, k] ++ List.replicate (n - 2) 0 }

theorem test_wf_accepts_sizes :
    ([46, 1504].all fun n => (Instr.loopedCopy .A (frameOf 9 n)).wf && (Instr.cadenceMark (frameOf 2 n) 0).wf
      && (Instr.stationAudio (frameOf 1 n)).wf && (Instr.request (frameOf 0x20 n)).wf) = true := by decide +kernel

theorem test_wf_refuses_looped_size :
    (Instr.loopedCopy .A (frameOf 9 45)).wf = false ∧ (Instr.loopedCopy .A (frameOf 9 1505)).wf = false := by decide +kernel

theorem test_wf_refuses_pass_through_size :
    (Instr.passThrough .A (frameOf 9 45)).wf = false ∧ (Instr.passThrough .A (frameOf 9 1505)).wf = false := by decide +kernel

theorem test_wf_refuses_misdirected_size :
    (Instr.misdirected .B (frameOf 9 45)).wf = false ∧ (Instr.misdirected .B (frameOf 9 1505)).wf = false := by decide +kernel

theorem test_wf_refuses_mark :
    (Instr.cadenceMark (frameOf 2 45) 0).wf = false ∧ (Instr.cadenceMark (frameOf 1 46) 0).wf = false := by decide +kernel

theorem test_wf_refuses_audio :
    (Instr.stationAudio (frameOf 1 45)).wf = false ∧ (Instr.stationAudio (frameOf 2 46)).wf = false := by decide +kernel

theorem test_wf_refuses_credit :
    (Instr.credit (frameOf 0x18 45)).wf = false ∧ (Instr.credit (frameOf 0x19 46)).wf = false := by decide +kernel

theorem test_wf_refuses_close_ack :
    (Instr.closeAck (frameOf 0x19 45)).wf = false ∧ (Instr.closeAck (frameOf 0x18 46)).wf = false := by decide +kernel

theorem test_wf_refuses_request :
    (Instr.request (frameOf 0x20 45)).wf = false ∧ (Instr.request (frameOf 0x21 46)).wf = false := by decide +kernel

/-! ## Worked examples of the manual -/

/-- R187: the check value over "123456789". -/
theorem test_crc_check_value : crc32 [0x31, 0x32, 0x33, 0x34, 0x35, 0x36, 0x37, 0x38, 0x39] = 0xCBF43926 := by decide +kernel

/-- Section 12.5's example: the running register over two checks is the CRC-32 of the 8 bytes. -/
theorem test_stream_check_of_two_records :
    crcRun (crcRun 0xFFFFFFFF (wordBytes 0x1A2B3C4D)) (wordBytes 0x5E6F7081) ^^^ 0xFFFFFFFF =
      crc32 [0x1A, 0x2B, 0x3C, 0x4D, 0x5E, 0x6F, 0x70, 0x81] := by decide +kernel

/-- Section 1.9's carry points. -/
theorem test_record_time_carries :
    (RecordTime.mk 0 59 59 99 true).advance = some (RecordTime.mk 1 0 0 0 false) ∧
      (RecordTime.mk 99 59 59 99 false).advance = some (RecordTime.mk 99 59 59 99 true) ∧
      (RecordTime.mk 99 59 59 99 true).advance = none ∧
      (RecordTime.mk 0 12 30 40 true).advance = some (RecordTime.mk 0 12 30 41 false) := by decide +kernel

/-- Section 4.2's example: the push that overflows discards ON_RECORD. -/
theorem test_mode_stack_overflow :
    pushPair .sidebar { current := .sidebar, stack := [.onRecord, .closedHearing, .recess, .offRecord] } =
      { current := .sidebar, stack := [.closedHearing, .recess, .offRecord, .sidebar] } := by decide +kernel

/-- Section 4.2's example: END_SIDEBAR restores, and is dropped outside SIDEBAR. -/
theorem test_end_sidebar :
    endSidebarPair { current := .sidebar, stack := [.onRecord, .closedHearing] } =
        { current := .closedHearing, stack := [.onRecord] } ∧
      endSidebarPair { current := .closedHearing, stack := [.onRecord] } =
        { current := .closedHearing, stack := [.onRecord] } := by decide +kernel

/-- Section 2.6's example: serials 41 and 42 after 40, and their copies. -/
theorem test_serial_repeats :
    isRepeat (some 40) 41 = false ∧ isRepeat (some 41) 41 = true ∧ isRepeat (some 42) 41 = true := by decide +kernel

/-- Section 3.6's example: a prediction from 512,300 with R nominal lands at 512,540. -/
theorem test_prediction : roundPosition ({ Tracker.reset with position := positionOf 512300 }.predict).position = 512540 := by
  decide +kernel

/-! ## Helpers -/

def ctl : Mac := 0x0C0000000001
def dst : Mac := 0x0E0000000001
def mic : Mac := 0x0A0000000001

/-- A request with a code and the bytes that follow its first four. -/
def ask (code : Nat) (rest : List Byte) : Request :=
  { source := ctl, body := lrtBody 0x20 ([0, 7] ++ byte code ++ [0] ++ rest) }

/-- A state with one request queued. -/
def queued (r : Request) (s : State) : State := { s with management := { s.management with requests := [r] } }

/-- A state in a proceeding state. -/
def inState (p : ProceedingState) (s : State) : State := { s with proceeding := { s.proceeding with state := p } }

/-- A state whose timebase is in a state with a last boundary, an expected mark and the timers given. -/
def ticking (x : TimebaseState) (l : Tick) (m : MarkNo) (s : State) : State :=
  { s with timebase := { s.timebase with state := x, last := some l, expected := m,
                                         guardTimer := some (l + 135168), synthesisTimer := some (l + 122880) } }

/-- A state that transmits a frame on port B. -/
def sendingB (o : TxOrigin) (f : Frame) (s : State) : State :=
  modPort .B (fun y => { y with transmitting := some { origin := o, frame := f } }) s

/-- A state that transmits a frame on port A. -/
def sendingA (o : TxOrigin) (f : Frame) (s : State) : State :=
  modPort .A (fun y => { y with transmitting := some { origin := o, frame := f } }) s

/-- An LRT frame from a source, to the part on port B or to a group on port A. -/
def lrt (d src : Mac) (kind : Byte) (payload : List Byte) : Frame :=
  { dst := d, src := src, etherType := 0x88B6, body := lrtBody kind payload }

def own : Mac := factoryAddress
def everyone : Mac := 0xFFFFFFFFFFFF

def mark (m : MarkNo) : Frame := lrt everyone 0x0B0000000001 2 (wordBytes m)

/-- A one-channel audio frame of the station at `mic`, with its events. -/
def audio (c : Counter) (m : MarkNo) (events : List Byte) : Frame :=
  lrt everyone mic 1 ([1, 0] ++ byte (events.length / 8) ++ [0] ++ wordBytes c ++ wordBytes m ++ wordBytes 0 ++ events
    ++ List.replicate 144 0)

/-- Station 0 at `mic`, with bench authority, in a state. -/
def withMic (x : Station) (s : State) : State :=
  let e := { StationEntry.reset with address := mic, enabled := true, benchAuthority := true }
  { s with
    tables := { s.tables with active := { s.tables.active with stations := s.tables.active.stations.set 0 e } }
    stations := s.stations.set 0 x }

def acquiring : Station := { Station.reset with state := .acquire }

/-- A stream that takes part, with destination `dst`. -/
def joined : StreamState :=
  { StreamState.resetWith { StreamEntry.reset with enabled := true, destination := dst } with takesPart := true }

/-- A state whose OPEN stream is x. -/
def withOpen (x : StreamState) (s : State) : State := { s with output := { s.output with openS := x } }

/-- A line test of station 0 with a duration and an elapsed count. -/
def testOf (duration elapsed : Nat) : LineTest :=
  { station := 0, address := mic, duration := duration, elapsed := elapsed, answered := false, checker := Checker.fresh }

def someRun : RunRegister :=
  { mode := .recess, mapGeneration := 0, first := 1, last := 2, quality := .locked, time := RecordTime.zero }

def stored : QueuedRecord := { record := .run (buildRun 1 .openS .withheld someRun), stored := true }

theorem settled_as_reset (s : State) (hp : s.ports = State.reset.ports) (ho : s.output = State.reset.output)
    (he : s.engine = State.reset.engine) : s.Settled := by
  have h : State.reset.Settled := by unfold State.Settled; decide +kernel
  unfold State.Settled portReady State.port monitorFor offeredFrame at *
  rw [hp, ho, he]
  exact h

/-! ## Witnesses: the step and the invariants -/

theorem witness_step : ∃ (c : Instr) (s : State) (rest : List Instr), s.pending = c :: rest :=
  ⟨.powerOn, { State.reset with pending := [.powerOn] }, [], rfl⟩

theorem witness_idle :
    (∃ s : State, s.pending = [] ∧ s.timebase.state ≠ .search) ∧
    (∃ s : State, s.pending = [] ∧ s.part.awake = false) ∧
    (∃ (s : State) (x : LineTest), s.pending = [] ∧ s.timebase.state = .search ∧ s.part.awake = true ∧
      s.engine.state = .test x) ∧
    (∃ s : State, s.pending = [] ∧ s.timebase.state = .search ∧ s.part.awake = true ∧ ∀ x, s.engine.state ≠ .test x) :=
  ⟨⟨ticking .locked 0 0 State.reset, rfl, by decide +kernel⟩,
   ⟨{ State.reset with part := { State.reset.part with awake := false } }, rfl, rfl⟩,
   ⟨setEngine (.test (testOf 3 2)) State.reset, _, rfl, rfl, rfl, rfl⟩,
   ⟨State.reset, rfl, rfl, rfl, fun x h => by cases h⟩⟩

theorem witness_invariants :
    ∃ s t : State, s.Settled ∧ s.TogglesBounded ∧ s.CreditsBounded ∧ s.ListsBounded ∧ s.CloseDelayInRange ∧
      s.StoreBounded ∧ s.QueuesBounded ∧ step s = .next t := by
  refine ⟨State.reset, _, settled_as_reset _ rfl rfl rfl, ?_, ?_, ?_, ?_, ?_, ?_, rfl⟩
  · unfold State.TogglesBounded; decide +kernel
  · intro st; cases st <;> decide +kernel
  · unfold State.ListsBounded; decide +kernel
  · unfold State.CloseDelayInRange; decide +kernel
  · unfold State.StoreBounded; decide +kernel
  · unfold State.QueuesBounded; decide +kernel

theorem witness_tables : State.reset.TablesConsistent := by
  have h : State.reset.tables.active.consistent = true := by decide +kernel
  exact ⟨h, h⟩

theorem witness_record_time : RecordTime.zero.legal ∧ RecordTime.zero.advance ≠ none := by
  unfold RecordTime.legal; decide +kernel

theorem witness_segments :
    ∃ cells : List Machine.Cell, 16 < (segmentsOf cells).length :=
  ⟨(List.replicate 9 [{ kind := .audio, cause := .none, value := none }, lostCell]).flatten, by decide +kernel⟩

/-! ## Witnesses: resets and STANDBY -/

theorem witness_soft_resets :
    (∃ (s : State) (x : InTransmission), s.ports.b.transmitting = some x ∧ x.origin = .reply .resetFull ∧
      s.config.controller ≠ 0 ∧ s.ports.b.linkUp = true) ∧
    (∃ (s : State) (x : InTransmission), s.ports.b.transmitting = some x ∧ x.origin = .reply .resetRuntime ∧
      s.config.controller ≠ 0 ∧ s.ports.b.linkUp = true) :=
  ⟨⟨sendingB (.reply .resetFull) (mark 0) { State.reset with config := { State.reset.config with controller := ctl } },
    _, rfl, rfl, by decide +kernel, rfl⟩,
   ⟨sendingB (.reply .resetRuntime) (mark 0) { State.reset with config := { State.reset.config with controller := ctl } },
    _, rfl, rfl, by decide +kernel, rfl⟩⟩

theorem witness_standby_entry :
    (∃ (s : State) (x : InTransmission), s.Settled ∧ s.ports.b.transmitting = some x ∧
      x.origin = .reply .enterStandby ∧ s.management.requests = []) ∧
    (∃ (s : State) (x : InTransmission), s.Settled ∧ s.ports.b.transmitting = some x ∧
      x.origin = .reply .enterStandby ∧ s.management.requests ≠ []) :=
  ⟨⟨sendingB (.reply .enterStandby) (mark 0) State.reset, _, by unfold State.Settled; decide +kernel, rfl, rfl, rfl⟩,
   ⟨sendingB (.reply .enterStandby) (mark 0) (queued (ask 8 []) State.reset), _, by unfold State.Settled; decide +kernel, rfl, rfl,
    by decide +kernel⟩⟩

/-! ## Witnesses: ports -/

/-- Both links DOWN. -/
def linksDown : State :=
  modPort .A (fun y => { y with linkUp := false }) (modPort .B (fun y => { y with linkUp := false }) State.reset)

theorem witness_links :
    (∃ (s : State) (p : Port), s.Settled ∧ (s.port p).transmitting = none ∧ (s.port p).linkUp = true) ∧
    (∃ (s : State) (p : Port) (x : InTransmission), s.Settled ∧ (s.port p).transmitting = some x ∧ x.origin = .control) ∧
    (∃ (s : State) (c : ControlFrame) (rest : List ControlFrame), s.Settled ∧ s.ports.a.linkUp = false ∧
      s.ports.a.transmitting = none ∧ s.ports.control = c :: rest) ∧
    (∃ s : State, s.Settled ∧ s.ports.a.linkUp = false ∧ s.ports.a.transmitting = none ∧ s.ports.control = [] ∧
      monitorFor s .A = none ∧ s.ports.forwardBA = []) ∧
    (∃ (s : State) (m : ManagementFrame) (rest : List ManagementFrame), s.Settled ∧ s.ports.b.linkUp = false ∧
      s.ports.b.transmitting = none ∧ s.ports.management = m :: rest) :=
  ⟨⟨State.reset, .A, settled_as_reset _ rfl rfl rfl, rfl, rfl⟩,
   ⟨sendingA .control (mark 0) State.reset, .A, _, by unfold State.Settled; decide +kernel, rfl, rfl⟩,
   ⟨queueTally (mark 0) linksDown, _, [], by unfold State.Settled; decide +kernel, rfl, rfl, rfl⟩,
   ⟨linksDown, by unfold State.Settled; decide +kernel, rfl, rfl, rfl, rfl, rfl⟩,
   ⟨queueReply .nothing (mark 0) linksDown, _, [], by unfold State.Settled; decide +kernel, rfl, rfl, rfl⟩⟩

theorem witness_receive_errors :
    (∃ (s : State) (p : Port) (bytes : List Byte), (s.port p).linkUp = true ∧ bytes.length + 4 < 64) ∧
    (∃ (s : State) (p : Port) (bytes : List Byte), (s.port p).linkUp = true ∧ 64 ≤ bytes.length + 4 ∧
      bytes.length + 4 ≤ 1522) :=
  ⟨⟨State.reset, .A, List.replicate 59 0, rfl, by decide +kernel⟩, ⟨State.reset, .B, List.replicate 60 0, rfl, by decide +kernel, by decide +kernel⟩⟩

theorem witness_discarded :
    (∃ (s : State) (p : Port) (f : Frame), canArrive s p f = true ∧ f.src = s.config.ownAddress) ∧
    (∃ (s : State) (p : Port) (f : Frame), arrivesAs s p f .misdirected = true ∧ s.Settled ∧ s.part.awake = true) ∧
    (∃ (s : State) (p : Port) (f : Frame), arrivesAs s p f .misdirected = true ∧ s.part.awake = false) :=
  ⟨⟨State.reset, .A, lrt dst own 3 [], by decide +kernel, rfl⟩,
   ⟨State.reset, .B, lrt own dst 3 [], by decide +kernel, settled_as_reset _ rfl rfl rfl, rfl⟩,
   ⟨{ State.reset with part := { State.reset.part with awake := false } }, .A, lrt own dst 3 [], by decide +kernel, rfl⟩⟩

/-- 64 frames wait toward port B, and as many toward port A, while both ports transmit. -/
def fullQueues : State :=
  sendingA .forwarded (mark 0) (sendingB .forwarded (mark 0) { State.reset with ports := { State.reset.ports with
    forwardAB := List.replicate 64 (mark 0), forwardBA := List.replicate 64 (mark 0) } })

theorem witness_pass_through :
    (∃ (s : State) (p : Port) (f : Frame), s.Settled ∧ arrivesAs s p f .passThrough = true ∧ s.config.role = .terminalRole) ∧
    (∃ (s : State) (f : Frame), s.Settled ∧ s.config.role = .inlineRole ∧ arrivesAs s .A f .passThrough = true ∧
      s.ports.forwardAB.length < 64 ∧ arrivesAs s .B f .passThrough = true ∧ s.ports.forwardBA.length < 64) ∧
    (∃ (s : State) (f : Frame), s.Settled ∧ s.config.role = .inlineRole ∧ arrivesAs s .A f .passThrough = true ∧
      64 ≤ s.ports.forwardAB.length ∧ arrivesAs s .B f .passThrough = true ∧ 64 ≤ s.ports.forwardBA.length) :=
  ⟨⟨{ State.reset with config := { State.reset.config with role := .terminalRole } }, .A, lrt dst ctl 3 [],
    settled_as_reset _ rfl rfl rfl, by decide +kernel, rfl⟩,
   ⟨State.reset, lrt dst ctl 3 [], settled_as_reset _ rfl rfl rfl, rfl, by decide +kernel, by decide +kernel, by decide +kernel, by decide +kernel⟩,
   ⟨fullQueues, lrt dst ctl 3 [], by unfold State.Settled; decide +kernel, rfl, by decide +kernel, by decide +kernel, by decide +kernel, by decide +kernel⟩⟩

theorem witness_forwarded :
    (∃ (s : State) (f : Frame), s.Settled ∧ s.ports.b.transmitting = some { origin := .forwarded, frame := f }) ∧
    (∃ (s : State) (f : Frame), s.Settled ∧ s.ports.a.transmitting = some { origin := .forwarded, frame := f }) :=
  ⟨⟨fullQueues, _, by unfold State.Settled; decide +kernel, rfl⟩, ⟨fullQueues, _, by unfold State.Settled; decide +kernel, rfl⟩⟩

/-! ## Witnesses: the Cadence Timebase -/

/-- The timebase in SEARCH with a candidate of mark 5 at tick 1,000. -/
def candidate (count : Nat) : State :=
  { State.reset with timebase := { State.reset.timebase with
      candidateCount := count, candidateMark := 5, candidateTime := 1000 } }

theorem markArrives_sound (s : State) (f : Frame) (h : (arrivesAs s .A f .cadenceMark && wellFormed f.body 4 && s.part.awake
    && markSource s f) = true) : MarkArrives s f := by
  simp only [Bool.and_eq_true] at h
  exact ⟨h.1.1.1, h.1.1.2, h.1.2, h.2⟩

theorem witness_search :
    (∃ (s : State) (f : Frame) (time : Tick), MarkArrives s f ∧ s.timebase.state = .search ∧ s.Settled ∧
      s.timebase.candidateCount = 1 ∧ markNumber f = s.timebase.candidateMark + 1 ∧
      s.timebase.candidateTime + 120422 = time) ∧
    (∃ (s : State) (f : Frame) (time : Tick), MarkArrives s f ∧ s.timebase.state = .search ∧ s.Settled ∧
      s.timebase.candidateCount = 1 ∧ markNumber f = s.timebase.candidateMark + 1 ∧
      s.timebase.candidateTime + 125339 = time) ∧
    (∃ (s : State) (f : Frame) (time : Tick), MarkArrives s f ∧ s.timebase.state = .search ∧
      s.timebase.candidateCount = 2 ∧ markNumber f = s.timebase.candidateMark + 1 ∧
      time = s.timebase.candidateTime + 125338) :=
  ⟨⟨candidate 1, mark 6, 121422, markArrives_sound _ _ (by decide +kernel), rfl, settled_as_reset _ rfl rfl rfl, rfl, by decide +kernel, rfl⟩,
   ⟨candidate 1, mark 6, 126339, markArrives_sound _ _ (by decide +kernel), rfl, settled_as_reset _ rfl rfl rfl, rfl, by decide +kernel, rfl⟩,
   ⟨candidate 2, mark 6, 126338, markArrives_sound _ _ (by decide +kernel), rfl, rfl, by decide +kernel, rfl⟩⟩

/-- R5: the third mark of a run, at the last tick of the spacing window, is block 1. -/
theorem test_third_mark_locks :
    (match exec (.cadenceMark (mark 6) 126338) (candidate 2) with
     | .next t => t.timebase.blockNumber == 1 && t.timebase.expected == 7
     | .fault _ => false
     | .refused _ => false) = true := by decide +kernel

theorem witness_expected_marks :
    (∃ (s : State) (f : Frame) (time l : Tick), MarkArrives s f ∧ s.timebase.last = some l ∧ s.timebase.state = .locked ∧
      markNumber f = s.timebase.expected ∧ l + 110592 = time) ∧
    (∃ (s : State) (f : Frame) (time l : Tick), MarkArrives s f ∧ s.timebase.last = some l ∧ s.Settled ∧
      s.timebase.state = .locked ∧ markNumber f = s.timebase.expected ∧ l ≤ time ∧ time + 1 = l + 110592) ∧
    (∃ (s : State) (f : Frame) (time l : Tick), MarkArrives s f ∧ s.timebase.last = some l ∧ s.Settled ∧
      s.timebase.state = .holdover ∧ markNumber f = s.timebase.expected ∧ l ≤ time ∧ time + 1 = l + 61440) ∧
    (∃ (s : State) (f : Frame) (time l : Tick), MarkArrives s f ∧ s.timebase.last = some l ∧ s.Settled ∧
      s.timebase.state = .holdover ∧ markNumber f + 1 = s.timebase.expected ∧ l ≤ time) :=
  ⟨⟨ticking .locked 1000 9 State.reset, mark 9, 111592, 1000, markArrives_sound _ _ (by decide +kernel), rfl, rfl, by decide +kernel, rfl⟩,
   ⟨ticking .locked 1000 9 State.reset, mark 9, 111591, 1000, markArrives_sound _ _ (by decide +kernel), rfl,
    settled_as_reset _ rfl rfl rfl, rfl, by decide +kernel, by decide +kernel, rfl⟩,
   ⟨ticking .holdover 1000 9 State.reset, mark 9, 62439, 1000, markArrives_sound _ _ (by decide +kernel), rfl,
    settled_as_reset _ rfl rfl rfl, rfl, by decide +kernel, by decide +kernel, rfl⟩,
   ⟨ticking .holdover 1000 9 State.reset, mark 8, 1000, 1000, markArrives_sound _ _ (by decide +kernel), rfl,
    settled_as_reset _ rfl rfl rfl, rfl, by decide +kernel, by decide +kernel⟩⟩

theorem witness_jump :
    (∃ (s : State) (f : Frame) (time l : Tick), MarkArrives s f ∧ s.timebase.last = some l ∧ s.timebase.state = .locked ∧
      markNumber f ≠ s.timebase.expected ∧ l + 110592 = time) ∧
    (∃ (s : State) (f : Frame) (time l : Tick), MarkArrives s f ∧ s.timebase.last = some l ∧
      s.timebase.state = .holdover ∧ markNumber f ≠ s.timebase.expected ∧ markNumber f + 1 ≠ s.timebase.expected ∧
      time + 1 = l + 110592 ∧ ∃ i : Fin 16, s.stations[i].state.running = true) :=
  ⟨⟨ticking .locked 1000 9 State.reset, mark 8, 111592, 1000, markArrives_sound _ _ (by decide +kernel), rfl, rfl, by decide +kernel, rfl⟩,
   ⟨ticking .holdover 1000 9 (withMic acquiring State.reset), mark 7, 111591, 1000, markArrives_sound _ _ (by decide +kernel), rfl, rfl,
    by decide +kernel, by decide +kernel, rfl, 0, by decide +kernel⟩⟩

theorem witness_relock :
    (∃ (s : State) (f : Frame) (time l : Tick), MarkArrives s f ∧ s.timebase.state = .holdover ∧ s.timebase.last = some l ∧
      markNumber f = s.timebase.expected ∧ l + 61440 = time ∧ s.timebase.consecutive < 2) ∧
    (∃ (s : State) (f : Frame) (time l : Tick), MarkArrives s f ∧ s.timebase.state = .holdover ∧ s.timebase.last = some l ∧
      markNumber f = s.timebase.expected ∧ time = l + 122880 ∧ 2 ≤ s.timebase.consecutive) :=
  ⟨⟨ticking .holdover 1000 9 State.reset, mark 9, 62440, 1000, markArrives_sound _ _ (by decide +kernel), rfl, rfl, by decide +kernel, rfl,
    by decide +kernel⟩,
   ⟨ticking .holdover 1000 9 { State.reset with timebase := { State.reset.timebase with consecutive := 2 } }, mark 9, 123880,
    1000, markArrives_sound _ _ (by decide +kernel), rfl, rfl, by decide +kernel, rfl, by decide +kernel⟩⟩

theorem witness_expiry :
    (∃ (s : State) (g : Tick), s.timebase.state = .locked ∧ s.timebase.guardTimer = some g ∧ s.assembler.next = none ∧
      s.proceeding.state = .armed) ∧
    (∃ (s : State) (g : Tick) (k : BlockNo), s.timebase.state = .holdover ∧ s.timebase.synthesisTimer = some g ∧
      s.assembler.next = some k) :=
  ⟨⟨inState .armed (ticking .locked 0 0 State.reset), _, rfl, rfl, rfl, rfl⟩,
   ⟨{ ticking .holdover 0 0 State.reset with assembler := { State.reset.assembler with next := some 0 } }, _, _, rfl, rfl, rfl⟩⟩

/-! ## Witnesses: timers and limits -/

theorem witness_silence :
    ∃ (s : State) (i : Fin 16), s.Settled ∧ s.stations[i].state.running = true ∧ 20 ≤ s.stations[i].silence :=
  ⟨withMic { acquiring with silence := 20 } State.reset, 0, settled_as_reset _ rfl rfl rfl, by decide +kernel, by decide +kernel⟩

theorem witness_refresh :
    ∃ s : State, s.Settled ∧ s.part.awake = true ∧ 200 ≤ s.tally.refresh ∧ portReady s .A = false ∧
      s.ports.control.length + 16 ≤ 64 :=
  ⟨sendingA .control (mark 0) { State.reset with tally := { State.reset.tally with refresh := 200 } },
    by unfold State.Settled; decide +kernel, rfl, by decide +kernel, rfl, by decide +kernel⟩

/-- An OPEN stream that is starved with its stall timer at the limit. -/
def stalled : StreamState := { joined with fifo := [stored], stallTimer := some 1000 }

theorem witness_stall :
    ∃ (s : State) (st : Stream) (n : Nat), s.Settled ∧ s.proceeding.state ≠ .draining ∧ (s.stream st).takesPart = true ∧
      (s.stream st).stallTimer = some n ∧ (s.stream st).entry.stallLimit * 200 ≤ n ∧ (s.stream st).stallReported = false :=
  ⟨withOpen stalled State.reset, .openS, 1000, by unfold State.Settled; decide +kernel, by decide +kernel, rfl, rfl, by decide +kernel, rfl⟩

/-- DRAINING with block 2, the last one, closed, and an OPEN stream x. -/
def drainingWith (x : StreamState) : State :=
  { withOpen x State.reset with
    proceeding := { state := .draining, id := 1, first := some 1, last := some 2 },
    assembler := { State.reset.assembler with next := some 3 } }

/-- What the stall clauses share: a due stall of the OPEN stream that has not been reported. -/
def StallDue (s : State) : Prop :=
  s.output.openS.takesPart = true ∧ s.output.openS.stallTimer = some 1000 ∧ s.output.openS.entry.stallLimit * 200 ≤ 1000 ∧
    s.output.openS.stallReported = false

theorem witness_stall_clauses :
    (∃ s : State, s.Settled ∧ StallDue s ∧ s.proceeding.state = .draining ∧ lastClosed s = false) ∧
    (∃ s : State, s.Settled ∧ StallDue s ∧ s.proceeding.state = .draining ∧ lastClosed s = true ∧
      s.output.openS.drainFailed = true) ∧
    (∃ s : State, s.Settled ∧ s.output.openS.takesPart = true ∧ s.output.openS.stallTimer = none) ∧
    (∃ s : State, s.Settled ∧ s.output.openS.stallReported = true) ∧
    (∃ s : State, s.Settled ∧ s.output.openS.stallTimer = some 999 ∧ 999 < s.output.openS.entry.stallLimit * 200) :=
  ⟨⟨{ drainingWith stalled with assembler := { State.reset.assembler with next := some 2 } },
      by unfold State.Settled; decide +kernel, by unfold StallDue; decide +kernel, rfl, by decide +kernel⟩,
   ⟨drainingWith { stalled with drainFailed := true }, by unfold State.Settled; decide +kernel,
      by unfold StallDue; decide +kernel, rfl, by decide +kernel, rfl⟩,
   ⟨withOpen joined State.reset, by unfold State.Settled; decide +kernel, rfl, rfl⟩,
   ⟨withOpen { stalled with stallReported := true } State.reset, by unfold State.Settled; decide +kernel, rfl⟩,
   ⟨withOpen { stalled with stallTimer := some 999 } State.reset, by unfold State.Settled; decide +kernel, rfl,
      by decide +kernel⟩⟩

theorem witness_drain_failure :
    (∃ (s : State) (left : List QueuedRecord), StallDue s ∧ s.proceeding.state = .draining ∧ lastClosed s = true ∧
      s.output.openS.drainFailed = false ∧ s.output.sending = none ∧ s.output.openS.fifo = [] ++ left ∧
      (left.filter (·.stored)).filterMap (fun q => q.record.series) ++ s.output.openS.stallRun.toList ≠ []) ∧
    (∃ (s : State) (x : Sending) (q : QueuedRecord) (left : List QueuedRecord), StallDue s ∧
      s.proceeding.state = .draining ∧ lastClosed s = true ∧ s.output.openS.drainFailed = false ∧
      s.output.sending = some x ∧ x.stream = .openS ∧ s.output.openS.fifo = [q] ++ left ∧
      (left.filter (·.stored)).filterMap (fun q => q.record.series) ++ s.output.openS.stallRun.toList ≠ []) :=
  ⟨⟨drainingWith stalled, [stored], by unfold StallDue; decide +kernel, rfl, by decide +kernel, rfl, rfl, rfl, by decide +kernel⟩,
   ⟨{ drainingWith { stalled with fifo := [stored, stored] } with
        output := { State.reset.output with
          openS := { stalled with fifo := [stored, stored] }, sending := some { stream := .openS, frames := [mark 0] } } },
    _, stored, [stored], by unfold StallDue; decide +kernel, rfl, by decide +kernel, rfl, rfl, rfl, rfl, by decide +kernel⟩⟩

/-- An OPEN stream that waits for its ack, its confirm timer at the limit. -/
def waitingAck : StreamState :=
  { joined with closeState := .closeSent, confirmTimer := some 400, closeFigures := some { count := 1, check := 2 } }

theorem witness_unconfirmed :
    (∃ (s : State) (st : Stream) (n : Nat), s.proceeding.state = .confirming ∧ (s.stream st).takesPart = true ∧
      (s.stream st).closeState = .closeSent ∧ (s.stream st).confirmTimer = some n ∧
      (s.stream st).entry.confirmLimit * 200 ≤ n ∧ (s.stream (otherStream st)).takesPart = false) ∧
    (∃ (s : State) (st : Stream) (n : Nat), s.proceeding.state = .confirming ∧ (s.stream st).takesPart = true ∧
      (s.stream st).closeState = .closeSent ∧ (s.stream st).confirmTimer = some n ∧
      (s.stream st).entry.confirmLimit * 200 ≤ n ∧ (s.stream (otherStream st)).takesPart = true ∧
      (s.stream (otherStream st)).closeState ≠ .completed) :=
  ⟨⟨inState .confirming (withOpen waitingAck State.reset), .openS, 400, rfl, rfl, rfl, rfl, by decide +kernel, rfl⟩,
   ⟨inState .confirming (modStream .sealedS (fun _ => joined) (withOpen waitingAck State.reset)), .openS, 400, rfl, rfl, rfl,
    rfl, by decide +kernel, rfl, by decide +kernel⟩⟩

theorem witness_line_test_end :
    ∃ (s : State) (x : LineTest), s.Settled ∧ s.engine.state = .test x ∧ s.stations[x.station].state = .test ∧
      x.duration = x.elapsed ∧ portReady s .A = false ∧ s.ports.control.length < 64 :=
  ⟨sendingA .control (mark 0) (setEngine (.test (testOf 3 3)) (withMic { Station.reset with state := .test } State.reset)), _,
    by unfold State.Settled; decide +kernel, rfl, by decide +kernel, rfl, rfl, by decide +kernel⟩

theorem witness_holdoff :
    (∃ s : State, s.Settled ∧ s.management.holdoff = true ∧ s.management.noticePending = true ∧ s.config.controller ≠ 0 ∧
      s.management.flags &&& s.config.noticeMask ≠ 0) ∧
    (∃ s : State, s.Settled ∧ s.management.holdoff = true ∧ s.management.noticePending = false) :=
  ⟨⟨{ State.reset with config := { State.reset.config with controller := ctl },
                       management := { State.reset.management with holdoff := true, noticePending := true } },
    settled_as_reset _ rfl rfl rfl, rfl, rfl, by decide +kernel, by decide +kernel⟩,
   ⟨{ State.reset with management := { State.reset.management with holdoff := true } }, settled_as_reset _ rfl rfl rfl, rfl,
    rfl⟩⟩

/-! ## Witnesses: station audio -/

theorem witness_unknown_station :
    ∃ (s : State) (f : Frame), s.Settled ∧ arrivesAs s .A f .stationAudio = true ∧
      (∀ i : Fin 16, (s.entry i).valid = true → (s.entry i).address ≠ 0 → (s.entry i).address ≠ f.src) ∧
      s.config.role = .inlineRole ∧ s.ports.forwardAB.length < 64 :=
  ⟨State.reset, audio 100 0 [], settled_as_reset _ rfl rfl rfl, by decide +kernel, by decide +kernel, rfl, by decide +kernel⟩

/-- Station 0 in ACQUIRE. -/
def listening : State := withMic acquiring State.reset

theorem witness_placed :
    ∃ (s : State) (f : Frame) (i : Fin 16), s.Settled ∧ arrivesAs s .A f .stationAudio = true ∧ s.part.awake = true ∧
      stationOf s f = some i ∧ s.stations[i].state.running = true ∧ passesChecks s i f = true ∧
      audioEventCount f.body = 0 ∧ s.timebase.history = [] ∧ s.stations[i].window = [] ∧
      s.stations[i].releasePoint = none :=
  ⟨listening, audio 100 0 [], 0, settled_as_reset _ rfl rfl rfl, by decide +kernel, rfl, by decide +kernel, by decide +kernel, by decide +kernel, by decide +kernel, rfl,
    by decide +kernel, by decide +kernel⟩

/-- Station 0 in TRACK, released up to counter 200, with a LATE count. -/
def released (late : Nat) : State :=
  withMic { Station.reset with state := .track, releasePoint := some 200, lateCount := late } State.reset

theorem witness_late :
    (∃ (s : State) (f : Frame) (i : Fin 16) (r : Counter), s.Settled ∧ arrivesAs s .A f .stationAudio = true ∧
      s.part.awake = true ∧ stationOf s f = some i ∧ s.stations[i].state.running = true ∧ passesChecks s i f = true ∧
      audioEventCount f.body = 0 ∧ s.timebase.history = [] ∧ s.stations[i].window = [] ∧
      s.stations[i].releasePoint = some r ∧ counterDiff (audioCounter f.body + 48) r = 0 ∧
      s.stations[i].lateCount + 1 ≠ (s.entry i).lateThreshold) ∧
    (∃ (s : State) (f : Frame) (i : Fin 16) (r : Counter), s.Settled ∧ arrivesAs s .A f .stationAudio = true ∧
      s.part.awake = true ∧ stationOf s f = some i ∧ s.stations[i].state.running = true ∧ passesChecks s i f = true ∧
      audioEventCount f.body = 0 ∧ s.timebase.history = [] ∧ s.stations[i].window = [] ∧
      s.stations[i].releasePoint = some r ∧ counterDiff (audioCounter f.body + 48) r = 0 ∧
      s.stations[i].lateCount + 1 = (s.entry i).lateThreshold) :=
  ⟨⟨released 0, audio 152 0 [], 0, 200, settled_as_reset _ rfl rfl rfl, by decide +kernel, rfl, by decide +kernel, by decide +kernel, by decide +kernel,
    by decide +kernel, rfl, by decide +kernel, by decide +kernel, by decide +kernel, by decide +kernel⟩,
   ⟨released 15, audio 152 0 [], 0, 200, settled_as_reset _ rfl rfl rfl, by decide +kernel, rfl, by decide +kernel, by decide +kernel, by decide +kernel,
    by decide +kernel, rfl, by decide +kernel, by decide +kernel, by decide +kernel, by decide +kernel⟩⟩

theorem witness_failed_check :
    ∃ (s : State) (f : Frame) (i : Fin 16), arrivesAs s .A f .stationAudio = true ∧ s.part.awake = true ∧
      stationOf s f = some i ∧ passesChecks s i f = false ∧ s.stations[i].state ≠ .test ∧ s.stations[i].state ≠ .absent ∧
      s.stations[i].formatCount + 1 ≠ (s.entry i).formatThreshold ∧ s.Settled :=
  ⟨listening, lrt everyone mic 1 [2], 0, by decide +kernel, rfl, by decide +kernel, by decide +kernel, by decide +kernel, by decide +kernel, by decide +kernel,
    settled_as_reset _ rfl rfl rfl⟩

/-- One event of code c at channel 0 with serial 1. -/
def event (c : Byte) : List Byte := [c, 0, 1, 0] ++ wordBytes 150

/-- Track 0 maps channel 0 of station 0, in confer group 1. -/
def grouped (s : State) : State :=
  let e : TrackEntry := { mapped := true, station := 0, channel := 0, role := .counsel1, group := 1 }
  { s with tables := { s.tables with active := { s.tables.active with tracks := s.tables.active.tracks.set 0 e } } }

/-- The premises that every clause on a button event shares. -/
def EventTaken (s : State) (f : Frame) (i : Fin 16) (e : ButtonEvent) : Prop :=
  s.Settled ∧ arrivesAs s .A f .stationAudio = true ∧ s.part.awake = true ∧ stationOf s f = some i ∧
    s.stations[i].state.running = true ∧ passesChecks s i f = true ∧ audioEvents f.body = [e] ∧
    e.channel.toNat < (s.entry i).channels ∧ s.timebase.history = [] ∧ s.stations[i].window = [] ∧
    s.stations[i].releasePoint = none ∧ s.stations[i].window.length < 2 ^ (s.entry i).windowOrder

theorem witness_button_events :
    (∃ (s : State) (f : Frame) (i : Fin 16) (e : ButtonEvent), EventTaken s f i e ∧
      isRepeat s.stations[i].newestSerial e.serial = true ∧ e.code.toNat = 8) ∧
    (∃ (s : State) (f : Frame) (i : Fin 16) (e : ButtonEvent), EventTaken s f i e ∧
      isRepeat s.stations[i].newestSerial e.serial = false ∧ e.code.toNat = 5 ∧ (s.entry i).benchAuthority = true ∧
      s.mode.stack.length < 4) ∧
    (∃ (s : State) (f : Frame) (i : Fin 16) (e : ButtonEvent), EventTaken s f i e ∧
      isRepeat s.stations[i].newestSerial e.serial = false ∧ e.code.toNat = 6 ∧ (s.entry i).benchAuthority = true ∧
      s.mode.current = .sidebar ∧ s.mode.stack = [.onRecord]) ∧
    (∃ (s : State) (f : Frame) (i : Fin 16) (e : ButtonEvent) (g : Fin 8), EventTaken s f i e ∧
      isRepeat s.stations[i].newestSerial e.serial = false ∧ e.code.toNat = 1 ∧
      toggleGroup s.tables.active i e.channel.toNat = some g ∧ s.groups[g].requested = false ∧
      s.proceeding.state = .opened ∧ s.groups[g].forced = false ∧ s.groups[g].toggles = []) :=
  ⟨⟨withMic { acquiring with newestSerial := some 1 } State.reset, audio 100 0 (event 8), 0,
    { code := 8, channel := 0, serial := 1, counter := 150 },
    ⟨settled_as_reset _ rfl rfl rfl, by decide +kernel, rfl, by decide +kernel, by decide +kernel, by decide +kernel, by decide +kernel, by decide +kernel, rfl, by decide +kernel,
      by decide +kernel, by decide +kernel⟩, by decide +kernel, by decide +kernel⟩,
   ⟨listening, audio 100 0 (event 5), 0, { code := 5, channel := 0, serial := 1, counter := 150 },
    ⟨settled_as_reset _ rfl rfl rfl, by decide +kernel, rfl, by decide +kernel, by decide +kernel, by decide +kernel, by decide +kernel, by decide +kernel, rfl, by decide +kernel,
      by decide +kernel, by decide +kernel⟩, by decide +kernel, by decide +kernel, by decide +kernel, by decide +kernel⟩,
   ⟨{ listening with mode := { current := .sidebar, stack := [.onRecord], latch := [] } }, audio 100 0 (event 6), 0,
    { code := 6, channel := 0, serial := 1, counter := 150 },
    ⟨settled_as_reset _ rfl rfl rfl, by decide +kernel, rfl, by decide +kernel, by decide +kernel, by decide +kernel, by decide +kernel, by decide +kernel, rfl, by decide +kernel,
      by decide +kernel, by decide +kernel⟩, by decide +kernel, by decide +kernel, by decide +kernel, rfl, rfl⟩,
   ⟨inState .opened (grouped listening), audio 100 0 (event 1), 0, { code := 1, channel := 0, serial := 1, counter := 150 }, 0,
    ⟨settled_as_reset _ rfl rfl rfl, by decide +kernel, rfl, by decide +kernel, by decide +kernel, by decide +kernel, by decide +kernel, by decide +kernel, rfl, by decide +kernel,
      by decide +kernel, by decide +kernel⟩, by decide +kernel, by decide +kernel, by decide +kernel, by decide +kernel, rfl, by decide +kernel, by decide +kernel⟩⟩

theorem witness_confer_intervals :
    ∃ (x : Timing) (g : ConferGroup) (e : Toggle), x.length < 2 ^ 31 ∧ (takenEntries x g).getLast? = some e ∧
      (handGroup x g).intervals = [(10, 239)] :=
  ⟨{ start := 1000, length := 240 },
   { ConferGroup.reset with toggles := [{ down := true, point := 1010, late := false },
       { down := false, point := 1239, late := false }, { down := true, point := 1240, late := false }] },
   { down := false, point := 1239, late := false }, by decide +kernel, by decide +kernel, by decide +kernel⟩

/-! ## Witnesses: credits, acks, transmissions -/

def credit (g : Nat) : Frame := lrt own dst 0x18 (byte 0 ++ byte g ++ zeros 2)

theorem witness_credit :
    (∃ (s : State) (f : Frame), s.Settled ∧ ArrivesAwake s f .credit ∧ wellFormed f.body 4 = true ∧
      fieldAt (payloadOf f.body) 0 1 = streamCode .openS ∧ s.proceeding.state = .idle) ∧
    (∃ (s : State) (f : Frame), s.Settled ∧ ArrivesAwake s f .credit ∧ wellFormed f.body 4 = true ∧
      fieldAt (payloadOf f.body) 0 1 = streamCode .openS ∧ s.proceeding.state ≠ .idle ∧
      (s.stream .openS).takesPart = false) ∧
    (∃ (s : State) (f : Frame), s.Settled ∧ ArrivesAwake s f .credit ∧ wellFormed f.body 4 = true ∧
      fieldAt (payloadOf f.body) 0 1 = streamCode .openS ∧ fieldAt (payloadOf f.body) 1 1 = 255 ∧
      s.proceeding.state ≠ .idle ∧ (s.stream .openS).takesPart = true ∧ f.src = (s.stream .openS).entry.destination ∧
      (s.stream .openS).fifo = []) ∧
    (∃ (s : State) (f : Frame), s.Settled ∧ ArrivesAwake s f .credit ∧ wellFormed f.body 4 = true ∧
      fieldAt (payloadOf f.body) 0 1 = streamCode .openS ∧ fieldAt (payloadOf f.body) 1 1 = 0 ∧
      s.proceeding.state ≠ .idle ∧ (s.stream .openS).takesPart = true ∧ f.src = (s.stream .openS).entry.destination) :=
  ⟨⟨State.reset, credit 1, settled_as_reset _ rfl rfl rfl, ⟨by decide +kernel, rfl⟩, by decide +kernel, by decide +kernel, rfl⟩,
   ⟨inState .armed State.reset, credit 1, settled_as_reset _ rfl rfl rfl, ⟨by decide +kernel, rfl⟩, by decide +kernel, by decide +kernel, by decide +kernel, rfl⟩,
   ⟨inState .armed (withOpen joined State.reset), credit 255, by unfold State.Settled; decide +kernel, ⟨by decide +kernel, rfl⟩, by decide +kernel,
    by decide +kernel, by decide +kernel, by decide +kernel, rfl, rfl, rfl⟩,
   ⟨inState .armed (withOpen joined State.reset), credit 0, by unfold State.Settled; decide +kernel, ⟨by decide +kernel, rfl⟩, by decide +kernel,
    by decide +kernel, by decide +kernel, by decide +kernel, rfl, rfl⟩⟩

theorem witness_grant :
    ∃ (s : State) (f : Frame) (st : Stream) (q : QueuedRecord) (rest : List QueuedRecord) (c : BitVec 32),
      s.Settled ∧ ArrivesAwake s f .credit ∧ wellFormed f.body 4 = true ∧
      fieldAt (payloadOf f.body) 0 1 = streamCode st ∧ fieldAt (payloadOf f.body) 1 1 = 1 ∧ s.proceeding.state ≠ .idle ∧
      (s.stream st).takesPart = true ∧ f.src = (s.stream st).entry.destination ∧ s.output.sending = none ∧
      (s.stream st).fifo = q :: rest ∧ q.stored = true ∧ (s.stream st).credit = 0 ∧ q.record.check = some c :=
  ⟨inState .opened (withOpen { joined with fifo := [stored] } State.reset), credit 1, .openS, stored, [], _,
    by unfold State.Settled; decide +kernel, ⟨by decide +kernel, rfl⟩, by decide +kernel, by decide +kernel, by decide +kernel, by decide +kernel, rfl, rfl, rfl, rfl, rfl, rfl,
    rfl⟩

/-- An ack of the OPEN stream for proceeding 0. -/
def ack (count check : BitVec 32) : Frame :=
  lrt own dst 0x19 (zeros 4 ++ zeros 8 ++ wordBytes count ++ wordBytes check)

theorem witness_close_ack :
    (∃ (s : State) (f : Frame) (st : Stream) (sent : CloseFigures), ArrivesAwake s f .closeAck ∧
      wellFormed f.body 20 = true ∧ fieldAt (payloadOf f.body) 0 1 = streamCode st ∧ s.proceeding.state = .confirming ∧
      (s.stream st).takesPart = true ∧ (s.stream st).closeState = .closeSent ∧
      f.src = (s.stream st).entry.destination ∧
      BitVec.ofNat 64 (fieldAt (payloadOf f.body) 4 8) = s.proceeding.id ∧ (s.stream st).closeFigures = some sent ∧
      wordAt (payloadOf f.body) 12 = sent.count ∧ wordAt (payloadOf f.body) 16 = sent.check) ∧
    (∃ (s : State) (f : Frame) (st : Stream) (sent : CloseFigures), ArrivesAwake s f .closeAck ∧
      wellFormed f.body 20 = true ∧ fieldAt (payloadOf f.body) 0 1 = streamCode st ∧ s.proceeding.state = .confirming ∧
      (s.stream st).takesPart = true ∧ (s.stream st).closeState = .closeSent ∧
      f.src = (s.stream st).entry.destination ∧
      BitVec.ofNat 64 (fieldAt (payloadOf f.body) 4 8) = s.proceeding.id ∧ (s.stream st).closeFigures = some sent ∧
      wordAt (payloadOf f.body) 16 ≠ sent.check) :=
  ⟨⟨inState .confirming (withOpen waitingAck State.reset), ack 1 2, .openS, { count := 1, check := 2 }, ⟨by decide +kernel, rfl⟩,
    by decide +kernel, by decide +kernel, rfl, rfl, rfl, rfl, by decide +kernel, rfl, by decide +kernel, by decide +kernel⟩,
   ⟨inState .confirming (withOpen waitingAck State.reset), ack 1 3, .openS, { count := 1, check := 2 }, ⟨by decide +kernel, rfl⟩,
    by decide +kernel, by decide +kernel, rfl, rfl, rfl, rfl, by decide +kernel, rfl, by decide +kernel⟩⟩

/-- A stored record of the OPEN stream in transmission, with the frames still to come. -/
def leaving (l : List Frame) : State :=
  inState .opened (sendingB .record (mark 0) { State.reset with output :=
    { State.reset.output with openS := { joined with fifo := [stored] }, sending := some { stream := .openS, frames := mark 0 :: l } } })

theorem witness_record_leaves :
    (∃ (s : State) (f : Frame) (st : Stream) (q : QueuedRecord) (rest : List QueuedRecord),
      s.ports.b.transmitting = some { origin := .record, frame := f } ∧
      s.output.sending = some { stream := st, frames := [f] } ∧ (s.stream st).fifo = q :: rest ∧ q.stored = true ∧
      q.record ≠ .close ∧ s.proceeding.state = .opened) ∧
    (∃ (s : State) (f g : Frame) (st : Stream) (q : QueuedRecord) (rest : List QueuedRecord),
      s.ports.b.transmitting = some { origin := .record, frame := f } ∧
      s.output.sending = some { stream := st, frames := [f, g] } ∧ (s.stream st).fifo = q :: rest ∧ q.stored = true ∧
      q.record ≠ .close ∧ s.proceeding.state = .opened) :=
  ⟨⟨leaving [], mark 0, .openS, stored, [], rfl, rfl, rfl, rfl, by decide +kernel, rfl⟩,
   ⟨leaving [mark 1], mark 0, mark 1, .openS, stored, [], rfl, rfl, rfl, rfl, by decide +kernel, rfl⟩⟩

/-! ## Witnesses: requests -/

def reqFrame (src : Mac) : Frame := lrt own src 0x20 ([0, 7] ++ byte 8 ++ [0])

/-- The Controller Address is `ctl`. -/
def controlled (s : State) : State := { s with config := { s.config with controller := ctl } }

theorem witness_request_arrives :
    (∃ (s : State) (f : Frame), s.Settled ∧ ArrivesAwake s f .request ∧ f.src = s.config.controller ∧
      s.management.requests.length = 3) ∧
    (∃ (s : State) (f : Frame), s.Settled ∧ ArrivesAwake s f .request ∧ f.src = s.config.controller ∧
      s.management.requests.length = 4 ∧ repliesWaiting s < 7) ∧
    (∃ (s : State) (f : Frame), s.Settled ∧ ArrivesAwake s f .request ∧ f.src = s.config.controller ∧
      s.management.requests.length = 4 ∧ repliesWaiting s = 7) ∧
    (∃ (s : State) (f : Frame), s.Settled ∧ ArrivesAwake s f .request ∧ s.config.controller ≠ 0 ∧
      f.src ≠ s.config.controller) :=
  ⟨⟨controlled { State.reset with management := { State.reset.management with requests := List.replicate 3 (ask 8 []) } },
    reqFrame ctl, settled_as_reset _ rfl rfl rfl, ⟨by decide +kernel, rfl⟩, rfl, rfl⟩,
   ⟨controlled { State.reset with management := { State.reset.management with requests := List.replicate 4 (ask 8 []) } },
    reqFrame ctl, settled_as_reset _ rfl rfl rfl, ⟨by decide +kernel, rfl⟩, rfl, rfl, by decide +kernel⟩,
   ⟨controlled (sendingB .notice (mark 0) { State.reset with
      management := { State.reset.management with requests := List.replicate 4 (ask 8 []) },
      ports := { State.reset.ports with
        management := List.replicate 7 { notice := false, after := .nothing, frame := mark 0 } } }),
    reqFrame ctl, by unfold State.Settled; decide +kernel, ⟨by decide +kernel, rfl⟩, rfl, rfl, by decide +kernel⟩,
   ⟨controlled State.reset, reqFrame dst, settled_as_reset _ rfl rfl rfl, ⟨by decide +kernel, rfl⟩, by decide +kernel, by decide +kernel⟩⟩

/-- A request is at the head, alone, in a settled state. -/
def Asked (k : RequestKind) (r : Request) (s : State) : Prop := s.Settled ∧ Serving s k r []

theorem asked (k : RequestKind) (r : Request) (s : State) (hp : s.ports = State.reset.ports)
    (ho : s.output = State.reset.output) (he : s.engine = State.reset.engine) (hk : requestKind r.body = k)
    (hm : mayServe (queued r s) = true) : Asked k r (queued r s) :=
  ⟨settled_as_reset _ hp ho he, rfl, hk, hm⟩

theorem witness_unknown_and_refused :
    Asked .unknownRequest (ask 0x55 []) (queued (ask 0x55 []) State.reset) ∧
    (Asked .writeEntries (ask 2 ([7, 0, 1, 0] ++ zeros 28)) (queued (ask 2 ([7, 0, 1, 0] ++ zeros 28)) State.reset) ∧
      fieldAt (ask 2 ([7, 0, 1, 0] ++ zeros 28)).payload 4 1 < 8) ∧
    (Asked .writeEntries (ask 2 [8, 0, 1, 0]) (queued (ask 2 [8, 0, 1, 0]) State.reset) ∧
      8 ≤ fieldAt (ask 2 [8, 0, 1, 0]).payload 4 1) :=
  ⟨asked _ _ _ rfl rfl rfl (by decide +kernel) (by decide +kernel),
   ⟨asked _ _ _ rfl rfl rfl (by decide +kernel) (by decide +kernel), by decide +kernel⟩,
   ⟨asked _ _ _ rfl rfl rfl (by decide +kernel) (by decide +kernel), by decide +kernel⟩⟩

theorem witness_reads :
    (∃ (s : State) (r : Request), Asked .readEntries r s ∧ isYesNo (byteAt r.payload 7) = true ∧ fieldAt r.payload 4 1 = 8) ∧
    (∃ (s : State) (r : Request), Asked .readEntries r s ∧ isYesNo (byteAt r.payload 7) = true ∧ fieldAt r.payload 4 1 = 3) ∧
    (∃ (s : State) (r : Request), Asked .readEntries r s ∧ isYesNo (byteAt r.payload 7) = true ∧
      tableOf (fieldAt r.payload 4 1) = some .station ∧ fieldAt r.payload 5 1 + fieldAt r.payload 6 1 = 17) ∧
    (∃ (s : State) (r : Request), Asked .readEntries r s ∧ isYesNo (byteAt r.payload 7) = true ∧
      tableOf (fieldAt r.payload 4 1) = some .station ∧ fieldAt r.payload 5 1 + fieldAt r.payload 6 1 = 16) ∧
    (∃ (s : State) (r : Request), Asked .readStationStatus r s ∧ isYesNo (byteAt r.payload 7) = true ∧
      0 < fieldAt r.payload 6 1 ∧ fieldAt r.payload 5 1 + fieldAt r.payload 6 1 = 16) :=
  ⟨⟨_, ask 1 [8, 0, 1, 0], asked _ _ State.reset rfl rfl rfl (by decide +kernel) (by decide +kernel), by decide +kernel, by decide +kernel⟩,
   ⟨_, ask 1 [3, 0, 1, 0], asked _ _ State.reset rfl rfl rfl (by decide +kernel) (by decide +kernel), by decide +kernel, by decide +kernel⟩,
   ⟨_, ask 1 [0, 15, 2, 0], asked _ _ State.reset rfl rfl rfl (by decide +kernel) (by decide +kernel), by decide +kernel, by decide +kernel, by decide +kernel⟩,
   ⟨_, ask 1 [0, 15, 1, 1], asked _ _ State.reset rfl rfl rfl (by decide +kernel) (by decide +kernel), by decide +kernel, by decide +kernel, by decide +kernel⟩,
   ⟨_, ask 1 [6, 0, 16, 0], asked _ _ State.reset rfl rfl rfl (by decide +kernel) (by decide +kernel), by decide +kernel, by decide +kernel, by decide +kernel⟩⟩

def writeStation : Request := ask 2 ([0, 15, 1, 0] ++ StationEntry.reset.bytes)
def writeTrack : Request := ask 2 ([1, 47, 1, 0] ++ TrackEntry.reset.bytes)
def writeRow : Request := ask 2 ([2, 5, 1, 0] ++ zeros 8)

/-- A table write accepted, as a check. -/
def accepted (w : TableWrite) : Bool :=
  match w with
  | .ok _ => true
  | .error _ => false

theorem accepted_ok (w : TableWrite) (h : accepted w = true) : ∃ u, w = .ok u := by
  cases w with
  | ok u => exact ⟨u, rfl⟩
  | error e => cases h

theorem witness_table_writes :
    (∀ p ∈ [ProceedingState.idle, .opened],
      Asked .writeStation writeStation (queued writeStation (inState p State.reset)) ∧
      Asked .writeTrackMap writeTrack (queued writeTrack (inState p State.reset)) ∧
      Asked .writeDisposition writeRow (queued writeRow (inState p State.reset))) ∧
    (∃ u, stationWrite State.reset.tables.active 15 1 writeStation.payload = .ok u) ∧
    (∃ u, trackWrite State.reset.tables.active 47 1 writeTrack.payload = .ok u) ∧
    (∃ u, dispositionWrite State.reset.tables.active 5 1 writeRow.payload = .ok u) :=
  ⟨fun p _ => ⟨asked _ _ _ rfl rfl rfl (by decide +kernel) rfl, asked _ _ _ rfl rfl rfl (by decide +kernel) rfl,
      asked _ _ _ rfl rfl rfl (by decide +kernel) rfl⟩,
   accepted_ok _ (by decide +kernel), accepted_ok _ (by decide +kernel), accepted_ok _ (by decide +kernel)⟩

theorem witness_override_write :
    (∃ (s : State) (r : Request), Asked .writeTallyOverride r s ∧ fieldAt r.payload 5 1 + fieldAt r.payload 6 1 = 48 ∧
      overrideOf (fieldAt r.payload 8 1) = some (some .flash)) ∧
    (∃ (s : State) (r : Request), Asked .writeTallyOverride r s ∧ fieldAt r.payload 6 1 = 1 ∧
      overrideOf (fieldAt r.payload 8 1) = none) :=
  ⟨⟨_, ask 2 [3, 47, 1, 0, 3], asked _ _ State.reset rfl rfl rfl (by decide +kernel) (by decide +kernel), by decide +kernel, by decide +kernel⟩,
   ⟨_, ask 2 [3, 0, 1, 0, 4], asked _ _ State.reset rfl rfl rfl (by decide +kernel) (by decide +kernel), by decide +kernel, by decide +kernel⟩⟩

/-- A write of the SEALED stream's entry, with limits out of range. -/
def writeStream : Request := ask 2 ([4, 1, 1, 0] ++ ([1, 1] ++ macBytes dst ++ [9, 0, 255, 0]))

theorem witness_stream_write :
    (∃ s : State, Asked .writeStream writeStream s ∧ s.proceeding.state ≠ .idle) ∧
    (∃ (s : State) (e : StreamEntry), Asked .writeStream writeStream s ∧ s.proceeding.state = .idle ∧
      streamCode .sealedS = fieldAt writeStream.payload 5 1 ∧ fieldAt writeStream.payload 6 1 = 1 ∧
      readStream ((writeStream.payload.drop 8).take 12) = some e) :=
  ⟨⟨_, asked _ _ (inState .opened State.reset) rfl rfl rfl (by decide +kernel) (by decide +kernel), by decide +kernel⟩,
   ⟨_, { enabled := true, destination := dst, initialCredit := 9, stallLimit := 1, confirmLimit := 10, ackRequired := true },
    asked _ _ State.reset rfl rfl rfl (by decide +kernel) (by decide +kernel), rfl, by decide +kernel, by decide +kernel, by decide +kernel⟩⟩

/-- A write of the Device Configuration with a role code. -/
def writeConfig (role : Byte) : Request :=
  ask 2 ([5, 0, 1, 0] ++ (zeros 12 ++ [0x88, 0xB6, role, 9] ++ zeros 8 ++ [0, 0, 0, 1]))

theorem witness_config_write :
    ∀ role ∈ [(0 : Byte), 1], ∃ (s : State) (c : DeviceConfig), Asked .writeDeviceConfig (writeConfig role) s ∧
      fieldAt (writeConfig role).payload 5 1 = 0 ∧ fieldAt (writeConfig role).payload 6 1 = 1 ∧
      readDeviceConfig s.config (((writeConfig role).payload.drop 8).take 28) = some c ∧ c.closeDelay = 8 := by
  intro role h
  simp only [List.mem_cons, List.not_mem_nil, or_false] at h
  rcases h with rfl | rfl
  · exact ⟨_, { State.reset.config with closeDelay := 8, noticeMask := 1 },
      asked _ _ State.reset rfl rfl rfl (by decide +kernel) (by decide +kernel), by decide +kernel, by decide +kernel, by decide +kernel, rfl⟩
  · exact ⟨_, { State.reset.config with role := .terminalRole, closeDelay := 8, noticeMask := 1 },
      asked _ _ State.reset rfl rfl rfl (by decide +kernel) (by decide +kernel), by decide +kernel, by decide +kernel, by decide +kernel, rfl⟩

/-- A state with a Mode Stack. -/
def stacked (l : List CourtMode) : State := { State.reset with mode := { current := .recess, stack := l, latch := [] } }

theorem witness_modes :
    (∃ (s : State) (r : Request), Asked .setMode r s ∧ courtModeOf (fieldAt r.payload 4 1) = some .recess) ∧
    (∃ (s : State) (r : Request), Asked .setMode r s ∧ fieldAt r.payload 4 1 = 5) ∧
    (∃ (s : State) (r : Request), Asked .pushMode r s ∧ courtModeOf (fieldAt r.payload 4 1) = some .sidebar ∧
      s.mode.stack.length = 3) ∧
    (∃ (s : State) (r : Request), Asked .pushMode r s ∧ courtModeOf (fieldAt r.payload 4 1) = some .sidebar ∧
      s.mode.stack.length = 4) ∧
    (∃ (s : State) (r : Request), Asked .pushMode r s ∧ fieldAt r.payload 4 1 = 5) ∧
    (∃ (s : State) (r : Request), Asked .popMode r s ∧ s.mode.stack = [] ++ [.onRecord]) ∧
    (∃ (s : State) (r : Request), Asked .popMode r s ∧ s.mode.stack = []) :=
  ⟨⟨_, ask 3 [4, 0, 0, 0], asked _ _ State.reset rfl rfl rfl (by decide +kernel) (by decide +kernel), by decide +kernel⟩,
   ⟨_, ask 3 [5, 0, 0, 0], asked _ _ State.reset rfl rfl rfl (by decide +kernel) (by decide +kernel), by decide +kernel⟩,
   ⟨_, ask 4 [2, 0, 0, 0], asked _ _ (stacked [.recess, .recess, .onRecord]) rfl rfl rfl (by decide +kernel) (by decide +kernel), by decide +kernel, rfl⟩,
   ⟨_, ask 4 [2, 0, 0, 0], asked _ _ (stacked [.recess, .recess, .onRecord, .sidebar]) rfl rfl rfl (by decide +kernel) (by decide +kernel),
    by decide +kernel, rfl⟩,
   ⟨_, ask 4 [5, 0, 0, 0], asked _ _ State.reset rfl rfl rfl (by decide +kernel) (by decide +kernel), by decide +kernel⟩,
   ⟨_, ask 5 [], asked _ _ (stacked [.onRecord]) rfl rfl rfl (by decide +kernel) (by decide +kernel), rfl⟩,
   ⟨_, ask 5 [], asked _ _ (stacked []) rfl rfl rfl (by decide +kernel) (by decide +kernel), rfl⟩⟩

def openRequest : Request := ask 6 (zeros 7 ++ [9])

theorem witness_open :
    (∃ s : State, Asked .openProceeding openRequest s ∧ s.proceeding.state ≠ .idle) ∧
    (∃ s : State, Asked .openProceeding openRequest s ∧ s.timebase.state = .search) ∧
    (∃ s : State, s.Settled ∧ Serving s .openProceeding openRequest [] ∧ s.proceeding.state = .idle ∧
      s.timebase.state ≠ .search ∧ s.output.openS.entry.enabled = true ∧ s.output.sealedS.entry.enabled = false ∧
      ∀ st, (s.stream st).fifo = []) :=
  ⟨⟨_, asked _ _ (inState .armed State.reset) rfl rfl rfl (by decide +kernel) (by decide +kernel), by decide +kernel⟩,
   ⟨_, asked _ _ State.reset rfl rfl rfl (by decide +kernel) (by decide +kernel), rfl⟩,
   ⟨queued openRequest (ticking .locked 0 0 (withOpen { joined with takesPart := false } State.reset)),
    by unfold State.Settled; decide +kernel, ⟨rfl, by decide +kernel, by decide +kernel⟩, rfl, by decide +kernel, rfl, rfl, fun st => by cases st <;> rfl⟩⟩

theorem witness_close :
    ∀ p ∈ [ProceedingState.armed, .opened, .idle, .draining, .confirming],
      Asked .closeProceeding (ask 7 []) (queued (ask 7 []) (inState p State.reset)) :=
  fun _ _ => asked _ _ _ rfl rfl rfl (by decide +kernel) rfl

theorem witness_queries :
    Asked .queryStatus (ask 8 []) (queued (ask 8 []) State.reset) ∧
    Asked .readFaults (ask 9 []) (queued (ask 9 []) State.reset) ∧
    (∀ b ∈ [(63 : Byte), 64], Asked .clearFaults (ask 10 [b, 0, 0, 0]) (queued (ask 10 [b, 0, 0, 0]) State.reset)) ∧
    (∀ b ∈ [(15 : Byte), 16, 255], Asked .clearCounters (ask 11 [b, 0, 0, 0]) (queued (ask 11 [b, 0, 0, 0]) State.reset)) := by
  refine ⟨asked _ _ _ rfl rfl rfl (by decide +kernel) (by decide +kernel), asked _ _ _ rfl rfl rfl (by decide +kernel) (by decide +kernel), ?_, ?_⟩ <;>
  · intro b h
    simp only [List.mem_cons, List.not_mem_nil, or_false] at h
    rcases h with rfl | rfl | rfl <;> exact asked _ _ _ rfl rfl rfl (by decide +kernel) (by decide +kernel)

/-- An ATTACH_TAP of the last track to port B. -/
def attach : Request := ask 12 ([47, 1, 1, 0] ++ macBytes dst ++ zeros 2)

def tapped : Tap := { track := 47, includeSealed := true, port := .B, destination := dst }

theorem witness_taps :
    (∃ s : State, Asked .attachTap attach s ∧ readTap attach.payload = some tapped ∧ s.engine.state = .idle) ∧
    (∃ (s : State) (y : LineTest), s.Settled ∧ Serving s .attachTap attach [] ∧ readTap attach.payload = some tapped ∧
      s.engine.state = .test y) ∧
    (∃ (s : State) (r : Request), Asked .attachTap r s ∧ readTap r.payload = none) ∧
    (∃ (s : State) (r : Request), Asked .detach r s ∧ s.engine.state = .idle) ∧
    (∃ (s : State) (r : Request) (y : Tap), s.Settled ∧ Serving s .detach r [] ∧ s.engine.state = .tap y) ∧
    (∃ (s : State) (r : Request) (y : LineTest), s.Settled ∧ Serving s .detach r [] ∧ s.engine.state = .test y) :=
  ⟨⟨_, asked _ _ State.reset rfl rfl rfl (by decide +kernel) (by decide +kernel), by decide +kernel, rfl⟩,
   ⟨queued attach (setEngine (.test (testOf 3 0)) State.reset), _, by unfold State.Settled; decide +kernel,
    ⟨rfl, by decide +kernel, by decide +kernel⟩, by decide +kernel, rfl⟩,
   ⟨_, ask 12 ([48, 1, 1, 0] ++ macBytes dst ++ zeros 2), asked _ _ State.reset rfl rfl rfl (by decide +kernel) (by decide +kernel), by decide +kernel⟩,
   ⟨_, ask 13 [], asked _ _ State.reset rfl rfl rfl (by decide +kernel) (by decide +kernel), rfl⟩,
   ⟨queued (ask 13 []) (setEngine (.tap tapped) State.reset), ask 13 [], _, by unfold State.Settled; decide +kernel,
    ⟨rfl, by decide +kernel, by decide +kernel⟩, rfl⟩,
   ⟨queued (ask 13 []) (setEngine (.test (testOf 3 0)) State.reset), ask 13 [], _, by unfold State.Settled; decide +kernel,
    ⟨rfl, by decide +kernel, by decide +kernel⟩, rfl⟩⟩

/-- A LINE_TEST of a station with a duration. -/
def lineTest (i : Nat) (d : Nat) : Request := ask 14 (byte i ++ [0] ++ half d)

theorem witness_line_tests :
    (∃ s : State, Asked .lineTest (lineTest 16 1) s ∧ 16 ≤ fieldAt (lineTest 16 1).payload 4 1) ∧
    (∃ s : State, Asked .lineTest (lineTest 0 12001) s ∧ 12000 < fieldAt (lineTest 0 12001).payload 6 2) ∧
    (∃ s : State, Asked .lineTest (lineTest 0 12000) s ∧ fieldAt (lineTest 0 12000).payload 6 2 = 12000 ∧
      s.stations[(0 : Fin 16)].state = .disabled) ∧
    (∃ s : State, Asked .lineTest (lineTest 0 1) s ∧ fieldAt (lineTest 0 1).payload 6 2 = 1 ∧
      (∀ y, s.engine.state ≠ .test y) ∧ s.stations[(0 : Fin 16)].state ≠ .disabled ∧ s.proceeding.state = .idle) :=
  ⟨⟨_, asked _ _ State.reset rfl rfl rfl (by decide +kernel) (by decide +kernel), by decide +kernel⟩,
   ⟨_, asked _ _ State.reset rfl rfl rfl (by decide +kernel) (by decide +kernel), by decide +kernel⟩,
   ⟨_, asked _ _ State.reset rfl rfl rfl (by decide +kernel) (by decide +kernel), by decide +kernel, by decide +kernel⟩,
   ⟨_, asked _ _ listening rfl rfl rfl (by decide +kernel) (by decide +kernel), by decide +kernel, fun y h => (by cases h), by decide +kernel, rfl⟩⟩

/-- A SET_RECORD_TIME. -/
def setTime (bytes : List Byte) : Request := ask 15 (bytes ++ zeros 3)

theorem witness_set_time :
    (∃ (s : State) (r : Request), Asked .setRecordTime r s ∧ s.proceeding.state ≠ .idle) ∧
    (∃ (s : State) (r : Request), Asked .setRecordTime r s ∧ s.proceeding.state = .idle ∧
      recordTimeOf ((r.payload.drop 4).take 5) = none) ∧
    (∃ (s : State) (r : Request) (x : RecordTime), Asked .setRecordTime r s ∧ s.proceeding.state = .idle ∧ x.legal ∧
      (r.payload.drop 4).take 5 = x.bytes) :=
  ⟨⟨_, setTime (zeros 5), asked _ _ (inState .armed State.reset) rfl rfl rfl (by decide +kernel) (by decide +kernel), by decide +kernel⟩,
   ⟨_, setTime [0, 0x60, 0, 0, 0], asked _ _ State.reset rfl rfl rfl (by decide +kernel) (by decide +kernel), rfl, by decide +kernel⟩,
   ⟨_, setTime [0x99, 0x59, 0x59, 0x99, 1], RecordTime.mk 99 59 59 99 true,
    asked _ _ State.reset rfl rfl rfl (by decide +kernel) (by decide +kernel), rfl, by unfold RecordTime.legal; decide +kernel, by decide +kernel⟩⟩

theorem witness_standby_and_soft_reset :
    (∃ s : State, Asked .standby (ask 16 []) s ∧ s.proceeding.state ≠ .idle) ∧
    (∃ s : State, Asked .standby (ask 16 []) s ∧ s.proceeding.state = .idle ∧ s.engine.state = .idle ∧
      s.management.flags ≠ 0) ∧
    (∃ s : State, Asked .standby (ask 16 []) s ∧ s.proceeding.state = .idle ∧ s.engine.state = .idle ∧
      s.management.flags = 0) ∧
    (∀ b ∈ [(0 : Byte), 1, 2, 3], Asked .softReset (ask 17 [b, 0, 0, 0]) (queued (ask 17 [b, 0, 0, 0]) State.reset)) := by
  refine ⟨⟨_, asked _ _ (inState .armed State.reset) rfl rfl rfl (by decide +kernel) (by decide +kernel), by decide +kernel⟩,
   ⟨_, asked _ _ State.reset rfl rfl rfl (by decide +kernel) (by decide +kernel), rfl, rfl, by decide +kernel⟩,
   ⟨_, asked _ _ { State.reset with management := { State.reset.management with flags := 0 } } rfl rfl rfl (by decide +kernel)
    (by decide +kernel), rfl, rfl, rfl⟩, ?_⟩
  intro b h
  simp only [List.mem_cons, List.not_mem_nil, or_false] at h
  rcases h with rfl | rfl | rfl | rfl <;> exact asked _ _ _ rfl rfl rfl (by decide +kernel) (by decide +kernel)

theorem witness_set_controller :
    (∃ (s : State) (r : Request), Asked .setController r s ∧ (macAt r.payload 4).getLsbD 40 = true) ∧
    (∃ (s : State) (r : Request), Asked .setController r s ∧ (macAt r.payload 4).getLsbD 40 = false) :=
  ⟨⟨_, ask 18 ([1, 0, 0, 0, 0, 0] ++ zeros 2), asked _ _ State.reset rfl rfl rfl (by decide +kernel) (by decide +kernel), by decide +kernel⟩,
   ⟨_, ask 18 ([2, 0, 0, 0, 0, 0] ++ zeros 2), asked _ _ State.reset rfl rfl rfl (by decide +kernel) (by decide +kernel), by decide +kernel⟩⟩

/-! ## Witnesses: block close and record time -/

/-- A track entry of a block that is WITHHELD throughout. -/
def withheldBuild : TrackBuild :=
  { track := 0, station := 0, channel := 0, role := .bench, group := 0, cause := .none, disposition := .withheldD,
    cells := [lostCell], folded := false }

/-- The OPEN stream takes part, with a WITHHELD run held. -/
def holding (run : Option RunRegister) : State :=
  { withOpen joined State.reset with assembler := { State.reset.assembler with run := run } }

theorem witness_withheld_runs :
    (∃ (s : State) (k : BlockNo) (m : CourtMode) (l : List TrackBuild), s.output.openS.takesPart = true ∧
      qualifies s k l = false ∧ s.assembler.run ≠ none ∧ latchedMode s k = m) ∧
    (∃ (s : State) (k : BlockNo) (l : List TrackBuild), qualifies s k l = true ∧ s.assembler.run = none) ∧
    (∃ (s : State) (k : BlockNo) (m : CourtMode) (l : List TrackBuild) (x : RunRegister), qualifies s k l = true ∧
      s.assembler.run = some x ∧ x.mode ≠ m) ∧
    (∃ (s : State) (k : BlockNo) (m : CourtMode) (l : List TrackBuild) (x : RunRegister), qualifies s k l = true ∧
      s.assembler.run = some x ∧ x.mode = m ∧ x.mapGeneration = s.tables.mapGeneration ∧
      (k - x.first).toNat + 1 = 11999) ∧
    (∃ (s : State) (k : BlockNo) (m : CourtMode) (l : List TrackBuild) (x : RunRegister), qualifies s k l = true ∧
      s.assembler.run = some x ∧ x.mode = m ∧ x.mapGeneration = s.tables.mapGeneration ∧
      (k - x.first).toNat + 1 = 12000) :=
  ⟨⟨holding (some someRun), 3, _, [], rfl, by decide +kernel, by decide +kernel, rfl⟩,
   ⟨holding none, 3, [withheldBuild], by decide +kernel, rfl⟩,
   ⟨holding (some someRun), 3, .offRecord, [withheldBuild], someRun, by decide +kernel, rfl, by decide +kernel⟩,
   ⟨holding (some someRun), 11999, .recess, [withheldBuild], someRun, by decide +kernel, rfl, rfl, rfl, by decide +kernel⟩,
   ⟨holding (some someRun), 12000, .recess, [withheldBuild], someRun, by decide +kernel, rfl, rfl, rfl, by decide +kernel⟩⟩

/-- Block 3 is latched in a mode, at a record time. -/
def latchedAt (m : CourtMode) (t : RecordTime) : State :=
  { State.reset with mode := { State.reset.mode with latch := [{ block := 3, mode := m }] },
                     timebase := { State.reset.timebase with recordTime := t } }

theorem witness_record_time_modes :
    (∃ (s : State) (k : BlockNo), latchedMode s k = .recess) ∧
    (∃ (s : State) (k : BlockNo) (u : RecordTime), latchedMode s k = .sidebar ∧ s.timebase.recordTime.advance = some u) ∧
    (∃ (s : State) (k : BlockNo), latchedMode s k = .closedHearing ∧ s.timebase.recordTime.advance = none ∧
      s.timebase.recordTimeFull = false) :=
  ⟨⟨latchedAt .recess RecordTime.zero, 3, by decide +kernel⟩,
   ⟨latchedAt .sidebar RecordTime.zero, 3, RecordTime.mk 0 0 0 0 true, by decide +kernel, by decide +kernel⟩,
   ⟨latchedAt .closedHearing (RecordTime.mk 99 59 59 99 true), 3, by decide +kernel, by decide +kernel, rfl⟩⟩

/-- A boundary at which block −2 closes, the proceeding in OPEN, block −2 being its first, and the tables staged or not. -/
def closing (staged : Bool) : State :=
  { ticking .locked 0 0 (withOpen joined State.reset) with
    proceeding := { state := .opened, id := 1, first := some (-2), last := none }
    tables := { State.reset.tables with staged := staged }
    assembler := { State.reset.assembler with next := some (-2) } }

theorem witness_closes :
    (∃ (s : State) (g : Tick) (k : BlockNo), s.timebase.state = .locked ∧ s.timebase.guardTimer = some g ∧
      s.assembler.next = some k ∧ (s.assembler.closeDelay : Int) + 1 = counterDiff (s.timebase.blockNumber + 1) k ∧
      s.tables.staged = true) ∧
    (∃ (s : State) (g : Tick) (k : BlockNo), s.timebase.state = .locked ∧ s.timebase.guardTimer = some g ∧
      s.assembler.next = some k ∧ counterDiff (s.timebase.blockNumber + 1) k = (s.assembler.closeDelay : Int) ∧
      s.tables.staged = true) ∧
    (∃ (s : State) (g : Tick) (k : BlockNo), s.timebase.state = .locked ∧ s.timebase.guardTimer = some g ∧
      s.assembler.next = some k ∧ counterDiff (s.timebase.blockNumber + 1) k = (s.assembler.closeDelay : Int) + 1 ∧
      s.proceeding.state = .opened ∧ s.proceeding.first = some k ∧ 0 ≤ counterDiff k k ∧ s.proceeding.last = none ∧
      s.output.openS.takesPart = true ∧ s.output.openS.stallRun = none ∧ s.assembler.run = none ∧
      s.output.openS.held + s.output.sealedS.held < 2048) :=
  ⟨⟨closing true, _, -2, rfl, rfl, rfl, by decide +kernel, rfl⟩,
   ⟨{ closing true with assembler := { State.reset.assembler with next := some (-1) } }, _, -1, rfl, rfl, rfl, by decide +kernel, rfl⟩,
   ⟨closing false, _, -2, rfl, rfl, rfl, by decide +kernel, rfl, rfl, by decide +kernel, rfl, rfl, rfl, rfl, by decide +kernel⟩⟩

/-- R101, R110: the record of the proceeding's first block is stored with its number and its first mark, built of the latched mode. -/
theorem test_first_block_is_stored :
    (match exec .guardExpiry (closing false) with
     | .next t => t.output.openS.fifo.map (fun q => match q.record with
         | .block r => (r.block, r.first, r.last, r.check)
         | .run _ => (0, false, false, 0)
         | .close => (0, false, false, 0))
     | .fault _ => []
     | .refused _ => []) = [(-2, true, false, 0)] := by decide +kernel

theorem witness_hand_records :
    (∃ (s : State) (l : List Record), s.output.openS.takesPart = true ∧ (∀ r ∈ l, r ≠ .close) ∧
      s.output.openS.stallRun = none ∧ l.length ≤ 2048 - (s.output.openS.held + s.output.sealedS.held)) ∧
    (∃ (s : State) (l : List Record), s.output.openS.takesPart = true ∧ (∀ r ∈ l, r ≠ .close) ∧
      s.output.openS.stallRun = none ∧ 2048 - (s.output.openS.held + s.output.sealedS.held) < l.length) ∧
    (∃ (s : State) (l : List Record) (run : RunRegister), s.output.openS.takesPart = true ∧ (∀ r ∈ l, r ≠ .close) ∧
      s.output.openS.stallRun = some run ∧ 2 ≤ 2048 - (s.output.openS.held + s.output.sealedS.held) ∧
      l.length + 1 = 2048 - (s.output.openS.held + s.output.sealedS.held)) ∧
    (∃ (s : State) (l : List Record) (run : RunRegister), s.output.openS.takesPart = true ∧ (∀ r ∈ l, r ≠ .close) ∧
      s.output.openS.stallRun = some run ∧ 2048 - (s.output.openS.held + s.output.sealedS.held) < 2) :=
  ⟨⟨withOpen joined State.reset, [stored.record], rfl, by decide +kernel, rfl, by decide +kernel⟩,
   ⟨withOpen { joined with fifo := List.replicate 2048 stored } State.reset, [stored.record], rfl, by decide +kernel, rfl,
    by decide +kernel⟩,
   ⟨withOpen { joined with fifo := List.replicate 2046 stored, stallRun := some someRun } State.reset, [stored.record], someRun,
    rfl, by decide +kernel, rfl, by decide +kernel, by decide +kernel⟩,
   ⟨withOpen { joined with fifo := List.replicate 2047 stored, stallRun := some someRun } State.reset, [], someRun, rfl,
    by decide +kernel, rfl, by decide +kernel⟩⟩

theorem witness_late_run :
    ∃ (s : State) (f : Frame) (q : QueuedRecord) (rest : List QueuedRecord) (run : RunRegister),
      s.ports.b.transmitting = some { origin := .record, frame := f } ∧
      s.output.sending = some { stream := .openS, frames := [f] } ∧ s.output.openS.fifo = q :: rest ∧ q.stored = true ∧
      q.record ≠ .close ∧ s.proceeding.state = .draining ∧ lastClosed s = true ∧ s.StoreBounded ∧
      s.output.openS.takesPart = true ∧ s.output.openS.stallRun = some run ∧ s.output.sealedS.stallRun = none :=
  ⟨sendingB .record (mark 0) { drainingWith joined with output := { State.reset.output with
      openS := { joined with fifo := [stored], stallRun := some someRun }, sending := some { stream := .openS, frames := [mark 0] } } },
    mark 0, stored, [], someRun, rfl, rfl, rfl, rfl, by decide +kernel, rfl, by decide +kernel, by unfold State.StoreBounded; decide +kernel,
    rfl, rfl, rfl⟩

/-! ## Witnesses: Boundary Tracking -/

/-- Station 0 in a state, its boundary list holding blocks 4 and 5 resolved n samples apart and block 6 pending. -/
def following (x : StationState) (m : TrackerMode) (coast n : Nat) : State :=
  withMic { Station.reset with
    state := x
    tracker := { Tracker.reset with mode := m, position := positionOf 1000, coastCount := coast, boundaries :=
      [{ block := 4, status := .resolved 760 }, { block := 5, status := .resolved (760 + BitVec.ofNat 32 n) },
       { block := 6, status := .pending }] } } State.reset

theorem witness_predictions :
    (∀ x ∈ [StationState.track, .coast], ∀ m ∈ [TrackerMode.hold, .once],
      (following x m 0 240).stations[(0 : Fin 16)].state = x ∧ (following x m 0 240).stations[(0 : Fin 16)].tracker.mode ≠ .follow) ∧
    (∃ (s : State) (i : Fin 16), s.stations[i].state = .track ∧ s.stations[i].tracker.mode = .follow ∧
      s.stations[i].tracker.coastCount + 1 = (s.entry i).coastLimit) ∧
    (∃ (s : State) (i : Fin 16), s.stations[i].state = .coast ∧ s.stations[i].tracker.mode = .follow ∧
      s.stations[i].tracker.coastCount = (s.entry i).coastLimit) :=
  ⟨by decide +kernel,
   ⟨following .track .follow (StationEntry.reset.coastLimit - 1) 240, 0, by decide +kernel, by decide +kernel, by decide +kernel⟩,
   ⟨following .coast .follow StationEntry.reset.coastLimit 240, 0, by decide +kernel, by decide +kernel, by decide +kernel⟩⟩

theorem witness_measurements :
    (∃ (s : State) (i : Fin 16) (m : Counter), s.stations[i].state = .track ∧ s.stations[i].tracker.mode = .follow ∧
      (counterDiff m 1240).natAbs = (s.entry i).jitterWindow) ∧
    (∀ x ∈ [StationState.track, .coast], ∃ (s : State) (i : Fin 16) (m : Counter), s.stations[i].state = x ∧
      s.stations[i].tracker.mode = .follow ∧ (counterDiff m 1240).natAbs = (s.entry i).jitterWindow + 1) ∧
    (∃ (s : State) (i : Fin 16), s.stations[i].state = .track ∧ s.stations[i].tracker.mode = .follow ∧
      s.stations[i].jitterCount < 255 ∧ s.stations[i].jitterCount + 1 = (s.entry i).jitterThreshold) ∧
    roundPosition (positionOf 1000 + BitVec.ofNat 48 Tracker.reset.rate) = 1240 :=
  ⟨⟨following .track .follow 0 240, 0, 1240 + BitVec.ofNat 32 StationEntry.reset.jitterWindow, by decide +kernel, by decide +kernel, by decide +kernel⟩,
   fun x _ => ⟨following x .follow 0 240, 0, 1241 + BitVec.ofNat 32 StationEntry.reset.jitterWindow, rfl, rfl, by
     show _ = (StationEntry.reset.jitterWindow) + 1; decide +kernel⟩,
   ⟨modStation 0 (fun z => { z with jitterCount := StationEntry.reset.jitterThreshold - 1 }) (following .track .follow 0 240), 0,
    by decide +kernel, by decide +kernel, by decide +kernel, by decide +kernel⟩,
   by decide +kernel⟩

theorem witness_acquisition :
    ∃ (s : State) (i : Fin 16) (j : BlockNo) (older newer : List BoundaryEntry),
      s.stations[i].tracker.boundaries = older ++ { block := j, status := .pending } :: newer ∧
      (s.stations[i].tracker.boundaries.map (·.block)).Nodup ∧ older ≠ [] :=
  ⟨following .acquire .follow 0 240, 0, 6, _, [],
   show _ = [({ block := 4, status := .resolved 760 } : BoundaryEntry), { block := 5, status := .resolved 1000 }] ++ _ from rfl,
   by decide +kernel, by decide +kernel⟩

theorem witness_block_lengths :
    ∀ n ∈ ([231, 232, 248, 249] : List Nat), ∃ (s : State) (i : Fin 16) (k : BlockNo) (b e : Counter), s.stations[i].state = .track ∧
      statusOf s.stations[i].tracker.boundaries k = some (.resolved b) ∧
      statusOf s.stations[i].tracker.boundaries (k + 1) = some (.resolved e) ∧ counterDiff e b = (n : Int) := by
  intro n h
  refine ⟨following .track .follow 0 n, 0, 4, 760, 760 + BitVec.ofNat 32 n, rfl, rfl, rfl, ?_⟩
  simp only [List.mem_cons, List.not_mem_nil, or_false] at h
  rcases h with rfl | rfl | rfl | rfl <;> decide +kernel

/-! ## Witnesses: what the widened port, STANDBY and audio statements add -/

/-- Both links DOWN, with the pass-through queues, the engine and the sender given. -/
def halted (ba ab : List Frame) (e : Engine) (sending : Option Sending) : State :=
  { linksDown with ports := { linksDown.ports with forwardBA := ba, forwardAB := ab }, engine := e,
                   output := { State.reset.output with sending := sending } }

/-- An engine in TAP toward a port, with a monitor frame waiting. -/
def monitoring (p : Port) : Engine :=
  { State.reset.engine with state := .tap { tapped with port := p }, waiting := some (mark 7) }

theorem witness_link_resumes :
    (∀ p : Port, ∃ (s : State) (x : Tap) (f : Frame), s.Settled ∧ (s.port p).linkUp = false ∧
      (s.port p).transmitting = none ∧ s.ports.control = [] ∧ s.ports.management = [] ∧ s.engine.state = .tap x ∧
      x.port = p ∧ s.engine.waiting = some f) ∧
    (∃ (s : State) (f : Frame) (rest : List Frame), s.Settled ∧ s.ports.a.linkUp = false ∧
      s.ports.a.transmitting = none ∧ s.ports.control = [] ∧ monitorFor s .A = none ∧ s.ports.forwardBA = f :: rest) ∧
    (∃ (s : State) (f g : Frame) (rest : List Frame), s.Settled ∧ s.ports.b.linkUp = false ∧
      s.ports.b.transmitting = none ∧ s.ports.management = [] ∧ monitorFor s .B = none ∧ offeredFrame s = some f ∧
      s.ports.forwardAB = g :: rest ∧ s.ports.turn = .record) ∧
    (∃ (s : State) (g : Frame) (rest : List Frame), s.Settled ∧ s.ports.b.linkUp = false ∧
      s.ports.b.transmitting = none ∧ s.ports.management = [] ∧ monitorFor s .B = none ∧ offeredFrame s = none ∧
      s.ports.forwardAB = g :: rest) ∧
    (∃ s : State, s.Settled ∧ s.ports.b.linkUp = false ∧ s.ports.b.transmitting = none ∧ s.ports.management = [] ∧
      monitorFor s .B = none ∧ offeredFrame s = none ∧ s.ports.forwardAB = []) :=
  ⟨fun p => ⟨halted [] [] (monitoring p) none, _, _, by cases p <;> (unfold State.Settled; decide +kernel), by cases p <;> rfl,
      by cases p <;> rfl, rfl, rfl, rfl, rfl, rfl⟩,
   ⟨halted [mark 1] [] State.reset.engine none, mark 1, [], by unfold State.Settled; decide +kernel, rfl, rfl, rfl, rfl, rfl⟩,
   ⟨halted [] [mark 1] State.reset.engine (some { stream := .openS, frames := [mark 2] }), mark 2, mark 1, [],
    by unfold State.Settled; decide +kernel, rfl, rfl, rfl, rfl, rfl, rfl, rfl⟩,
   ⟨halted [] [mark 1] State.reset.engine none, mark 1, [], by unfold State.Settled; decide +kernel, rfl, rfl, rfl, rfl, rfl, rfl⟩,
   ⟨linksDown, by unfold State.Settled; decide +kernel, rfl, rfl, rfl, rfl, rfl, rfl⟩⟩

theorem witness_standby_ports :
    (∃ (s : State) (x : InTransmission), s.Settled ∧ s.ports.b.transmitting = some x ∧ x.origin = .reply .enterStandby ∧
      s.management.requests = [] ∧ s.ports.b.linkUp = false) ∧
    (∃ (s : State) (x : InTransmission) (m : ManagementFrame) (l : List ManagementFrame), s.Settled ∧
      s.ports.b.transmitting = some x ∧ x.origin = .reply .enterStandby ∧ s.management.requests = [] ∧
      s.ports.b.linkUp = true ∧ s.ports.management = m :: l ∧ s.engine.state = .idle) :=
  ⟨⟨sendingB (.reply .enterStandby) (mark 0) linksDown, _, by unfold State.Settled; decide +kernel, rfl, rfl, rfl, rfl⟩,
   ⟨sendingB (.reply .enterStandby) (mark 0) { State.reset with ports := { State.reset.ports with
        management := [{ notice := true, after := .nothing, frame := mark 1 }] } }, _, _, [],
    by unfold State.Settled; decide +kernel, rfl, rfl, rfl, rfl, rfl, rfl⟩⟩

theorem witness_refresh_room :
    (∃ s : State, s.Settled ∧ s.part.awake = true ∧ 200 ≤ s.tally.refresh ∧ portReady s .A = true) ∧
    (∃ s : State, s.Settled ∧ s.part.awake = true ∧ 200 ≤ s.tally.refresh ∧ portReady s .A = false ∧
      s.ports.control.length = 64) :=
  ⟨⟨{ State.reset with tally := { State.reset.tally with refresh := 200 } }, settled_as_reset _ rfl rfl rfl, rfl, by decide +kernel, rfl⟩,
   ⟨sendingA .control (mark 0) { State.reset with
      tally := { State.reset.tally with refresh := 200 }
      ports := { State.reset.ports with control := List.replicate 64 { tally := true, frame := mark 0 } } },
    by unfold State.Settled; decide +kernel, rfl, by decide +kernel, rfl, rfl⟩⟩

/-- Station 0 under a line test, its pattern frames expected. -/
def inTest : State := setEngine (.test (testOf 3 0)) (withMic { Station.reset with state := .test } State.reset)

/-- A one-channel TEST_PATTERN frame of the station at `mic`. -/
def patternFrame : Frame :=
  lrt everyone mic 1 ([1, 1, 0, 0] ++ wordBytes 96 ++ zeros 8 ++ List.replicate 144 0xA5)

theorem witness_pattern_frame :
    (∃ (s : State) (f : Frame) (x : LineTest), s.Settled ∧ arrivesAs s .A f .stationAudio = true ∧ s.part.awake = true ∧
      s.engine.state = .test x ∧ stationOf s f = some x.station ∧ s.stations[x.station].state = .test ∧
      passesChecks s x.station f = true ∧ audioEventCount f.body = 0) ∧
    (∃ (s : State) (x : LineTest), s.Settled ∧ s.engine.state = .test x ∧ s.stations[x.station].state = .test ∧
      x.duration = x.elapsed ∧ portReady s .A = true) :=
  ⟨⟨inTest, patternFrame, testOf 3 0, by unfold State.Settled; decide +kernel, by decide +kernel, rfl, rfl, by decide +kernel,
    by decide +kernel, by decide +kernel, by decide +kernel⟩,
   ⟨setEngine (.test (testOf 3 3)) (withMic { Station.reset with state := .test } State.reset), testOf 3 3,
    by unfold State.Settled; decide +kernel, rfl, by decide +kernel, rfl, rfl⟩⟩

/-- A synchronised checker that expects counter 480. -/
def synced : Checker := { generator := 0x1234, expected := 480, synchronised := true }

theorem witness_checker :
    (Checker.fresh.synchronised = false ∧ 15 ≤ (List.replicate 15 true).length) ∧
    (synced.synchronised = true ∧ counterDiff 480 synced.expected = 0) ∧
    (counterDiff 528 synced.expected = 48 * ((1 : Nat) : Int) ∧
      counterDiff 1049040 synced.expected = 48 * ((21845 : Nat) : Int) ∧ counterDiff 1049040 synced.expected ≤ 1048576) ∧
    (counterDiff 481 synced.expected % 48 ≠ 0 ∧ 1048576 < counterDiff 1049088 synced.expected) ∧
    counterDiff 479 synced.expected < 0 := by decide +kernel

/-- R150: the sequence that follows fifteen ones, by hand from x¹⁵ + x¹⁴ + 1. -/
theorem test_prbs_after_ones :
    prbsAfter (List.replicate 15 true) 16 =
      List.replicate 14 false ++ [true, false] := by decide +kernel

/-- Station 0 in a state with a FORMAT count. -/
def failing (x : StationState) (count : Nat) : State := withMic { Station.reset with state := x, formatCount := count } State.reset

theorem witness_format_threshold :
    (∀ x ∈ [StationState.track, .acquire, .test], ∃ (s : State) (f : Frame) (i : Fin 16),
      arrivesAs s .A f .stationAudio = true ∧ s.part.awake = true ∧ stationOf s f = some i ∧
      passesChecks s i f = false ∧ s.stations[i].state = x ∧ s.Settled ∧
      s.stations[i].formatCount + 1 = (s.entry i).formatThreshold) ∧
    (∃ (s : State) (f : Frame) (i : Fin 16), arrivesAs s .A f .stationAudio = true ∧ s.part.awake = true ∧
      stationOf s f = some i ∧ passesChecks s i f = false ∧ s.stations[i].state = .track ∧ s.Settled ∧
      s.stations[i].formatCount = 255) := by
  refine ⟨fun x h => ?_, failing .track 255, lrt everyone mic 1 [2], 0, by decide +kernel, rfl, by decide +kernel,
    by decide +kernel, rfl, settled_as_reset _ rfl rfl rfl, rfl⟩
  simp only [List.mem_cons, List.not_mem_nil, or_false] at h
  rcases h with rfl | rfl | rfl <;>
  exact ⟨failing _ (StationEntry.reset.formatThreshold - 1), lrt everyone mic 1 [2], 0, by decide +kernel, rfl,
    by decide +kernel, by decide +kernel, rfl, settled_as_reset _ rfl rfl rfl, by decide +kernel⟩

/-! ## Witnesses: button events and confer groups, FORCED and STANDBY included -/

/-- Group 1 of `grouped` in OPEN, with a Toggle List and a FORCED mark. -/
def conferring (toggles : List Toggle) (forced : Bool) : State :=
  let s := inState .opened (grouped listening)
  { s with groups := s.groups.set 0 { ConferGroup.reset with
      toggles := toggles, forced := forced, forcedPoint := if forced then some 100 else none } }

def down100 : Toggle := { down := true, point := 100, late := false }

theorem witness_toggles :
    ∀ x ∈ [([down100], false), (List.replicate 8 down100, false), ([], true)],
      EventTaken (conferring x.1 x.2) (audio 100 0 (event 1)) 0 { code := 1, channel := 0, serial := 1, counter := 150 } ∧
      isRepeat (conferring x.1 x.2).stations[(0 : Fin 16)].newestSerial 1 = false ∧
      toggleGroup (conferring x.1 x.2).tables.active 0 0 = some 0 ∧
      (conferring x.1 x.2).groups[(0 : Fin 8)].requested = false ∧
      (conferring x.1 x.2).groups[(0 : Fin 8)].toggles = x.1 ∧ (conferring x.1 x.2).groups[(0 : Fin 8)].forced = x.2 := by
  intro x h
  simp only [List.mem_cons, List.not_mem_nil, or_false] at h
  rcases h with rfl | rfl | rfl <;>
  exact ⟨⟨settled_as_reset _ rfl rfl rfl, by decide +kernel, rfl, by decide +kernel, by decide +kernel, by decide +kernel,
    by decide +kernel, by decide +kernel, rfl, by decide +kernel, by decide +kernel, by decide +kernel⟩, by decide +kernel,
    by decide +kernel, by decide +kernel, by decide +kernel, by decide +kernel⟩

theorem witness_overflowing_button :
    ∃ (s : State) (f : Frame) (i : Fin 16) (e : ButtonEvent), EventTaken s f i e ∧ (s.entry i).benchAuthority = true ∧
      isRepeat s.stations[i].newestSerial e.serial = false ∧ e.code.toNat = 7 ∧ s.mode.stack.length = 4 :=
  ⟨{ listening with mode := { current := .recess, stack := List.replicate 4 .onRecord, latch := [] } }, audio 100 0 (event 7), 0,
    { code := 7, channel := 0, serial := 1, counter := 150 },
    ⟨settled_as_reset _ rfl rfl rfl, by decide +kernel, rfl, by decide +kernel, by decide +kernel, by decide +kernel,
      by decide +kernel, by decide +kernel, rfl, by decide +kernel, by decide +kernel, by decide +kernel⟩,
    by decide +kernel, by decide +kernel, by decide +kernel, rfl⟩

/-- STANDBY, with station 0 at `mic` and its wake enable set. -/
def parked (x : Station) : State :=
  let s := withMic x State.reset
  let e := { StationEntry.reset with address := mic, enabled := true, benchAuthority := true, wakeEnable := true }
  { s with
    part := { s.part with awake := false }
    tables := { s.tables with active := { s.tables.active with stations := s.tables.active.stations.set 0 e } } }

theorem witness_standby_events :
    ∀ c ∈ [(1 : Byte), 8], ∀ last ∈ [none, some (1 : Byte)],
      (parked { Station.reset with state := .absent, newestSerial := last }).Settled ∧
      arrivesAs (parked { Station.reset with state := .absent, newestSerial := last }) .A (audio 100 0 (event c)) .stationAudio = true ∧
      stationOf (parked { Station.reset with state := .absent, newestSerial := last }) (audio 100 0 (event c)) = some 0 ∧
      passesChecks (parked { Station.reset with state := .absent, newestSerial := last }) 0 (audio 100 0 (event c)) = true ∧
      audioEvents (audio 100 0 (event c)).body = [{ code := c, channel := 0, serial := 1, counter := 150 }] ∧
      (parked { Station.reset with state := .absent, newestSerial := last }).part.awake = false ∧
      ((parked { Station.reset with state := .absent, newestSerial := last }).entry 0).wakeEnable = true := by
  intro c hc last hl
  refine ⟨settled_as_reset _ rfl rfl rfl, ?_⟩
  simp only [List.mem_cons, List.not_mem_nil, or_false] at hc hl
  rcases hc with rfl | rfl <;> rcases hl with rfl | rfl <;> decide +kernel

theorem witness_standby_frames :
    ∃ s : State, s.part.awake = false ∧ arrivesAs s .B (credit 1) .credit = true ∧ arrivesAs s .B (ack 0 0) .closeAck = true ∧
      arrivesAs s .B (reqFrame ctl) .request = true :=
  ⟨{ State.reset with part := { State.reset.part with awake := false } }, rfl, by decide +kernel, by decide +kernel, by decide +kernel⟩

theorem witness_forced_groups :
    (∃ (x : Timing) (g : ConferGroup), x.length < 2 ^ 31 ∧ g.forced = true ∧ g.toggles = [] ∧
      g.forcedPoint = some (x.blockEnd - 1)) ∧
    (∃ (x : Timing) (g : ConferGroup) (p : Counter), x.length < 2 ^ 31 ∧ g.forced = true ∧ g.toggles = [] ∧
      g.forcedPoint = some p ∧ counterDiff p x.blockEnd = 1048576) ∧
    (∃ (x : Timing) (g : ConferGroup) (e : Toggle), x.length < 2 ^ 31 ∧ takenEntries x g = [e] ∧
      1048576 < counterDiff e.point x.blockEnd) ∧
    (∃ (x : Timing) (g : ConferGroup), x.length < 2 ^ 31 ∧ (handGroup x g).intervals = [(10, 20), (20, 30)] ∧
      ∀ e ∈ takenEntries x g, counterDiff e.point x.blockEnd < 0) :=
  ⟨⟨{ start := 1000, length := 240 }, { ConferGroup.reset with forced := true, forcedPoint := some 1239 }, by decide +kernel,
    rfl, rfl, by decide +kernel⟩,
   ⟨{ start := 1000, length := 240 }, { ConferGroup.reset with forced := true, forcedPoint := some 1049816 }, 1049816,
    by decide +kernel, rfl, rfl, rfl, by decide +kernel⟩,
   ⟨{ start := 1000, length := 240 }, { ConferGroup.reset with toggles := [{ down := true, point := 1049817, late := false }] },
    { down := true, point := 1049817, late := false }, by decide +kernel, by decide +kernel, by decide +kernel⟩,
   ⟨{ start := 1000, length := 240 }, { ConferGroup.reset with toggles :=
        [{ down := true, point := 1010, late := false }, { down := false, point := 1020, late := false },
         { down := true, point := 1020, late := false }, { down := false, point := 1030, late := false }] },
    by decide +kernel, by decide +kernel, by decide +kernel⟩⟩

theorem witness_test_command :
    ∃ s : State, s.Settled ∧ Serving s .lineTest (lineTest 0 1) [] ∧ (∀ y, s.engine.state ≠ .test y) ∧
      s.stations[(0 : Fin 16)].state ≠ .disabled ∧ s.proceeding.state = .idle ∧ portReady s .A = false ∧
      s.ports.control.length = 64 :=
  ⟨queued (lineTest 0 1) (sendingA .control (mark 0) { listening with ports := { State.reset.ports with
      control := List.replicate 64 { tally := true, frame := mark 0 } } }),
    by unfold State.Settled; decide +kernel, ⟨rfl, by decide +kernel, by decide +kernel⟩,
    fun y h => (by cases h), by decide +kernel, rfl, rfl, rfl⟩

/-! ## Witnesses: malformed frames, jumps, acks, full windows, refused and applied writes -/

/-- A frame whose common header is of another version. -/
def spoilt (f : Frame) : Frame := { f with body := f.body.set 0 2 }

/-- A TERMINAL part. -/
def terminal : State := { State.reset with config := { State.reset.config with role := .terminalRole } }

theorem witness_malformed :
    (∃ (s : State) (f : Frame), s.Settled ∧ ArrivesAwake s f .credit ∧ wellFormed f.body 4 = false) ∧
    (∃ (s : State) (f : Frame), s.Settled ∧ ArrivesAwake s f .closeAck ∧ wellFormed f.body 20 = false) ∧
    (∃ (s : State) (f : Frame), s.Settled ∧ arrivesAs s .A f .cadenceMark = true ∧ wellFormed f.body 4 = false ∧
      s.config.role = .terminalRole) ∧
    (∃ (s : State) (f : Frame), s.Settled ∧ arrivesAs s .A f .cadenceMark = true ∧ wellFormed f.body 4 = false ∧
      f.dst ≠ s.config.ownAddress ∧ s.config.role = .inlineRole ∧ s.ports.forwardAB.length < 64) ∧
    (∃ (s : State) (f : Frame), s.Settled ∧ arrivesAs s .A f .cadenceMark = true ∧ wellFormed f.body 4 = false ∧
      f.dst ≠ s.config.ownAddress ∧ s.config.role = .inlineRole ∧ s.ports.forwardAB.length = 64) :=
  ⟨⟨State.reset, spoilt (credit 1), settled_as_reset _ rfl rfl rfl, ⟨by decide +kernel, rfl⟩, by decide +kernel⟩,
   ⟨State.reset, spoilt (ack 1 2), settled_as_reset _ rfl rfl rfl, ⟨by decide +kernel, rfl⟩, by decide +kernel⟩,
   ⟨terminal, spoilt (mark 1), settled_as_reset _ rfl rfl rfl, by decide +kernel, by decide +kernel, rfl⟩,
   ⟨State.reset, spoilt (mark 1), settled_as_reset _ rfl rfl rfl, by decide +kernel, by decide +kernel, by decide +kernel, rfl,
    by decide +kernel⟩,
   ⟨fullQueues, spoilt (mark 1), by unfold State.Settled; decide +kernel, by decide +kernel, by decide +kernel, by decide +kernel, rfl,
    rfl⟩⟩

/-- Station 0 in TRACK before a jump, with tables staged or not. -/
def jumping (staged : Bool) : State :=
  let s := ticking .locked 1000 9 (withMic { Station.reset with state := .track } State.reset)
  { s with tables := { s.tables with shadow := s.tables.active, staged := staged } }

/-- A running station at a jump that makes a boundary, no staged table or one that leaves its entry alone being due. -/
theorem witness_jump_stations : ∀ staged ∈ [false, true],
    ∃ (s : State) (f : Frame) (time l : Tick) (i : Fin 16), MarkArrives s f ∧ s.timebase.last = some l ∧
      s.timebase.state = .locked ∧ markNumber f ≠ s.timebase.expected ∧ l + 110592 = time ∧
      s.stations[i].state = .track ∧ s.tables.staged = staged ∧ s.tables.written[i] = false := by
  intro staged _
  exact ⟨jumping staged, mark 8, 111592, 1000, 0, markArrives_sound _ _ (by cases staged <;> decide +kernel),
    rfl, rfl, by cases staged <;> decide +kernel, rfl, rfl, rfl, rfl⟩

/-- The CLOSE class of the Fault Log empty, and with a first occurrence. -/
theorem witness_close_faults :
    (∃ (s : State) (n : Nat) (sent : CloseFigures), s.proceeding.state = .confirming ∧ s.output.openS.takesPart = true ∧
      s.output.openS.closeState = .closeSent ∧ s.output.openS.confirmTimer = some n ∧
      s.output.openS.entry.confirmLimit * 200 ≤ n ∧ s.output.openS.closeFigures = some sent ∧
      (s.management.faults[faultClose]).first = none) ∧
    (∃ (s : State) (n : Nat), s.proceeding.state = .confirming ∧ s.output.openS.takesPart = true ∧
      s.output.openS.closeState = .closeSent ∧ s.output.openS.confirmTimer = some n ∧
      s.output.openS.entry.confirmLimit * 200 ≤ n ∧ (s.management.faults[faultClose]).first ≠ none) :=
  ⟨⟨inState .confirming (withOpen waitingAck State.reset), 400, _, rfl, rfl, rfl, rfl, by decide +kernel, rfl, rfl⟩,
   ⟨logFault faultClose { subject := 0, block := 0, detail := zeros 16 } (inState .confirming (withOpen waitingAck State.reset)),
    400, rfl, rfl, rfl, rfl, by decide +kernel, by decide +kernel⟩⟩

/-- R136: an ack with another count completes the OPEN stream CLOSE_MISMATCH, logged with what was sent and what was reported. -/
theorem test_mismatch_is_logged :
    (match exec (.closeAck (ack 5 2)) (inState .confirming (withOpen waitingAck State.reset)) with
     | .next t => (t.management.faults[faultClose]).first.map (·.detail)
     | .fault _ => none
     | .refused _ => none) = some [0, 0, 0, 1, 0, 0, 0, 2, 0, 0, 0, 5, 0, 0, 0, 2] := by decide +kernel

/-- The premises that every clause on a placed frame shares, for a station in a state. -/
def FramePasses (s : State) (f : Frame) (i : Fin 16) (x : StationState) : Prop :=
  s.Settled ∧ arrivesAs s .A f .stationAudio = true ∧ s.part.awake = true ∧ stationOf s f = some i ∧
    passesChecks s i f = true ∧ s.timebase.history = [] ∧ s.stations[i].state = x

theorem framePasses (x : Station) (f : Frame) (ha : arrivesAs (withMic x State.reset) .A f .stationAudio = true)
    (ho : stationOf (withMic x State.reset) f = some 0) (hc : passesChecks (withMic x State.reset) 0 f = true) :
    FramePasses (withMic x State.reset) f 0 x.state :=
  ⟨settled_as_reset _ rfl rfl rfl, ha, rfl, ho, hc, rfl, rfl⟩

/-- A frame held at a counter. -/
def heldAt (c : Counter) : HeldFrame := { counter := c, samples := [] }

/-- A window of 64 frames, placed newest first, from counter 48 up. -/
def fullWindow : List HeldFrame := (List.range 64).map (fun q => heldAt (BitVec.ofNat 32 (48 * (64 - q))))

/-- Station 0 with a window and a release point. -/
def windowed (x : StationState) (l : List HeldFrame) (r : Option Counter) : Station :=
  { Station.reset with state := x, window := l, releasePoint := r }

theorem witness_placements :
    (∃ (s : State) (f : Frame) (i : Fin 16), FramePasses s f i .track ∧ audioEventCount f.body = 0 ∧
      ∃ h ∈ s.stations[i].window, h.counter = audioCounter f.body) ∧
    (∃ (s : State) (f : Frame) (i : Fin 16) (r : Counter), FramePasses s f i .track ∧ audioEventCount f.body = 0 ∧
      s.stations[i].window = [heldAt 52] ∧ audioCounter f.body = 100 ∧ s.stations[i].releasePoint = some r ∧
      counterDiff (audioCounter f.body + 48) r = 1 ∧ s.stations[i].window.length < 2 ^ (s.entry i).windowOrder) ∧
    (∀ x ∈ [(StationState.track, (3120 : Counter), (48 : Counter)), (.acquire, 0, 0)],
      ∃ (s : State) (f : Frame) (i : Fin 16), FramePasses s f i x.1 ∧ audioEventCount f.body = 0 ∧
        audioCounter f.body = x.2.1 ∧ (∀ h ∈ s.stations[i].window, 48 ≤ (counterDiff x.2.1 h.counter).natAbs) ∧
        (∀ r, s.stations[i].releasePoint = some r → 0 < counterDiff (x.2.1 + 48) r) ∧
        2 ^ (s.entry i).windowOrder ≤ s.stations[i].window.length ∧
        (x.2.2 = x.2.1 ∨ ∃ h ∈ s.stations[i].window, h.counter = x.2.2)) ∧
    (∃ (s : State) (f : Frame) (i : Fin 16), FramePasses s f i .absent ∧ audioEventCount f.body = 0 ∧
      s.stations[i].window = []) := by
  refine ⟨⟨_, audio 100 0 [], 0, framePasses (windowed .track [heldAt 100] none) _ (by decide +kernel) (by decide +kernel)
      (by decide +kernel), by decide +kernel, heldAt 100, by decide +kernel, by decide +kernel⟩,
    ⟨_, audio 100 0 [], 0, 147, framePasses (windowed .track [heldAt 52] (some 147)) _ (by decide +kernel) (by decide +kernel)
      (by decide +kernel), by decide +kernel, by decide +kernel, by decide +kernel, by decide +kernel, by decide +kernel,
      by decide +kernel⟩,
    ?_,
    ⟨_, audio 100 0 [], 0, framePasses (windowed .absent [] none) _ (by decide +kernel) (by decide +kernel) (by decide +kernel),
      by decide +kernel, by decide +kernel⟩⟩
  intro x h
  simp only [List.mem_cons, List.not_mem_nil, or_false] at h
  rcases h with rfl | rfl
  · exact ⟨_, audio 3120 0 [], 0, framePasses (windowed .track fullWindow (some 96)) _ (by decide +kernel) (by decide +kernel)
      (by decide +kernel), by decide +kernel, by decide +kernel, by decide +kernel,
      fun r h => (by cases h; decide +kernel), by decide +kernel, .inr ⟨heldAt 48, by decide +kernel, rfl⟩⟩
  · exact ⟨_, audio 0 0 [], 0, framePasses (windowed .acquire fullWindow none) _ (by decide +kernel) (by decide +kernel)
      (by decide +kernel), by decide +kernel, by decide +kernel, by decide +kernel, fun r h => (by cases h), by decide +kernel, .inl rfl⟩

/-- R29: of a full window in TRACK and a new frame above it, the frame at 48 goes, and evicted-below is its end. -/
theorem test_eviction_in_track :
    (match exec (.stationAudio (audio 3120 0 [])) (withMic (windowed .track fullWindow (some 96)) State.reset) with
     | .next t =>
       let x := t.stations[(0 : Fin 16)]
       (x.window.length, x.window.any (fun h => h.counter == 48), x.evictCount, x.evictedBelow)
     | .fault _ => (0, true, 0, none)
     | .refused _ => (0, true, 0, none)) = (64, false, 1, some 96) := by decide +kernel

theorem witness_format_errors :
    (∀ c ∈ [(53 : Counter), 147], ∃ (s : State) (f : Frame) (i : Fin 16), FramePasses s f i .acquire ∧
      audioCounter f.body = 100 ∧ s.stations[i].releasePoint = none ∧ s.stations[i].window = [heldAt c] ∧
      c ≠ audioCounter f.body ∧ (counterDiff (audioCounter f.body) c).natAbs = 47) ∧
    (∀ x ∈ [((0 : Byte), (0 : Byte)), (9, 0), (8, 1)], ∃ (s : State) (f : Frame) (i : Fin 16) (e : ButtonEvent),
      FramePasses s f i .acquire ∧ s.stations[i].releasePoint = none ∧ s.stations[i].window = [] ∧
      audioEvents f.body = [e] ∧ e.code = x.1 ∧ e.channel = x.2 ∧ (s.entry i).channels = 1) := by
  constructor
  · intro c h
    simp only [List.mem_cons, List.not_mem_nil, or_false] at h
    rcases h with rfl | rfl
    · exact ⟨_, audio 100 0 [], 0, framePasses (windowed .acquire [heldAt 53] none) _ (by decide +kernel) (by decide +kernel)
        (by decide +kernel), by decide +kernel, by decide +kernel, by decide +kernel, by decide +kernel, by decide +kernel⟩
    · exact ⟨_, audio 100 0 [], 0, framePasses (windowed .acquire [heldAt 147] none) _ (by decide +kernel) (by decide +kernel)
        (by decide +kernel), by decide +kernel, by decide +kernel, by decide +kernel, by decide +kernel, by decide +kernel⟩
  · intro x h
    simp only [List.mem_cons, List.not_mem_nil, or_false] at h
    rcases h with rfl | rfl | rfl
    · exact ⟨_, audio 100 0 ([0, 0, 1, 0] ++ wordBytes 150), 0, { code := 0, channel := 0, serial := 1, counter := 150 },
        framePasses acquiring _ (by decide +kernel) (by decide +kernel) (by decide +kernel), by decide +kernel, by decide +kernel,
        by decide +kernel, rfl, rfl, by decide +kernel⟩
    · exact ⟨_, audio 100 0 ([9, 0, 1, 0] ++ wordBytes 150), 0, { code := 9, channel := 0, serial := 1, counter := 150 },
        framePasses acquiring _ (by decide +kernel) (by decide +kernel) (by decide +kernel), by decide +kernel, by decide +kernel,
        by decide +kernel, rfl, rfl, by decide +kernel⟩
    · exact ⟨_, audio 100 0 ([8, 1, 1, 0] ++ wordBytes 150), 0, { code := 8, channel := 1, serial := 1, counter := 150 },
        framePasses acquiring _ (by decide +kernel) (by decide +kernel) (by decide +kernel), by decide +kernel, by decide +kernel,
        by decide +kernel, rfl, rfl, by decide +kernel⟩

/-- Port B transmits a reply, 7 more wait, and a request waits for them (the example of section 11.3). -/
def heldBack : State :=
  queued (ask 8 []) (sendingB (.reply .nothing) (mark 0) { State.reset with ports := { State.reset.ports with
    management := List.replicate 7 { notice := false, after := .nothing, frame := mark 0 }, repliesFull := true } })

theorem witness_reply_ends_hold :
    ∃ (s : State) (f : Frame) (m : ManagementFrame) (rest : List ManagementFrame), s.Settled ∧
      s.ports.b.transmitting = some { origin := .reply .nothing, frame := f } ∧ s.ports.b.linkUp = true ∧
      s.ports.management = m :: rest ∧ m.notice = false ∧
      (s.ports.management.filter (fun x => !x.notice)).length = 7 ∧ s.part.awake = true ∧
      s.management.armed = .nothing ∧ mayServe s = false :=
  ⟨heldBack, _, _, _, by unfold State.Settled; decide +kernel, rfl, rfl, rfl, rfl, by decide +kernel, rfl, rfl, by decide +kernel⟩

/-- The example of section 11.3: one reply transmitted, and the head request may be served. -/
theorem test_served_after_one_reply :
    (match exec (.frameTransmitted .B) heldBack with
     | .next t => (mayServe t, repliesWaiting t)
     | .fault _ => (false, 0)
     | .refused _ => (false, 0)) = (true, 6) := by decide +kernel

theorem witness_refused_reads :
    (∃ (s : State) (r : Request), Asked .readEntries r s ∧ (byteAt r.payload 7).toNat = 2) ∧
    (∃ (s : State) (r : Request), Asked .readStationStatus r s ∧ (byteAt r.payload 7).toNat = 2) ∧
    (∃ (s : State) (r : Request), Asked .readStationStatus r s ∧ isYesNo (byteAt r.payload 7) = true ∧
      fieldAt r.payload 6 1 = 0) ∧
    (∃ (s : State) (r : Request), Asked .readStationStatus r s ∧ isYesNo (byteAt r.payload 7) = true ∧
      fieldAt r.payload 5 1 + fieldAt r.payload 6 1 = 17) :=
  ⟨⟨_, ask 1 [0, 0, 1, 2], asked _ _ State.reset rfl rfl rfl (by decide +kernel) (by decide +kernel), by decide +kernel⟩,
   ⟨_, ask 1 [6, 0, 1, 2], asked _ _ State.reset rfl rfl rfl (by decide +kernel) (by decide +kernel), by decide +kernel⟩,
   ⟨_, ask 1 [6, 0, 0, 0], asked _ _ State.reset rfl rfl rfl (by decide +kernel) (by decide +kernel), by decide +kernel, by decide +kernel⟩,
   ⟨_, ask 1 [6, 15, 2, 0], asked _ _ State.reset rfl rfl rfl (by decide +kernel) (by decide +kernel), by decide +kernel, by decide +kernel⟩⟩

theorem witness_write_ranges :
    (∀ first ∈ [(15 : Byte), 16], ∃ (s : State) (r : Request), Asked .writeStation r s ∧ fieldAt r.payload 5 1 = first.toNat ∧
      fieldAt r.payload 6 1 = 17 - first.toNat) ∧
    (∃ (s : State) (r : Request), Asked .writeStation r s ∧ fieldAt r.payload 6 1 = 0) ∧
    (∃ (s : State) (r : Request), Asked .writeTrackMap r s ∧ fieldAt r.payload 5 1 + fieldAt r.payload 6 1 = 49) ∧
    (∃ (s : State) (r : Request), Asked .writeDisposition r s ∧ fieldAt r.payload 5 1 + fieldAt r.payload 6 1 = 7) := by
  refine ⟨?_, ⟨_, ask 2 [0, 0, 0, 0], asked _ _ State.reset rfl rfl rfl (by decide +kernel) (by decide +kernel), by decide +kernel⟩,
    ⟨_, ask 2 ([1, 48, 1, 0] ++ TrackEntry.reset.bytes), asked _ _ State.reset rfl rfl rfl (by decide +kernel) (by decide +kernel),
      by decide +kernel⟩,
    ⟨_, ask 2 ([2, 6, 1, 0] ++ zeros 8), asked _ _ State.reset rfl rfl rfl (by decide +kernel) (by decide +kernel), by decide +kernel⟩⟩
  intro first h
  simp only [List.mem_cons, List.not_mem_nil, or_false] at h
  rcases h with rfl | rfl
  · exact ⟨_, ask 2 ([0, 15, 2, 0] ++ StationEntry.reset.bytes ++ StationEntry.reset.bytes),
      asked _ _ State.reset rfl rfl rfl (by decide +kernel) (by decide +kernel), by decide +kernel, by decide +kernel⟩
  · exact ⟨_, ask 2 ([0, 16, 1, 0] ++ StationEntry.reset.bytes),
      asked _ _ State.reset rfl rfl rfl (by decide +kernel) (by decide +kernel), by decide +kernel, by decide +kernel⟩

/-- A write of station 0 alone. -/
def writeFirst (e : StationEntry) : Request := ask 2 ([0, 0, 1, 0] ++ e.bytes)

def micEntry : StationEntry := { StationEntry.reset with address := mic, enabled := true, benchAuthority := true }

theorem written (w : TableWrite) (i : Fin 16) (e : StationEntry)
    (h : (match w with | .ok u => decide (u.stations[i] = e) | .error _ => false) = true) :
    ∃ u, w = .ok u ∧ u.stations[i] = e := by
  cases w with
  | ok u => exact ⟨u, rfl, of_decide_eq_true h⟩
  | error r => cases h

/-- Each case of an applied entry, in IDLE: enabled, disabled, of another window order, and of another tracker mode alone. -/
theorem witness_applied_entries :
    (∀ e ∈ [{ micEntry with enabled := false }, { micEntry with windowOrder := 8 }, { micEntry with windowOrder := 7 },
        { micEntry with trackerMode := .hold }],
      Asked .writeStation (writeFirst e) (queued (writeFirst e) listening) ∧
      ∃ u, stationWrite listening.tables.active 0 1 (writeFirst e).payload = .ok u ∧ u.stations[(0 : Fin 16)] = e) ∧
    (Asked .writeStation (writeFirst micEntry) (queued (writeFirst micEntry) State.reset) ∧
      ∃ u, stationWrite State.reset.tables.active 0 1 (writeFirst micEntry).payload = .ok u ∧
        u.stations[(0 : Fin 16)] = micEntry) ∧
    (∃ (s : State) (r : Request) (x : LineTest), s.Settled ∧ Serving s .writeStation r [] ∧ s.proceeding.state = .idle ∧
      s.engine.state = .test x ∧ x.station = 0 ∧ s.stations[(0 : Fin 16)].state = .test ∧
      accepted (stationWrite s.tables.active 0 1 r.payload) = true) := by
  refine ⟨?_, ⟨asked _ _ State.reset rfl rfl rfl (by decide +kernel) (by decide +kernel), written _ _ _ (by decide +kernel)⟩,
    ⟨queued (writeFirst { micEntry with enabled := false }) inTest, _, _, by unfold State.Settled; decide +kernel,
      ⟨rfl, by decide +kernel, by decide +kernel⟩, rfl, rfl, rfl, by decide +kernel, by decide +kernel⟩⟩
  intro e h
  simp only [List.mem_cons, List.not_mem_nil, or_false] at h
  rcases h with rfl | rfl | rfl | rfl <;>
    exact ⟨asked _ _ listening rfl rfl rfl (by decide +kernel) (by decide +kernel), written _ _ _ (by decide +kernel)⟩

/-- A write of the Stream Table with its entries' bytes. -/
def streamRequest (first count : Byte) (bytes : List Byte) : Request := ask 2 ([4, first, count, 0] ++ bytes)

def streamBytes (enabled : Byte) (d : Mac) : List Byte := [enabled, 1] ++ macBytes d ++ [9, 0, 255, 0]

theorem witness_stream_forms :
    (∃ (s : State) (r : Request), Asked .writeStream r s ∧ fieldAt r.payload 5 1 + fieldAt r.payload 6 1 = 3) ∧
    (∀ b ∈ [streamBytes 2 dst, streamBytes 1 everyone, streamBytes 1 0], ∃ (s : State) (r : Request),
      Asked .writeStream r s ∧ s.proceeding.state = .idle ∧ fieldAt r.payload 5 1 = 0 ∧ fieldAt r.payload 6 1 = 2 ∧
      (r.payload.drop 20).take 12 = b) ∧
    (∃ (s : State) (r : Request) (o e : StreamEntry), Asked .writeStream r s ∧ s.proceeding.state = .idle ∧
      fieldAt r.payload 5 1 = 0 ∧ fieldAt r.payload 6 1 = 2 ∧ readStream ((r.payload.drop 8).take 12) = some o ∧
      readStream ((r.payload.drop 20).take 12) = some e ∧ o ≠ e) := by
  refine ⟨⟨_, streamRequest 1 2 (streamBytes 1 dst ++ streamBytes 1 dst),
      asked _ _ State.reset rfl rfl rfl (by decide +kernel) (by decide +kernel), by decide +kernel⟩, ?_,
    ⟨_, streamRequest 0 2 (streamBytes 1 dst ++ streamBytes 0 ctl),
      { enabled := true, destination := dst, initialCredit := 9, stallLimit := 1, confirmLimit := 10, ackRequired := true },
      { enabled := false, destination := ctl, initialCredit := 9, stallLimit := 1, confirmLimit := 10, ackRequired := true },
      asked _ _ State.reset rfl rfl rfl (by decide +kernel) (by decide +kernel), rfl, by decide +kernel, by decide +kernel,
      by decide +kernel, by decide +kernel, by decide +kernel⟩⟩
  intro b h
  simp only [List.mem_cons, List.not_mem_nil, or_false] at h
  exact ⟨_, streamRequest 0 2 (streamBytes 1 dst ++ b), asked _ _ State.reset rfl rfl rfl
      (by rcases h with rfl | rfl | rfl <;> decide +kernel) (by rcases h with rfl | rfl | rfl <;> decide +kernel), rfl,
    by rcases h with rfl | rfl | rfl <;> decide +kernel, by rcases h with rfl | rfl | rfl <;> decide +kernel,
    by rcases h with rfl | rfl | rfl <;> decide +kernel⟩

/-- A Device Configuration entry with an EtherType, a role code, a Room Master Address and a notice mask. -/
def configBytes (e : Nat) (role : Byte) (m : Mac) (mask : BitVec 32) : List Byte :=
  zeros 12 ++ half e ++ [role, 9] ++ macBytes m ++ zeros 2 ++ wordBytes mask

theorem witness_config_refusals :
    ∀ b ∈ [configBytes 0x5FF 0 0 0, configBytes 0x600 2 0 0, configBytes 0x600 0 everyone 0, configBytes 0x600 0 0 0x100000],
      ∃ (s : State) (r : Request), Asked .writeDeviceConfig r s ∧ (r.payload.drop 8).take 28 = b ∧
        fieldAt r.payload 5 1 = 0 ∧ fieldAt r.payload 6 1 = 1 := by
  intro b h
  simp only [List.mem_cons, List.not_mem_nil, or_false] at h
  exact ⟨_, ask 2 ([5, 0, 1, 0] ++ b), asked _ _ State.reset rfl rfl rfl
      (by rcases h with rfl | rfl | rfl | rfl <;> decide +kernel) (by rcases h with rfl | rfl | rfl | rfl <;> decide +kernel),
    by rcases h with rfl | rfl | rfl | rfl <;> decide +kernel, by rcases h with rfl | rfl | rfl | rfl <;> decide +kernel,
    by rcases h with rfl | rfl | rfl | rfl <;> decide +kernel⟩

/-- A write of more than the one entry, and a change to TERMINAL with full queues and both heads in transmission. -/
theorem witness_config_whole :
    (∃ (s : State) (r : Request), Asked .writeDeviceConfig r s ∧ fieldAt r.payload 5 1 = 1) ∧
    (∃ (s : State) (c : DeviceConfig), s.Settled ∧ Serving s .writeDeviceConfig (writeConfig 1) [] ∧
      readDeviceConfig s.config (((writeConfig 1).payload.drop 8).take 28) = some c ∧ s.config.role = .inlineRole ∧
      c.role = .terminalRole ∧ s.ports.forwardAB.length = 64 ∧ s.ports.forwardBA.length = 64) :=
  ⟨⟨_, ask 2 ([5, 1, 1, 0] ++ configBytes 0x600 0 0 0), asked _ _ State.reset rfl rfl rfl (by decide +kernel) (by decide +kernel),
    by decide +kernel⟩,
   ⟨queued (writeConfig 1) fullQueues, { State.reset.config with role := .terminalRole, closeDelay := 8, noticeMask := 1 },
    by unfold State.Settled; decide +kernel, ⟨rfl, by decide +kernel, by decide +kernel⟩, by decide +kernel, rfl, rfl, rfl, rfl⟩⟩

/-! ## Witnesses: track entries, mark reports, deadlines, SEALED records and lamps -/

/-- Station 0 in a state, its channel 0 on track 0 in group 1, with a frame held at 1,000 and evicted-below at 1,100. -/
def sourced (x : StationState) : State :=
  grouped (withMic { windowed x [{ counter := 1000, samples := List.replicate 144 0x7F }] none with evictedBelow := some 1100 }
    State.reset)

/-- A block of 240 samples from counter 1,000 at station 0. -/
def timedAt1000 : Timings := [some { start := 1000, length := 240 }]

/-- Group 1 with its FORCED mark and its intervals. -/
def handing (forced : Bool) : Vector GroupBlock 8 :=
  (Vector.replicate 8 { intervals := [], forced := false, late := false }).set 0
    { intervals := [(0, 10), (230, 240)], forced := forced, late := true }

theorem witness_untimed_entries :
    (∀ x ∈ [StationState.test, .disabled, .absent, .acquire], (sourced x).stations[(0 : Fin 16)].state = x ∧
      (sourced x).tables.active.tracks[(0 : Fin 48)].station = 0) ∧
    (sourced .coast).stations[(0 : Fin 16)].state = .coast ∧ timingOf [] 0 = none := by
  refine ⟨fun x h => ⟨rfl, rfl⟩, rfl, rfl⟩

/-- The premises on a timed entry: each disposition, the group applied, offsets at the ends of an interval, a sample held at the last
counter of a frame, and lost ones on both sides of evicted-below. -/
theorem witness_timed_entries :
    let s := sourced .track
    let e := s.tables.active.tracks[(0 : Fin 48)]
    let w := s.stations[(0 : Fin 16)].window
    timingOf timedAt1000 e.station = some { start := 1000, length := 240 } ∧ e.group.val = (0 : Fin 8).val + 1 ∧
    s.tables.active.permit[e.role.column] = true ∧ (handing true)[(0 : Fin 8)].forced = true ∧
    (handing false)[(0 : Fin 8)].forced = false ∧
    (∀ o ∈ [0, 9, 230, 239], ∃ p ∈ (handing false)[(0 : Fin 8)].intervals, p.1 ≤ o ∧ o < p.2) ∧
    (∀ o ∈ [10, 47, 48, 99, 100, 229], ∀ p ∈ (handing false)[(0 : Fin 8)].intervals, ¬ (p.1 ≤ o ∧ o < p.2)) ∧
    (∀ h ∈ w, ((1047 : Counter) - h.counter).toNat = 47) ∧ (∀ h ∈ w, 48 ≤ ((1048 : Counter) - h.counter).toNat) ∧
    s.stations[(0 : Fin 16)].evictedBelow = some 1100 ∧ counterDiff 1099 1100 < 0 ∧ counterDiff 1100 1100 = 0 := by decide +kernel

theorem witness_entry_dispositions :
    [CourtMode.onRecord, .closedHearing, .recess].map
      (fun m => dispositionIn (sourced .track).tables.active m .counsel1) = [.openD, .sealedD, .withheldD] := by decide +kernel

/-- R98, R99: the kinds and causes of the block of `witness_timed_entries`, as its clauses give them. -/
theorem test_entry_segments :
    (segmentsOf (trackEntry (sourced .track) .onRecord timedAt1000 (handing false) 0).cells).map
        (fun g => (g.kind, g.cause, g.length)) =
      [(.privileged, .confer, 10), (.audio, .none, 38), (.lost, .overrun, 52), (.lost, .missing, 130), (.privileged, .confer, 10)] := by
  decide +kernel

/-- R97, R98: FORCED makes every sample PRIVILEGED, and RECESS withholds the track whole all the same. -/
theorem test_forced_and_withheld :
    ([CourtMode.onRecord, .recess].map fun m =>
      (segmentsOf (trackEntry (sourced .track) m timedAt1000 (handing true) 0).cells).map (fun g => (g.kind, g.cause, g.length))) =
    [[(.privileged, .forced, 240)], [(.withheldK, .mode, 240)]] := by decide +kernel

/-- Two listed entries, one of them SEALED, one that a late toggle of group 1 reaches. -/
def builds : List TrackBuild :=
  let cells : List Machine.Cell := [{ kind := .audio, cause := .none, value := some 1 }]
  let b : TrackBuild := { track := 0, station := 0, channel := 0, role := .counsel1, group := 1, cause := .none,
                          disposition := .openD, cells := cells, folded := false }
  [b, { b with track := 1, disposition := .sealedD }]

theorem witness_sealed_records :
    (∃ (s : State) (l : List TrackBuild), s.output.sealedS.takesPart = true ∧ ∃ b ∈ l, b.disposition = .sealedD) ∧
    (∃ (s : State) (l : List TrackBuild), s.output.sealedS.takesPart = true ∧ l ≠ [] ∧ ∀ b ∈ l, b.disposition ≠ .sealedD) ∧
    (∃ (s : State) (gb : Vector GroupBlock 8) (b : TrackBuild), b ∈ builds ∧ b.group.val = (0 : Fin 8).val + 1 ∧
      gb[(0 : Fin 8)].late = true ∧ b.cells ≠ [] ∧ s.tables.active.permit[b.role.column] = true ∧ b.disposition ≠ .withheldD) :=
  ⟨⟨modStream .sealedS (fun _ => joined) State.reset, builds, rfl, by decide +kernel⟩,
   ⟨modStream .sealedS (fun _ => joined) State.reset, builds.take 1, rfl, by decide +kernel, by decide +kernel⟩,
   ⟨State.reset, handing false, (builds.headD (builds.getLast (by decide +kernel))), by decide +kernel, by decide +kernel,
    by decide +kernel, by decide +kernel, by decide +kernel, by decide +kernel⟩⟩

/-- The deadline of boundary 6: in ACQUIRE, at and below the coast limit, with boundary 5 unresolved, and with block lengths 231, 232,
248 and 249 to the predicted 1,240. -/
theorem witness_deadlines :
    (∀ x ∈ [StationState.acquire, .track, .coast], ∀ c ∈ [StationEntry.reset.coastLimit - 1, StationEntry.reset.coastLimit],
      (following x .follow c 240).stations[(0 : Fin 16)].state = x ∧
      (following x .follow c 240).stations[(0 : Fin 16)].tracker.coastCount = c ∧
      ((following x .follow c 240).entry 0).coastLimit = StationEntry.reset.coastLimit ∧
      statusOf (following x .follow c 240).stations[(0 : Fin 16)].tracker.boundaries (5 + 1) = some .pending) ∧
    (∀ n ∈ [231, 232, 248, 249], ∃ b : Counter, b = 1240 - BitVec.ofNat 32 n ∧ counterDiff 1240 b = (n : Int) ∧
      statusOf (following .track .hold 0 (480 - n)).stations[(0 : Fin 16)].tracker.boundaries 5 = some (.resolved b)) ∧
    (∀ b, statusOf [({ block := 6, status := .pending } : BoundaryEntry)] 5 ≠ some (.resolved b)) ∧
    roundPosition (positionOf 1000 + BitVec.ofNat 48 Tracker.reset.rate) = 1240 := by
  refine ⟨fun x _ c _ => ⟨rfl, rfl, rfl, rfl⟩, ?_, fun b h => (by cases h), by decide +kernel⟩
  intro n h
  simp only [List.mem_cons, List.not_mem_nil, or_false] at h
  rcases h with rfl | rfl | rfl | rfl <;> exact ⟨_, rfl, by decide +kernel, by decide +kernel⟩

/-- Station 0 in a state, boundary 5 with a status, boundary 6 PENDING, and mark 9 mapped to block 6. -/
def reported (x : StationState) (five six : BoundaryStatus) (coast : Nat) (l : List HeldFrame) : State :=
  let tk := { Tracker.reset with
    position := positionOf 1000, coastCount := coast
    boundaries := [{ block := 5, status := five }, { block := 6, status := six }] }
  let s := withMic { windowed x l none with tracker := tk } State.reset
  { s with timebase := { s.timebase with history := [{ mark := 9, block := 6 }] } }

/-- The premises on a report of mark 9 by a frame at counter 100. -/
theorem reports (x : StationState) (five six : BoundaryStatus) (coast : Nat) (l : List HeldFrame) :
    let s := reported x five six coast l
    s.Settled ∧ s.part.awake = true ∧ audioEventCount (audio 100 9 []).body = 0 ∧
      s.timebase.history.find? (fun e => e.mark == audioMark (audio 100 9 []).body) = some { mark := 9, block := 6 } :=
  ⟨settled_as_reset _ rfl rfl rfl, rfl, by decide +kernel, rfl⟩

theorem witness_reports :
    (∀ y ∈ [BoundaryStatus.void, .resolved 7, .pending], ∀ x ∈ [StationState.acquire, .track, .coast],
      let s := reported x (.resolved 1000) y 0 [heldAt 100]
      arrivesAs s .A (audio 100 9 []) .stationAudio = true ∧ stationOf s (audio 100 9 []) = some 0 ∧
      passesChecks s 0 (audio 100 9 []) = true ∧ s.stations[(0 : Fin 16)].state = x ∧
      statusOf s.stations[(0 : Fin 16)].tracker.boundaries 6 = some y) ∧
    (∀ x ∈ [StationState.track, .coast], ∀ c ∈ [StationEntry.reset.coastLimit - 1, StationEntry.reset.coastLimit],
      let s := reported x .pending .pending c []
      let u := modStation 0 (fun z => { z with silence := 0, window := z.window ++ [heldAt 100] }) s
      arrivesAs s .A (audio 100 9 []) .stationAudio = true ∧ stationOf s (audio 100 9 []) = some 0 ∧
      passesChecks s 0 (audio 100 9 []) = true ∧ s.stations[(0 : Fin 16)].window = [] ∧
      u.stations[(0 : Fin 16)].state = x ∧
      ((resolveByPrediction 0 5 u).stations[(0 : Fin 16)].state = .acquire ↔ c = StationEntry.reset.coastLimit)) := by
  constructor
  · intro y hy x hx
    simp only [List.mem_cons, List.not_mem_nil, or_false] at hx hy
    rcases hx with rfl | rfl | rfl <;> rcases hy with rfl | rfl | rfl <;> decide +kernel
  · intro x hx c hc
    simp only [List.mem_cons, List.not_mem_nil, or_false] at hx hc
    rcases hx with rfl | rfl <;> rcases hc with rfl | rfl <;> decide +kernel

/-- R45's example: 50 by prediction and then 51 by measurement; the station is in TRACK with the coast count 0. -/
theorem test_report_resolves_older :
    (match exec (.stationAudio (audio 100 9 [])) (reported .track .pending .pending 0 []) with
     | .next t =>
       let x := t.stations[(0 : Fin 16)]
       (x.state, x.tracker.coastCount, statusOf x.tracker.boundaries 5)
     | .fault _ => (.absent, 9, none)
     | .refused _ => (.absent, 9, none)) = (.track, 0, some (.resolved 1240)) := by decide +kernel

/-- A boundary that closes block −2, its first, with track 0 mapped in a mode that seals it, both streams taking part. -/
def closingSealed : State :=
  let s := modStream .sealedS (fun _ => joined) (grouped (closing false))
  { s with mode := { s.mode with current := .closedHearing, latch := [{ block := -2, mode := .closedHearing }] } }

theorem witness_sealed_close :
    closingSealed.assembler.next = some (-2) ∧ closingSealed.proceeding.first = some (-2) ∧
      isBlockClose closingSealed (-2) = true ∧ closingSealed.tables.staged = false ∧
      closingSealed.output.sealedS.takesPart = true ∧ closingSealed.output.sealedS.stallRun = none ∧
      closingSealed.output.openS.held + closingSealed.output.sealedS.held < 2047 ∧ (closing false).output.sealedS.takesPart = false ∧
      closingSealed.tables.active.tracks[(0 : Fin 48)].mapped = true ∧
      dispositionIn closingSealed.tables.active (latchedMode closingSealed (-2)) .counsel1 = .sealedD := by decide +kernel

/-- R102: the SEALED record of that block lists track 0, as the OPEN record does. -/
theorem test_sealed_record :
    (match exec .guardExpiry closingSealed with
     | .next t => (t.output.openS.fifo ++ t.output.sealedS.fifo).map (fun q => match q.record with
         | .block r => (r.stream, r.block, r.items.map (fun y => (y.track, y.disposition)))
         | .run _ => (.openS, 0, [])
         | .close => (.openS, 0, []))
     | .fault _ => []
     | .refused _ => []) = [(.openS, -2, [(0, .sealedD)]), (.sealedS, -2, [(0, .sealedD)])] := by decide +kernel

/-- Track 0 in a proceeding state and a mode, with its override and the request of its group. -/
def lit (p : ProceedingState) (m : CourtMode) (o : Option Lamp) (requested : Bool) : State :=
  let s := inState p (grouped State.reset)
  { modGroup 0 (fun g => { g with requested := requested }) s with
    mode := { s.mode with current := m }, tally := { s.tally with override := s.tally.override.set 0 o } }

/-- R75's seven cases, in its order. -/
theorem test_lamps :
    [lampOf (lit .confirming .onRecord (some .flash) true) 0, lampOf (lit .opened .onRecord (some .flash) true) 1,
     lampOf (lit .draining .recess (some .amber) true) 0, lampOf (lit .opened .recess none true) 0,
     lampOf (lit .opened .onRecord none true) 0, lampOf (lit .opened .onRecord none false) 0,
     lampOf (lit .opened .closedHearing none false) 0] = [.off, .off, .amber, .off, .flash, .red, .amber] := by decide +kernel

end Sys2Proof.Tests
end

section
/-!
PROOFS. The bounds that every step keeps (R13, R66, R79, R83, R113, R115, R121, R159, R161, R162, R168): a relation between two states
that says each bound carries over from the first to the second, one lemma per operation of the model that extends it by that operation,
and the five invariants of a step.
-/

namespace Sys2Proof.Machine

/-! ## The relation -/

/-- Each of the five bounds that holds of the first state holds of the second, each on its own. -/
structure WithinBounds (s t : State) : Prop where
  toggles : s.TogglesBounded → t.TogglesBounded
  credits : s.CreditsBounded → t.CreditsBounded
  lists : s.ListsBounded → t.ListsBounded
  store : s.StoreBounded → t.StoreBounded
  queues : s.QueuesBounded → t.QueuesBounded

/-- The bounds carry over, and no REPLY more waits: what everything but the placing of a REPLY does (R162). -/
structure KeepsBounds (s t : State) : Prop extends WithinBounds s t where
  replies : repliesWaiting t ≤ repliesWaiting s

/-- The fields that the bounds speak of. -/
def State.boundedFields (s : State) :=
  (s.groups, s.output, s.mode.stack, s.management.requests, s.timebase.history, s.ports.forwardAB, s.ports.forwardBA,
    s.ports.control, s.ports.management)

theorem WithinBounds.trans {s t u : State} (h : WithinBounds s t) (k : WithinBounds t u) : WithinBounds s u :=
  ⟨k.toggles ∘ h.toggles, k.credits ∘ h.credits, k.lists ∘ h.lists, k.store ∘ h.store, k.queues ∘ h.queues⟩

theorem KeepsBounds.refl (s : State) : KeepsBounds s s := ⟨⟨id, id, id, id, id⟩, le_rfl⟩

theorem KeepsBounds.trans {s t u : State} (h : KeepsBounds s t) (k : KeepsBounds t u) : KeepsBounds s u :=
  ⟨h.toWithinBounds.trans k.toWithinBounds, k.replies.trans h.replies⟩

/-- A change outside the bounded fields keeps the bounds. -/
theorem KeepsBounds.congr {s t u : State} (h : KeepsBounds s t) (e : u.boundedFields = t.boundedFields) :
    KeepsBounds s u := by
  simp only [State.boundedFields, Prod.mk.injEq] at e
  obtain ⟨hg, ho, hm, hr, hh, hab, hba, hc, hq⟩ := e
  refine h.trans ⟨⟨?_, ?_, ?_, ?_, ?_⟩, ?_⟩
  · simp only [State.TogglesBounded, hg, imp_self]
  · simp only [State.CreditsBounded, State.stream, ho, imp_self]
  · simp only [State.ListsBounded, hm, hr, hh, imp_self]
  · simp only [State.StoreBounded, ho, imp_self]
  · simp only [State.QueuesBounded, hab, hba, hc, hq, imp_self]
  · simp only [repliesWaiting, hq, le_refl]

/-- Work on every index keeps the bounds when the work on each does. -/
theorem KeepsBounds.after_forEach {s t : State} (h : KeepsBounds s t) {n : Nat} {f : Fin n → State → State}
    (hf : ∀ i u, KeepsBounds s u → KeepsBounds s (f i u)) : KeepsBounds s (forEach n f t) :=
  forEach_keeps n f (KeepsBounds s) hf t h

/-- Work on every element of a list keeps the bounds when the work on each does. -/
theorem KeepsBounds.after_foldl {α : Type} {s t : State} (h : KeepsBounds s t) {l : List α} {f : State → α → State}
    (hf : ∀ u a, KeepsBounds s u → KeepsBounds s (f u a)) : KeepsBounds s (l.foldl f t) :=
  List.foldlRecOn l f h fun u hu a _ => hf u a hu

/-! ## Updates of one part -/

/-- A stream's credits are in range (R113, R121). -/
def StreamState.CreditOk (x : StreamState) : Prop := x.credit ≤ 255 ∧ x.entry.initialCredit ≤ 255

variable {s t : State}

theorem KeepsBounds.after_modPort (h : KeepsBounds s t) {p : Port} {f : PortStatus → PortStatus} :
    KeepsBounds s (modPort p f t) := by
  cases p <;> exact h.congr rfl

theorem KeepsBounds.after_modStation (h : KeepsBounds s t) {i : Fin 16} {f : Station → Station} :
    KeepsBounds s (modStation i f t) := h.congr rfl

theorem KeepsBounds.after_modTracker (h : KeepsBounds s t) {i : Fin 16} {f : Tracker → Tracker} :
    KeepsBounds s (modTracker i f t) := h.congr rfl

theorem KeepsBounds.after_logFault (h : KeepsBounds s t) {k : Fin 6} {o : Occurrence} :
    KeepsBounds s (logFault k o t) := h.congr rfl

theorem KeepsBounds.after_setEngine (h : KeepsBounds s t) {e : EngineState} : KeepsBounds s (setEngine e t) := h.congr rfl

theorem KeepsBounds.after_engine (h : KeepsBounds s t) {e : Engine} : KeepsBounds s { t with engine := e } := h.congr rfl

theorem KeepsBounds.after_tally (h : KeepsBounds s t) {x : TallyUnit} : KeepsBounds s { t with tally := x } := h.congr rfl

theorem KeepsBounds.after_tables (h : KeepsBounds s t) {x : TableSet} : KeepsBounds s { t with tables := x } := h.congr rfl

theorem KeepsBounds.after_stations (h : KeepsBounds s t) {v : Vector Station 16} :
    KeepsBounds s { t with stations := v } := h.congr rfl

theorem KeepsBounds.after_assembler (h : KeepsBounds s t) {x : Assembler} : KeepsBounds s { t with assembler := x } :=
  h.congr rfl

theorem KeepsBounds.after_proceeding (h : KeepsBounds s t) {x : Proceeding} : KeepsBounds s { t with proceeding := x } :=
  h.congr rfl

/-- A new timebase keeps the bounds when it keeps Mark History's. -/
theorem KeepsBounds.after_timebase (h : KeepsBounds s t) {x : Timebase}
    (hx : t.timebase.history.length ≤ 16 → x.history.length ≤ 16 := by exact id) : KeepsBounds s { t with timebase := x } :=
  h.trans ⟨⟨id, id, fun ⟨hm, hr, hh⟩ => ⟨hm, hr, hx hh⟩, id, id⟩, le_rfl⟩

/-- New groups keep the bounds when each keeps its Toggle List's. -/
theorem KeepsBounds.after_groups (h : KeepsBounds s t) {v : Vector ConferGroup 8}
    (hv : ∀ g : Fin 8, (t.groups[g]).toggles.length ≤ 8 → (v[g]).toggles.length ≤ 8) :
    KeepsBounds s { t with groups := v } :=
  h.trans ⟨⟨fun ht g => hv g (ht g), id, id, id, id⟩, le_rfl⟩

theorem KeepsBounds.after_modGroup (h : KeepsBounds s t) {g : Fin 8} {f : ConferGroup → ConferGroup}
    (hf : (t.groups[g]).toggles.length ≤ 8 → (f t.groups[g]).toggles.length ≤ 8) : KeepsBounds s (modGroup g f t) := by
  refine h.after_groups fun k hk => ?_
  by_cases e : k = g
  · subst e
    rw [modifyAt_self]
    exact hf hk
  · rwa [modifyAt_other _ _ _ _ e]

/-- A new Record Output keeps the bounds when each stream keeps its credits' and no stream holds more stored records. -/
theorem KeepsBounds.after_output (h : KeepsBounds s t) {o : RecordOutput}
    (hc : ∀ st, (t.output.stream st).CreditOk → (o.stream st).CreditOk)
    (hh : ∀ st, (o.stream st).held ≤ (t.output.stream st).held) : KeepsBounds s { t with output := o } := by
  have ho : o.openS.held ≤ t.output.openS.held := hh .openS
  have hz : o.sealedS.held ≤ t.output.sealedS.held := hh .sealedS
  refine h.trans ⟨⟨id, fun ht st => hc st (ht st), id, fun ht => ?_, id⟩, le_rfl⟩
  obtain ⟨both, sealedOnes⟩ := ht
  exact ⟨(Nat.add_le_add ho hz).trans both, hz.trans sealedOnes⟩

/-- A stream changed keeps the bounds when it keeps its credits' and holds no more stored records. -/
theorem KeepsBounds.after_modStream (h : KeepsBounds s t) {st : Stream} {f : StreamState → StreamState}
    (hc : (t.stream st).CreditOk → (f (t.stream st)).CreditOk) (hh : (f (t.stream st)).held ≤ (t.stream st).held) :
    KeepsBounds s (modStream st f t) := by
  cases st with
  | openS =>
    exact h.after_output (fun st => match st with | .openS => hc | .sealedS => id)
      (fun st => match st with | .openS => hh | .sealedS => le_rfl)
  | sealedS =>
    exact h.after_output (fun st => match st with | .openS => id | .sealedS => hc)
      (fun st => match st with | .openS => le_rfl | .sealedS => hh)

/-! ## The queues toward the ports -/

/-- A NOTICE placed leaves the replies that wait, and one NOTICE alone waits (R162). -/
theorem KeepsBounds.after_queueNotice (h : KeepsBounds s t) {f : Frame} : KeepsBounds s (queueNotice f t) := by
  refine h.trans ?_
  have notices (q : List ManagementFrame) (m : ManagementFrame) (hm : m.notice = true) (p : Bool → Bool) :
      ((q.map (fun x => if x.notice then m else x)).filter (fun x => p x.notice)).length =
        (q.filter (fun x => p x.notice)).length := by
    rw [List.filter_map, List.length_map]
    congr 2
    funext x
    cases hx : x.notice <;> simp [hx, hm]
  unfold queueNotice
  simp only
  split
  · refine ⟨⟨id, id, id, id, fun ⟨hab, hba, hc, hr, hn⟩ => ⟨hab, hba, hc, ?_, ?_⟩⟩, ?_⟩
    · exact (notices t.ports.management _ rfl (!·)).le.trans hr
    · exact (notices t.ports.management _ rfl id).le.trans hn
    · exact (notices t.ports.management _ rfl (!·)).le
  · next hno =>
    have none_waits : t.ports.management.filter (·.notice) = [] := by
      simpa [List.filter_eq_nil_iff] using hno
    refine ⟨⟨id, id, id, id, fun ⟨hab, hba, hc, hr, hn⟩ => ⟨hab, hba, hc, ?_, ?_⟩⟩, ?_⟩
    · simpa using hr
    · simp [none_waits]
    · simp [repliesWaiting]

theorem KeepsBounds.after_buildNotice (h : KeepsBounds s t) : KeepsBounds s (buildNotice t) :=
  h.after_queueNotice.congr rfl

theorem KeepsBounds.after_raise (h : KeepsBounds s t) {f : EventFlag} : KeepsBounds s (raise f t) := by
  unfold raise
  split
  · exact h
  · unfold noticeRise
    split
    · exact h.congr rfl
    · split
      · exact h.congr rfl
      · exact KeepsBounds.after_buildNotice (h.congr rfl)

theorem KeepsBounds.after_endHoldoff (h : KeepsBounds s t) : KeepsBounds s (endHoldoff t) := by
  unfold endHoldoff
  simp only
  split
  · exact KeepsBounds.after_buildNotice (h.congr rfl)
  · exact h.congr rfl

/-- A control queue of at most 64 frames keeps the bounds. -/
theorem KeepsBounds.after_control (h : KeepsBounds s t) {q : List ControlFrame} {d : Nat}
    (hq : t.ports.control.length ≤ 64 → q.length ≤ 64) :
    KeepsBounds s { t with ports := { t.ports with control := q, tallyDrop := d } } :=
  h.trans ⟨⟨id, id, id, id, fun ⟨hab, hba, hc, hr, hn⟩ => ⟨hab, hba, hq hc, hr, hn⟩⟩, le_rfl⟩

theorem KeepsBounds.after_queueTally (h : KeepsBounds s t) {f : Frame} : KeepsBounds s (queueTally f t) := by
  unfold queueTally
  split
  · next room => exact h.after_control fun _ => by simpa [controlQueueSize] using room
  · exact h.congr rfl

/-- With a TALLY frame in the queue, the newest leaves one place (R161). -/
theorem length_dropNewestTally (q : List ControlFrame) (h : q.any (·.tally) = true) :
    (dropNewestTally q).length = q.length - 1 := by
  obtain ⟨c, hc, ht⟩ := List.any_eq_true.mp h
  unfold dropNewestTally
  rw [List.length_reverse, List.length_eraseP_of_mem (List.mem_reverse.mpr hc) ht, List.length_reverse]

theorem KeepsBounds.after_queueTestCommand (h : KeepsBounds s t) {f : Frame} : KeepsBounds s (queueTestCommand f t) := by
  unfold queueTestCommand
  simp only
  split
  · next room => exact h.after_control fun _ => by simpa [controlQueueSize] using room
  · next full =>
    have places : 64 ≤ t.ports.control.length := Nat.le_of_not_lt full
    split
    · next tally =>
      refine h.after_control fun hq => ?_
      rw [List.length_append, length_dropNewestTally _ tally, List.length_singleton]
      omega
    · refine h.after_control fun hq => ?_
      rw [List.length_append, List.length_drop, List.length_singleton]
      omega

/-- A REPLY placed while fewer than 7 wait stays within the bounds (R162). -/
theorem queueReply_withinBounds (a : AfterReply) (f : Frame) (room : repliesWaiting t < 7) :
    WithinBounds t (queueReply a f t) := by
  refine ⟨id, id, id, id, fun ⟨hab, hba, hc, hr, hn⟩ => ⟨hab, hba, hc, ?_, ?_⟩⟩
  · unfold repliesWaiting at room
    simpa using room
  · simpa using hn

/-- New forwarding queues keep the bounds when each keeps its own. -/
theorem KeepsBounds.after_forwarding (h : KeepsBounds s t) {x y : List Frame} {d e : Nat}
    (hx : t.ports.forwardAB.length ≤ 64 → x.length ≤ 64) (hy : t.ports.forwardBA.length ≤ 64 → y.length ≤ 64) :
    KeepsBounds s { t with ports := { t.ports with forwardAB := x, forwardBA := y, dropAB := d, dropBA := e } } :=
  h.trans ⟨⟨id, id, id, id, fun ⟨hab, hba, hc, hr, hn⟩ => ⟨hx hab, hy hba, hc, hr, hn⟩⟩, le_rfl⟩

theorem KeepsBounds.after_forwardFrom (h : KeepsBounds s t) {p : Port} {f : Frame} : KeepsBounds s (forwardFrom p f t) := by
  unfold forwardFrom
  split
  · exact h
  · cases p with
    | A =>
      simp only
      split
      · next room => exact h.after_forwarding (fun _ => by simpa [forwardQueueSize] using room) id
      · exact h.congr rfl
    | B =>
      simp only
      split
      · next room => exact h.after_forwarding id (fun _ => by simpa [forwardQueueSize] using room)
      · exact h.congr rfl

theorem KeepsBounds.after_popForwarded (h : KeepsBounds s t) {p : Port} : KeepsBounds s (popForwarded p t) := by
  cases p with
  | A => exact h.after_forwarding id (fun hy => (List.drop_sublist ..).length_le.trans hy)
  | B => exact h.after_forwarding (fun hx => (List.drop_sublist ..).length_le.trans hx) id

theorem KeepsBounds.after_emptyForwarding (h : KeepsBounds s t) : KeepsBounds s (emptyForwarding t) :=
  (h.after_forwarding (x := []) (y := []) (d := 0) (e := 0) (fun _ => Nat.zero_le _) (fun _ => Nat.zero_le _)).congr rfl

end Sys2Proof.Machine
end

section
/-! PROOFS. The bounds under the operations of the stations, the Tally, Mode and Confer Units, the Tap/Test Engine and the tables. -/

namespace Sys2Proof.Machine

variable {s t : State}

/-! ## Stations and trackers -/

theorem KeepsBounds.after_flushStation (h : KeepsBounds s t) {i : Fin 16} : KeepsBounds s (flushStation i t) := by
  refine h.after_groups fun g hg => ?_
  simp only [Fin.getElem_fin, Vector.getElem_ofFn, Fin.eta]
  split
  · exact Nat.zero_le _
  · exact hg

theorem KeepsBounds.after_flushAll (h : KeepsBounds s t) : KeepsBounds s (flushAll t) := by
  refine h.after_groups fun g hg => ?_
  simp [mapTable, ConferGroup.flush]

theorem KeepsBounds.after_flushMoved (h : KeepsBounds s t) {a b : Tables} : KeepsBounds s (flushMoved a b t) := by
  refine h.after_groups fun g hg => ?_
  simp only [Fin.getElem_fin, Vector.getElem_ofFn, Fin.eta]
  split
  · exact hg
  · exact Nat.zero_le _

theorem KeepsBounds.after_setStationState (h : KeepsBounds s t) {i : Fin 16} {x : StationState} :
    KeepsBounds s (setStationState i x t) := by
  rcases setStationState_spec i x t with e | e <;> rw [e]
  · exact h
  · exact h.after_modStation.after_raise

theorem KeepsBounds.after_enterIdleState (h : KeepsBounds s t) {i : Fin 16} {x : StationState} :
    KeepsBounds s (enterIdleState i x t) :=
  h.after_modStation.after_setStationState.after_flushStation

theorem KeepsBounds.after_enterTest (h : KeepsBounds s t) {i : Fin 16} : KeepsBounds s (enterTest i t) :=
  h.after_modStation.after_setStationState

theorem KeepsBounds.after_enterAcquire (h : KeepsBounds s t) {i : Fin 16} : KeepsBounds s (enterAcquire i t) :=
  h.after_modStation.after_setStationState

theorem KeepsBounds.after_countJitter (h : KeepsBounds s t) {i : Fin 16} : KeepsBounds s (countJitter i t) := by
  unfold countJitter
  simp only
  split
  · exact h.after_modStation.after_raise.after_modTracker
  · exact h.after_modStation

theorem KeepsBounds.after_countLate (h : KeepsBounds s t) {i : Fin 16} : KeepsBounds s (countLate i t) := by
  unfold countLate
  simp only
  split
  · exact KeepsBounds.after_assembler h.after_modStation.after_raise.after_modStation
  · exact h.after_modStation

theorem KeepsBounds.after_formatEffect (h : KeepsBounds s t) {i : Fin 16} : KeepsBounds s (formatEffect i t) := by
  unfold formatEffect
  simp only
  split
  · exact h.after_raise.after_modStation.after_enterAcquire
  · exact h.after_raise.after_modStation

theorem KeepsBounds.after_countFormat (h : KeepsBounds s t) {i : Fin 16} {f : Frame} :
    KeepsBounds s (countFormat i f t) := by
  unfold countFormat
  simp only
  split
  · exact h.after_modStation.after_logFault.after_formatEffect
  · exact h.after_modStation.after_logFault

theorem KeepsBounds.after_resolveByPrediction (h : KeepsBounds s t) {i : Fin 16} {j : BlockNo} :
    KeepsBounds s (resolveByPrediction i j t) := by
  unfold resolveByPrediction
  simp only
  split
  · split
    · exact h.after_modTracker.after_setStationState.after_enterAcquire
    · exact h.after_modTracker.after_setStationState
  · exact h.after_modTracker
  · exact h.after_modTracker

theorem KeepsBounds.after_trackWith (h : KeepsBounds s t) {i : Fin 16} {x : Tracker} : KeepsBounds s (trackWith i x t) :=
  h.after_modTracker.after_setStationState

theorem KeepsBounds.after_resolveByMeasurement (h : KeepsBounds s t) {i : Fin 16} {j : BlockNo} {m : Counter} :
    KeepsBounds s (resolveByMeasurement i j m t) := by
  unfold resolveByMeasurement
  simp only
  split
  · split
    · exact h.after_trackWith
    · split
      · exact h.after_trackWith
      · exact h.after_trackWith.after_countJitter
  · exact h.after_trackWith
  · exact h.after_trackWith

theorem KeepsBounds.after_acquireOn (h : KeepsBounds s t) {i : Fin 16} {j : BlockNo} {m : Counter} :
    KeepsBounds s (acquireOn i j m t) :=
  h.after_modStation.after_setStationState

theorem KeepsBounds.after_useMeasurement (h : KeepsBounds s t) {i : Fin 16} {j : BlockNo} {m : Counter} :
    KeepsBounds s (useMeasurement i j m t) := by
  have older {l : List BlockNo} : KeepsBounds s (l.foldl (resolveOlder i) t) := by
    refine h.after_foldl fun u b hu => ?_
    unfold resolveOlder
    split
    · exact hu.after_resolveByPrediction
    · exact hu
  unfold useMeasurement
  split
  · exact h.after_acquireOn
  · simp only
    split
    · exact older.after_acquireOn
    · exact older.after_resolveByMeasurement

theorem KeepsBounds.after_takeReport (h : KeepsBounds s t) {i : Fin 16} {m : MarkNo} {c : Counter} :
    KeepsBounds s (takeReport i m c t) := by
  unfold takeReport
  split
  · exact h
  · split
    · exact h.after_useMeasurement
    · exact h

theorem KeepsBounds.after_resolveDeadline (h : KeepsBounds s t) {i : Fin 16} {j : BlockNo} :
    KeepsBounds s (resolveDeadline i j t) := by
  unfold resolveDeadline
  split
  · split
    · exact h.after_resolveByPrediction
    · exact h.after_modTracker
  · exact h

theorem KeepsBounds.after_closeTiming (h : KeepsBounds s t) {i : Fin 16} {k : BlockNo} :
    KeepsBounds s (closeTiming i k t).1 := by
  unfold closeTiming
  split
  · simp only
    split
    · split
      · exact h.after_resolveDeadline
      · exact h.after_resolveDeadline.after_enterAcquire.after_raise.after_logFault
    · exact h.after_resolveDeadline
  · exact h

/-- The stations' timings are taken one station after another: what each keeps, all keep (R56). -/
theorem closeTimings_keeps (P : State → Prop) (k : BlockNo) (hP : ∀ i u, P u → P (closeTiming i k u).1) (ht : P t) :
    P (closeTimings k t).1 := by
  unfold closeTimings
  exact List.foldlRecOn (motive := fun acc : State × Timings => P acc.1) _ _ ht fun acc h i _ => hP i acc.1 h

theorem KeepsBounds.after_closeTimings (h : KeepsBounds s t) {k : BlockNo} : KeepsBounds s (closeTimings k t).1 :=
  closeTimings_keeps (KeepsBounds s) k (fun _ _ hu => hu.after_closeTiming) h

theorem KeepsBounds.after_jumpStations (h : KeepsBounds s t) : KeepsBounds s (jumpStations t) := by
  refine h.after_forEach fun i u hu => ?_
  split
  · exact hu.after_enterAcquire
  · exact hu

/-! ## Lamps -/

theorem KeepsBounds.after_sendTally (h : KeepsBounds s t) {i : Fin 16} : KeepsBounds s (sendTally i t) := by
  unfold sendTally
  split
  · exact h.after_queueTally
  · exact h

theorem KeepsBounds.after_recomputeLamps (h : KeepsBounds s t) : KeepsBounds s (recomputeLamps t) := by
  unfold recomputeLamps
  split
  · refine KeepsBounds.after_forEach h.after_tally fun i u hu => ?_
    split
    · exact hu.after_sendTally
    · exact hu
  · exact h

theorem KeepsBounds.after_sendRefresh (h : KeepsBounds s t) : KeepsBounds s (sendRefresh t) :=
  KeepsBounds.after_tally (h.after_forEach fun _ _ hu => hu.after_sendTally)

theorem KeepsBounds.after_countRefresh (h : KeepsBounds s t) : KeepsBounds s (countRefresh t) := h.after_tally

/-! ## The Tap/Test Engine -/

theorem KeepsBounds.after_sendTestCommand (h : KeepsBounds s t) {a : Mac} {b : Bool} {d : Nat} :
    KeepsBounds s (sendTestCommand a b d t) := h.after_queueTestCommand

theorem KeepsBounds.after_endTest (h : KeepsBounds s t) {r : TestResult} : KeepsBounds s (endTest r t) := by
  unfold endTest
  split
  · refine KeepsBounds.after_setEngine (KeepsBounds.after_raise (KeepsBounds.after_engine ?_))
    · split
      · exact h.after_sendTestCommand.after_enterAcquire
      · exact h.after_sendTestCommand
  · exact h
  · exact h

theorem KeepsBounds.after_reexamineTest (h : KeepsBounds s t) : KeepsBounds s (reexamineTest t) := by
  unfold reexamineTest
  split
  · split
    · exact h.after_endTest
    · exact h
  · exact h
  · exact h

theorem KeepsBounds.after_abortTestOf (h : KeepsBounds s t) {i : Fin 16} : KeepsBounds s (abortTestOf i t) := by
  unfold abortTestOf
  split
  · split
    · exact h.after_endTest
    · exact h
  · exact h
  · exact h

theorem KeepsBounds.after_countTest (h : KeepsBounds s t) : KeepsBounds s (countTest t) := by
  unfold countTest
  split
  · exact h.after_setEngine
  · exact h
  · exact h

theorem KeepsBounds.after_checkPattern (h : KeepsBounds s t) {c : Counter} {l : List Byte} :
    KeepsBounds s (checkPattern c l t) := by
  unfold checkPattern
  split
  · exact h.after_engine
  · exact h
  · exact h

theorem KeepsBounds.after_attachTap (h : KeepsBounds s t) {x : Tap} : KeepsBounds s (attachTap x t) := by
  unfold attachTap
  split
  · exact h.after_endTest.after_engine
  · exact h.after_engine
  · exact h.after_engine

theorem KeepsBounds.after_startTest (h : KeepsBounds s t) {i : Fin 16} {d : Nat} : KeepsBounds s (startTest i d t) :=
  KeepsBounds.after_enterTest (KeepsBounds.after_sendTestCommand h.after_engine)

/-! ## The Mode Unit -/

/-- A mode operation keeps the bounds when its Mode Stack holds at most 4 modes where the present one does (R66). -/
theorem KeepsBounds.after_applyMode (h : KeepsBounds s t) {b : Bool} {p : ModePair}
    (hp : t.mode.stack.length ≤ 4 → p.stack.length ≤ 4) : KeepsBounds s (applyMode b p t) := by
  have changed : KeepsBounds s { t with mode := { t.mode with current := p.current, stack := p.stack } } :=
    h.trans ⟨⟨id, id, fun ⟨hm, hr, hh⟩ => ⟨hp hm, hr, hh⟩, id, id⟩, le_rfl⟩
  have flagged : KeepsBounds s (if p = t.modePair then
      { t with mode := { t.mode with current := p.current, stack := p.stack } }
      else raise .modeChanged { t with mode := { t.mode with current := p.current, stack := p.stack } }) := by
    split
    · exact changed
    · exact changed.after_raise
  unfold applyMode
  simp only
  split
  · split
    · exact flagged.after_raise
    · exact flagged
  · split
    · exact flagged.after_raise.after_recomputeLamps.after_reexamineTest
    · exact flagged.after_recomputeLamps.after_reexamineTest

/-- A push leaves at most 4 saved modes (R66). -/
theorem length_pushPair (m : CourtMode) (p : ModePair) (h : p.stack.length ≤ 4) : (pushPair m p).stack.length ≤ 4 := by
  unfold pushPair stackSize
  split
  · next room => simpa using room
  · rw [List.length_append, List.length_drop, List.length_singleton]
    omega

/-- A pop leaves no more saved modes (R67). -/
theorem length_popPair {p q : ModePair} (h : popPair p = some q) : q.stack.length ≤ p.stack.length := by
  unfold popPair at h
  split at h
  · cases h
    simp
  · cases h

theorem length_endSidebarPair (p : ModePair) : (endSidebarPair p).stack.length ≤ p.stack.length := by
  unfold endSidebarPair
  split
  · cases hp : popPair p with
    | none => exact Nat.zero_le _
    | some q => exact length_popPair hp
  · exact le_rfl

theorem KeepsBounds.after_replaceMode (h : KeepsBounds s t) {m : CourtMode} : KeepsBounds s (replaceMode m t) :=
  h.after_applyMode fun _ => Nat.zero_le _

theorem KeepsBounds.after_pushModeTo (h : KeepsBounds s t) {m : CourtMode} : KeepsBounds s (pushModeTo m t) :=
  h.after_applyMode fun ht => length_pushPair m _ ht

theorem KeepsBounds.after_endSidebar (h : KeepsBounds s t) : KeepsBounds s (endSidebar t) :=
  h.after_applyMode fun ht => (length_endSidebarPair _).trans ht

theorem KeepsBounds.after_applyModeEvent (h : KeepsBounds s t) {e : ModeEvent} : KeepsBounds s (applyModeEvent e t) := by
  cases e with
  | goOnRecord => exact h.after_replaceMode
  | goOffRecord => exact h.after_replaceMode
  | callRecess => exact h.after_replaceMode
  | beginSidebar => exact h.after_pushModeTo
  | beginClosed => exact h.after_pushModeTo
  | endSidebar => exact h.after_endSidebar

/-! ## The Confer Unit -/

theorem KeepsBounds.after_recordToggle (h : KeepsBounds s t) {g : Fin 8} {i : Fin 16} {d : Bool} {c : Counter} :
    KeepsBounds s (recordToggle g i d c t) := by
  unfold recordToggle
  split
  · exact h.after_modGroup id
  · split
    · next room => exact h.after_modGroup fun _ => by simpa [toggleListSize] using room
    · exact KeepsBounds.after_raise (h.after_modGroup id)

theorem KeepsBounds.after_takeToggle (h : KeepsBounds s t) {i : Fin 16} {ch : Nat} {d : Bool} {c : Counter} :
    KeepsBounds s (takeToggle i ch d c t) := by
  unfold takeToggle
  split
  · unfold takeToggleOf
    split
    · exact h
    · split
      · exact KeepsBounds.after_recomputeLamps (h.after_modGroup id)
      · exact KeepsBounds.after_recordToggle (KeepsBounds.after_recomputeLamps (h.after_modGroup id))
  · exact h

theorem KeepsBounds.after_consumeGroups (h : KeepsBounds s t) {ts : Timings} : KeepsBounds s (consumeGroups ts t) := by
  refine h.after_groups fun g hg => ?_
  simp only [Fin.getElem_fin, Vector.getElem_ofFn, Fin.eta]
  split
  · exact (List.length_filter_le ..).trans hg
  · exact hg

theorem KeepsBounds.after_reexamineForced (h : KeepsBounds s t) {ts : Timings} :
    KeepsBounds s (reexamineForced ts t) := by
  refine h.after_groups fun g hg => ?_
  simp only [Fin.getElem_fin, Vector.getElem_ofFn, Fin.eta]
  split
  · unfold ConferGroup.reexamine
    split
    · exact hg
    · exact hg
  · exact hg

/-! ## The tables -/

theorem KeepsBounds.after_applyEntry (h : KeepsBounds s t) {i : Fin 16} {old new : StationEntry} :
    KeepsBounds s (applyEntry i old new t) := by
  have state : KeepsBounds s (applyEntryState i old new t) := by
    unfold applyEntryState
    split
    · split
      · exact h
      · exact h.after_enterIdleState
    · split
      · exact h.after_enterIdleState
      · split
        · exact h
        · exact KeepsBounds.after_modStation h.after_enterIdleState
  unfold applyEntry
  simp only
  split
  · exact state.after_abortTestOf.after_modTracker
  · exact state.after_modTracker

theorem KeepsBounds.after_activate (h : KeepsBounds s t) {w : Vector Bool 16} {new : Tables} :
    KeepsBounds s (activate w new t) := by
  have entries : KeepsBounds s (applyEntries w t.tables.active new { t with tables :=
      { active := new, shadow := new, staged := false, written := Vector.replicate 16 false,
        mapGeneration := t.tables.mapGeneration + 1 } }) := by
    refine KeepsBounds.after_forEach h.after_tables fun i u hu => ?_
    split
    · exact hu.after_applyEntry
    · exact hu
  exact entries.after_flushMoved.after_recomputeLamps

theorem KeepsBounds.after_applyStaged (h : KeepsBounds s t) : KeepsBounds s (applyStaged t) := by
  unfold applyStaged
  split
  · exact h.after_activate.after_raise
  · exact h

theorem KeepsBounds.after_commitTables (h : KeepsBounds s t) {w : Vector Bool 16} {new : Tables} :
    KeepsBounds s (commitTables w new t) := by
  unfold commitTables
  split
  · exact h.after_activate
  · exact h.after_tables

theorem KeepsBounds.after_writeConfig (h : KeepsBounds s t) {c : DeviceConfig} : KeepsBounds s (writeConfig c t) := by
  unfold writeConfig
  simp only
  split
  · exact KeepsBounds.after_emptyForwarding (h.congr rfl)
  · exact h.congr rfl

end Sys2Proof.Machine
end

section
/-! PROOFS. The bounds under Record Output, Proceeding Control, the boundary, the resets and the Cadence Timebase. -/

namespace Sys2Proof.Machine

variable {s t : State}

/-! ## Record Output -/

theorem followStall_fifo (x : StreamState) : x.followStall.fifo = x.fifo := by
  unfold StreamState.followStall
  split
  · split <;> rfl
  · rfl

theorem followStall_credit (x : StreamState) : x.followStall.credit = x.credit := by
  unfold StreamState.followStall
  split
  · split <;> rfl
  · rfl

theorem followStall_entry (x : StreamState) : x.followStall.entry = x.entry := by
  unfold StreamState.followStall
  split
  · split <;> rfl
  · rfl

theorem followStall_creditOk {x : StreamState} (h : x.CreditOk) : x.followStall.CreditOk := by
  unfold StreamState.CreditOk
  rwa [followStall_credit, followStall_entry]

theorem held_followStall (x : StreamState) : x.followStall.held = x.held := by
  unfold StreamState.held
  rw [followStall_fifo]

theorem held_append_stored (r : Record) (x : StreamState) : (x.append r true).held = x.held + 1 := by
  simp [StreamState.held, StreamState.append]

theorem held_append_handed (r : Record) (x : StreamState) : (x.append r false).held = x.held := by
  simp [StreamState.held, StreamState.append]

/-- A shorter FIFO holds no more stored records. -/
theorem held_le_of_sublist {x y : StreamState} (h : x.fifo.Sublist y.fifo) : x.held ≤ y.held :=
  (h.filter _).length_le

/-- A stream that finds a slot free may store one more record (R115). -/
theorem KeepsBounds.after_store (h : KeepsBounds s t) {st : Stream} {f : StreamState → StreamState}
    (free : 0 < t.output.freeSlots st) (hc : (t.stream st).CreditOk → (f (t.stream st)).CreditOk)
    (hh : (f (t.stream st)).held ≤ (t.stream st).held + 1) : KeepsBounds s (modStream st f t) := by
  refine h.trans ?_
  cases st with
  | openS =>
    have room : t.output.openS.held + t.output.sealedS.held < 2048 := by
      simpa [RecordOutput.freeSlots, storeSlots, RecordOutput.occupancy] using free
    have more : (f t.output.openS).held ≤ t.output.openS.held + 1 := hh
    refine ⟨⟨id, fun ht st => ?_, id, fun ⟨_, sealedOnes⟩ => ⟨?_, sealedOnes⟩, id⟩, le_rfl⟩
    · cases st with
      | openS => exact hc (ht .openS)
      | sealedS => exact ht .sealedS
    · change (f t.output.openS).held + t.output.sealedS.held ≤ 2048
      omega
  | sealedS =>
    have room : t.output.openS.held + t.output.sealedS.held < 2048 ∧ t.output.sealedS.held < 1024 := by
      simpa [RecordOutput.freeSlots, storeSlots, sealedSlots, RecordOutput.occupancy] using free
    have more : (f t.output.sealedS).held ≤ t.output.sealedS.held + 1 := hh
    refine ⟨⟨id, fun ht st => ?_, id, fun _ => ⟨?_, ?_⟩, id⟩, le_rfl⟩
    · cases st with
      | openS => exact ht .openS
      | sealedS => exact hc (ht .sealedS)
    · change t.output.openS.held + (f t.output.sealedS).held ≤ 2048
      omega
    · change (f t.output.sealedS).held ≤ 1024
      omega

theorem KeepsBounds.after_followStall (h : KeepsBounds s t) {st : Stream} :
    KeepsBounds s (modStream st StreamState.followStall t) :=
  h.after_modStream followStall_creditOk (held_followStall _).le

theorem KeepsBounds.after_startStallRun (h : KeepsBounds s t) {st : Stream} {x : RunRegister} :
    KeepsBounds s (startStallRun st x t) :=
  KeepsBounds.after_raise (h.after_modStream id le_rfl)

theorem KeepsBounds.after_storeRecord (h : KeepsBounds s t) {st : Stream} {r : Record} :
    KeepsBounds s (storeRecord st t r) := by
  unfold storeRecord
  split
  · exact h.after_modStream id le_rfl
  · split
    · next free => exact h.after_store free id (held_append_stored r _).le
    · exact h.after_startStallRun
  · exact h.after_modStream id (held_append_handed r _).le

/-- A stall run is stored where a slot is free for it (R118, R119). -/
theorem KeepsBounds.after_storeStallRun (h : KeepsBounds s t) {st : Stream} (free : 0 < t.output.freeSlots st) :
    KeepsBounds s (storeStallRun st t) := by
  unfold storeStallRun
  split
  · exact h.after_store free id (held_append_stored _ (t.stream st)).le
  · exact h

theorem KeepsBounds.after_handRecords (h : KeepsBounds s t) {st : Stream} {l : List Record} :
    KeepsBounds s (handRecords st l t) := by
  unfold handRecords
  split
  · refine KeepsBounds.after_followStall (KeepsBounds.after_foldl ?_ fun u r hu => hu.after_storeRecord)
    split
    · next due =>
      simp only [closesStallRun, Bool.and_eq_true, decide_eq_true_eq] at due
      obtain ⟨-, two, -⟩ := due
      exact h.after_storeStallRun (by omega)
    · exact h
  · exact h

theorem KeepsBounds.after_storeLateRun (h : KeepsBounds s t) {st : Stream} : KeepsBounds s (storeLateRun st t) := by
  unfold storeLateRun
  split
  · next due =>
    simp only [Bool.and_eq_true, decide_eq_true_eq] at due
    exact (h.after_storeStallRun due.2).after_followStall
  · exact h

theorem KeepsBounds.after_storeLateRuns (h : KeepsBounds s t) : KeepsBounds s (storeLateRuns t) := by
  unfold storeLateRuns
  split
  · exact h.after_storeLateRun.after_storeLateRun
  · exact h

/-- A drain failure keeps the records taken and those handed without credit, and adds none that is stored (R134). -/
theorem held_failedFifo (s : State) (st : Stream) (run : Option RunRegister) :
    ((failedFifo s st run).filter (·.stored)).length ≤ (s.stream st).held := by
  have handed : ((untakenRecords s st).filter (fun q => !q.stored)).filter (·.stored) = [] := by
    simp
  have ofRun : (run.toList.map (fun r => ({ record := .run (buildRun s.proceeding.id st .outputStall r), stored := false }
      : QueuedRecord))).filter (·.stored) = [] := by
    simp
  have taken : (takenRecords s st).Sublist (s.stream st).fifo := by
    unfold takenRecords
    split
    · split
      · exact List.take_sublist ..
      · exact List.nil_sublist _
    · exact List.nil_sublist _
  unfold failedFifo
  rw [List.filter_append, List.filter_append, handed, ofRun, List.append_nil, List.append_nil]
  exact (taken.filter _).length_le

theorem KeepsBounds.after_drainFail (h : KeepsBounds s t) {st : Stream} : KeepsBounds s (drainFail st t) := by
  have failed {n : StreamState → Nat} : KeepsBounds s (modStream st (fun y =>
      { y with fifo := failedFifo t st (mergeSeries (failedSeries t st)), stallRun := none, drainFailed := true,
               stallCount := n y }) t) :=
    h.after_modStream id (held_failedFifo t st _)
  unfold drainFail
  simp only
  refine KeepsBounds.after_followStall ?_
  split
  · exact failed.after_raise
  · exact failed

theorem KeepsBounds.after_takeDrainFailure (h : KeepsBounds s t) {st : Stream} :
    KeepsBounds s (takeDrainFailure st t) := by
  unfold takeDrainFailure
  split
  · exact h.after_drainFail.after_storeLateRuns
  · exact h

theorem take_creditOk {q : QueuedRecord} {x : StreamState} (h : x.CreditOk) : (x.take q).CreditOk := by
  refine ⟨?_, h.2⟩
  have hx := h.1
  unfold StreamState.take
  simp only
  split
  · omega
  · exact hx

theorem KeepsBounds.after_runSender (h : KeepsBounds s t) : KeepsBounds s (runSender t) := by
  unfold runSender
  split
  · split
    · next st _ _ _ q _ =>
      have taken : KeepsBounds s (modStream st (fun x => (x.take q).followStall) t) :=
        h.after_modStream (fun hx => followStall_creditOk (take_creditOk hx)) (held_followStall _).le
      exact taken.after_output (fun st => by cases st <;> exact id) (fun st => by cases st <;> exact le_rfl)
    · exact h
  · exact h

theorem addCredit_creditOk {g : Nat} {x : StreamState} (h : x.CreditOk) : (x.addCredit g).CreditOk := by
  refine ⟨?_, h.2⟩
  change satAdd 255 x.credit g ≤ 255
  unfold satAdd
  split
  · assumption
  · exact le_rfl

theorem KeepsBounds.after_runTap (h : KeepsBounds s t) {k : BlockNo} {l : List TrackBuild} :
    KeepsBounds s (runTap k l t) := by
  unfold runTap
  split
  · simp only
    split
    · exact KeepsBounds.after_raise h.after_engine
    · exact h.after_engine
  · exact h
  · exact h

/-! ## Proceeding Control -/

theorem KeepsBounds.after_setProceedingState (h : KeepsBounds s t) {p : ProceedingState} :
    KeepsBounds s (setProceedingState p t) :=
  KeepsBounds.after_recomputeLamps (KeepsBounds.after_raise h.after_proceeding)

theorem arm_creditOk {x : StreamState} (h : x.CreditOk) : x.arm.CreditOk := by
  refine ⟨?_, h.2⟩
  unfold StreamState.arm
  simp only
  split
  · exact h.2
  · exact h.1

/-- Both streams changed keep the bounds when each keeps its credits' and holds no more stored records. -/
theorem KeepsBounds.after_bothStreams (h : KeepsBounds s t) {f : StreamState → StreamState} {turn : Stream}
    (hc : ∀ x : StreamState, x.CreditOk → (f x).CreditOk) (hh : ∀ x, (f x).held ≤ x.held) :
    KeepsBounds s { t with output := { t.output with
      openS := f t.output.openS, sealedS := f t.output.sealedS, turn := turn } } :=
  h.after_output (fun st => match st with | .openS => hc _ | .sealedS => hc _)
    (fun st => match st with | .openS => hh _ | .sealedS => hh _)

theorem KeepsBounds.after_enterArmed (h : KeepsBounds s t) {n : BitVec 64} : KeepsBounds s (enterArmed n t) := by
  have streams := h.after_bothStreams (f := StreamState.arm) (turn := .openS) (fun _ => arm_creditOk) (fun _ => le_rfl)
  have fields : KeepsBounds s (armFields n t) := streams.congr rfl
  exact fields.after_raise.after_reexamineTest

theorem KeepsBounds.after_openAtBoundary (h : KeepsBounds s t) {j : BlockNo} : KeepsBounds s (openAtBoundary j t) := by
  unfold openAtBoundary
  split
  · exact KeepsBounds.after_setProceedingState h.after_proceeding
  · exact h

theorem KeepsBounds.after_returnToIdle (h : KeepsBounds s t) : KeepsBounds s (returnToIdle t) :=
  KeepsBounds.after_flushAll (KeepsBounds.after_applyStaged (KeepsBounds.after_setProceedingState
    (h.after_bothStreams (f := StreamState.leave) (fun _ => id) (fun _ => le_rfl))))

theorem KeepsBounds.after_startDraining (h : KeepsBounds s t) : KeepsBounds s (startDraining t) :=
  KeepsBounds.after_setProceedingState h.after_proceeding

theorem confirm_creditOk {x : StreamState} (h : x.CreditOk) : x.confirm.CreditOk := by
  unfold StreamState.confirm
  split
  · exact h
  · exact h

theorem held_confirm (x : StreamState) : x.confirm.held = x.held := by
  unfold StreamState.confirm
  split
  · exact held_append_handed .close x
  · rfl

theorem KeepsBounds.after_examineDrained (h : KeepsBounds s t) : KeepsBounds s (examineDrained t) := by
  unfold examineDrained
  split
  · exact KeepsBounds.after_setProceedingState
      (h.after_bothStreams (f := StreamState.confirm) (fun _ => confirm_creditOk) (fun x => (held_confirm x).le))
  · exact h

theorem KeepsBounds.after_completeStream (h : KeepsBounds s t) {st : Stream} {o : CloseOutcome} :
    KeepsBounds s (completeStream st o t) := by
  have completed : KeepsBounds s (modStream st (fun x =>
      { x with closeState := .completed, closeOutcome := some o, confirmTimer := none }) t) := h.after_modStream id le_rfl
  unfold completeStream examineCompleted
  split
  · exact completed.after_returnToIdle
  · exact completed

theorem KeepsBounds.after_closeSent (h : KeepsBounds s t) {st : Stream} : KeepsBounds s (closeSent st t) := by
  have sent : KeepsBounds s (modStream st (fun x => { x with closeState := .closeSent }) t) :=
    h.after_modStream id le_rfl
  unfold closeSent
  simp only
  split
  · exact sent.after_modStream id le_rfl
  · exact sent.after_completeStream

theorem KeepsBounds.after_failClose (h : KeepsBounds s t) {st : Stream} {o : CloseOutcome} {r : CloseFigures} :
    KeepsBounds s (failClose st o r t) :=
  KeepsBounds.after_completeStream (KeepsBounds.after_logFault h.after_raise)

theorem KeepsBounds.after_takeAck (h : KeepsBounds s t) {st : Stream} {r : CloseFigures} :
    KeepsBounds s (takeAck st r t) := by
  unfold takeAck
  split
  · exact h.after_completeStream
  · exact h.after_failClose

theorem KeepsBounds.after_completeRecord (h : KeepsBounds s t) {st : Stream} : KeepsBounds s (completeRecord st t) := by
  have idle : KeepsBounds s { t with output := { t.output with sending := none } } :=
    h.after_output (fun st => by cases st <;> exact id) (fun st => by cases st <;> exact le_rfl)
  have left : KeepsBounds s (modStream st (fun x => { x with fifo := x.fifo.drop 1 }.followStall)
      { t with output := { t.output with sending := none } }) :=
    idle.after_modStream (fun hx => followStall_creditOk hx)
      ((held_followStall _).le.trans (held_le_of_sublist (List.drop_sublist ..)))
  unfold completeRecord
  simp only
  split
  · split
    · exact left.after_closeSent
    · exact left.after_storeLateRuns.after_examineDrained
  · exact left

/-! ## A boundary -/

theorem KeepsBounds.after_advanceRecordTime (h : KeepsBounds s t) {m : CourtMode} :
    KeepsBounds s (advanceRecordTime m t) := by
  unfold advanceRecordTime
  split
  · split
    · exact h.after_timebase
    · split
      · exact h
      · exact KeepsBounds.after_raise h.after_timebase
  · exact h

theorem KeepsBounds.after_closeBlock (h : KeepsBounds s t) {k : BlockNo} {ts : Timings} {gb : Vector GroupBlock 8} :
    KeepsBounds s (closeBlock k ts gb t) := by
  unfold closeBlock
  exact KeepsBounds.after_runTap (KeepsBounds.after_handRecords (KeepsBounds.after_handRecords
    (KeepsBounds.after_advanceRecordTime (KeepsBounds.after_assembler h.after_assembler))))

theorem KeepsBounds.after_applyAtClose (h : KeepsBounds s t) : KeepsBounds s (applyAtClose t) := by
  unfold applyAtClose
  split
  · exact h.after_applyStaged.after_reexamineTest
  · exact h

theorem KeepsBounds.after_afterLastBlock (h : KeepsBounds s t) {k : BlockNo} : KeepsBounds s (afterLastBlock k t) := by
  unfold afterLastBlock
  split
  · exact h.after_storeLateRuns.after_takeDrainFailure.after_takeDrainFailure.after_examineDrained
  · exact h

/-- The mode latch is none of the bounded fields. -/
theorem KeepsBounds.after_latch (h : KeepsBounds s t) {l : List LatchEntry} :
    KeepsBounds s { t with mode := { t.mode with latch := l } } := h.congr rfl

theorem KeepsBounds.after_finishClose (h : KeepsBounds s t) {k : BlockNo} {ts : Timings} :
    KeepsBounds s (finishClose k ts t) := by
  have released : KeepsBounds s (releaseAll ts t) := h.after_stations
  have examined : KeepsBounds s (removeBoundary k (reexamineForced ts (releaseAll ts t))) :=
    released.after_reexamineForced.after_stations
  have removed : KeepsBounds s (removeLatch k (removeBoundary k (reexamineForced ts (releaseAll ts t)))) :=
    examined.after_latch
  exact KeepsBounds.after_assembler removed.after_assembler

theorem KeepsBounds.after_closePoint (h : KeepsBounds s t) {k : BlockNo} : KeepsBounds s (closePoint k t) := by
  have consumed : KeepsBounds s (consumeGroups (closeTimings k (applyAtClose t)).2 (closeTimings k (applyAtClose t)).1) :=
    h.after_applyAtClose.after_closeTimings.after_consumeGroups
  unfold closePoint
  simp only
  split
  · exact consumed.after_closeBlock.after_finishClose.after_afterLastBlock
  · exact consumed.after_finishClose.after_afterLastBlock

theorem KeepsBounds.after_closePoints (h : KeepsBounds s t) {n : Nat} : KeepsBounds s (closePoints n t) := by
  induction n generalizing t with
  | zero => exact h
  | succ n ih =>
    unfold closePoints
    split
    · exact ih h.after_closePoint
    · exact h

theorem KeepsBounds.after_closeAtBoundary (h : KeepsBounds s t) {j : BlockNo} : KeepsBounds s (closeAtBoundary j t) := by
  unfold closeAtBoundary
  split
  · exact h.after_assembler
  · exact h.after_closePoints

theorem KeepsBounds.after_countBoundary (h : KeepsBounds s t) : KeepsBounds s (countBoundary t) := by
  have counted := h.after_bothStreams (f := fun x => x.countStall.countConfirm) (turn := t.output.turn)
    (fun _ hx => hx) (fun _ => le_rfl)
  exact KeepsBounds.after_countTest (KeepsBounds.after_countRefresh
    (counted.after_stations (v := mapTable Station.countSilence t.stations)))

theorem length_addHistory (e : MarkEntry) (l : List MarkEntry) (h : l.length ≤ 16) : (addHistory e l).length ≤ 16 := by
  unfold addHistory historySize
  split
  · next room => simpa using room
  · rw [List.length_append, List.length_drop, List.length_singleton]
    omega

theorem KeepsBounds.after_takeBoundary (h : KeepsBounds s t) {k : BoundaryKind} {m : MarkNo} {time : Tick} :
    KeepsBounds s (takeBoundary k m time t) := by
  have stepped : KeepsBounds s { t with timebase := t.timebase.step k m time } :=
    h.after_timebase (length_addHistory _ _)
  have presented {j : BlockNo} : KeepsBounds s (appendPendingAll j (appendKind j k (latchMode j
      { t with timebase := t.timebase.step k m time }))) :=
    KeepsBounds.after_stations (KeepsBounds.after_assembler stepped.after_latch)
  exact presented.after_openAtBoundary.after_countBoundary.after_closeAtBoundary

/-! ## STANDBY, wake and the resets -/

theorem KeepsBounds.after_part (h : KeepsBounds s t) {x : Part} : KeepsBounds s { t with part := x } := h.congr rfl

theorem KeepsBounds.after_wake (h : KeepsBounds s t) {c : WakeCause} : KeepsBounds s (wake c t) := by
  have afresh : KeepsBounds s { t with
      part := { t.part with awake := true, wakeCause := some c }
      timebase := { t.timebase with state := .search, candidateCount := 0, history := [] } } :=
    (h.after_timebase (x := { t.timebase with state := .search, candidateCount := 0, history := [] })
      fun _ => Nat.zero_le _).after_part
  exact afresh.after_recomputeLamps.after_raise

theorem KeepsBounds.after_parkFields (h : KeepsBounds s t) : KeepsBounds s (parkFields t) := by
  have streams := h.after_bothStreams (f := StreamState.park) (turn := t.output.turn) (fun _ => id) (fun _ => le_rfl)
  have groups := streams.after_groups (v := mapTable ConferGroup.park t.groups) fun g _ => by
    simp [mapTable, ConferGroup.park]
  have timebase := groups.after_timebase (x := t.timebase.park)
  exact timebase.congr rfl

theorem KeepsBounds.after_enterStandby (h : KeepsBounds s t) : KeepsBounds s (enterStandby t) := by
  unfold enterStandby
  simp only
  split
  · exact h.after_parkFields
  · exact h.after_parkFields.after_wake

/-- Every bound holds right after a hard reset, whatever the state before it (R13, R112, R128, R143). -/
theorem hardReset_bounded (c : ResetCause) (s : State) :
    (hardReset c s).TogglesBounded ∧ (hardReset c s).CreditsBounded ∧ (hardReset c s).ListsBounded ∧
      (hardReset c s).StoreBounded ∧ (hardReset c s).QueuesBounded := by
  refine ⟨?_, fun st => ?_, ?_, ?_, ?_⟩
  · change ∀ g : Fin 8, ((Vector.replicate 8 ConferGroup.reset)[g]).toggles.length ≤ 8
    decide
  · cases st <;> exact ⟨Nat.zero_le 255, (by decide : 16 ≤ 255)⟩
  · exact ⟨Nat.zero_le 4, Nat.zero_le 4, Nat.zero_le 16⟩
  · exact ⟨Nat.zero_le 2048, Nat.zero_le 1024⟩
  · exact ⟨Nat.zero_le 64, Nat.zero_le 64, Nat.zero_le 64, Nat.zero_le 7, Nat.zero_le 1⟩

theorem hardReset_keepsBounds (c : ResetCause) (s : State) : KeepsBounds s (hardReset c s) := by
  obtain ⟨toggles, credits, lists, store, queues⟩ := hardReset_bounded c s
  exact ⟨⟨fun _ => toggles, fun _ => credits, fun _ => lists, fun _ => store, fun _ => queues⟩, Nat.zero_le _⟩

theorem KeepsBounds.after_hardReset (h : KeepsBounds s t) {c : ResetCause} : KeepsBounds s (hardReset c t) :=
  h.trans (hardReset_keepsBounds c t)

theorem KeepsBounds.after_startNotice (h : KeepsBounds s t) : KeepsBounds s (startNotice t) := by
  unfold startNotice
  split
  · exact h
  · exact h.after_buildNotice

theorem KeepsBounds.after_fullReset (h : KeepsBounds s t) : KeepsBounds s (fullReset t) := by
  unfold fullReset
  exact KeepsBounds.after_startNotice ((h.after_hardReset (c := .softFull)).congr rfl)

/-- A stream at its reset values holds nothing, and its credits are those of its entry. -/
theorem resetWith_creditOk {x : StreamState} (h : x.CreditOk) : (StreamState.resetWith x.entry).CreditOk :=
  ⟨Nat.zero_le _, h.2⟩

theorem KeepsBounds.after_runtimeReset (h : KeepsBounds s t) : KeepsBounds s (runtimeReset t) := by
  have streams := h.after_bothStreams (f := fun x => StreamState.resetWith x.entry) (turn := .openS)
    (fun _ => resetWith_creditOk) (fun _ => Nat.zero_le _)
  unfold runtimeReset
  refine KeepsBounds.after_startNotice ⟨⟨fun _ => ?_, fun hs => ?_, fun _ => ?_, fun _ => ?_, fun _ => ?_⟩, ?_⟩
  · exact (h.after_hardReset (c := .softRuntime)).toggles ‹_›
  · exact streams.credits hs
  · exact (h.after_hardReset (c := .softRuntime)).lists ‹_›
  · exact ⟨Nat.zero_le 2048, Nat.zero_le 1024⟩
  · exact (h.after_hardReset (c := .softRuntime)).queues ‹_›
  · exact Nat.zero_le _

/-! ## The Cadence Timebase -/

theorem KeepsBounds.after_jump (h : KeepsBounds s t) {m : MarkNo} {time : Tick} : KeepsBounds s (jump m time t) := by
  have cleared : KeepsBounds s (clearHistory (jumpStations t)) :=
    h.after_jumpStations.after_timebase fun _ => Nat.zero_le _
  have bounded : KeepsBounds s (jumpBoundary m time (clearHistory (jumpStations t))) := by
    unfold jumpBoundary
    split
    · exact KeepsBounds.after_takeBoundary cleared.after_timebase
    · unfold earlyJump
      split
      · exact cleared
      · exact cleared.after_timebase
  unfold jump
  generalize jumpBoundary m time (clearHistory (jumpStations t)) = u at bounded
  exact KeepsBounds.after_raise bounded.after_timebase

theorem KeepsBounds.after_markInSearch (h : KeepsBounds s t) {m : MarkNo} {time : Tick} :
    KeepsBounds s (markInSearch m time t) := by
  unfold markInSearch
  split
  · split
    · exact h.after_timebase
    · exact KeepsBounds.after_raise (KeepsBounds.after_takeBoundary h.after_timebase)
  · exact h.after_timebase

theorem KeepsBounds.after_markInLocked (h : KeepsBounds s t) {m : MarkNo} {time : Tick} :
    KeepsBounds s (markInLocked m time t) := by
  unfold markInLocked
  split
  · split
    · exact KeepsBounds.after_takeBoundary h.after_timebase
    · exact h.after_timebase
  · exact h.after_jump

theorem KeepsBounds.after_relock (h : KeepsBounds s t) {m : MarkNo} {time : Tick} : KeepsBounds s (relock m time t) := by
  unfold relock
  simp only
  split
  · exact KeepsBounds.after_raise (KeepsBounds.after_takeBoundary h.after_timebase)
  · exact KeepsBounds.after_takeBoundary h.after_timebase

theorem KeepsBounds.after_markInHoldover (h : KeepsBounds s t) {m : MarkNo} {time : Tick} :
    KeepsBounds s (markInHoldover m time t) := by
  unfold markInHoldover
  split
  · split
    · exact h.after_timebase
    · split
      · exact h.after_relock
      · exact h
  · split
    · exact h
    · exact h.after_jump

theorem KeepsBounds.after_takeMark (h : KeepsBounds s t) {m : MarkNo} {time : Tick} :
    KeepsBounds s (takeMark m time t) := by
  unfold takeMark
  split
  · exact h.after_markInSearch
  · exact h.after_markInLocked
  · exact h.after_markInHoldover

theorem KeepsBounds.after_synthesise (h : KeepsBounds s t) {time : Tick} : KeepsBounds s (synthesise time t) :=
  KeepsBounds.after_takeBoundary h.after_timebase

theorem KeepsBounds.after_expireGuard (h : KeepsBounds s t) : KeepsBounds s (expireGuard t) := by
  unfold expireGuard
  split
  · exact h.after_synthesise.after_raise
  · exact h

theorem KeepsBounds.after_expireSynthesis (h : KeepsBounds s t) : KeepsBounds s (expireSynthesis t) := by
  unfold expireSynthesis
  split
  · exact h.after_synthesise
  · exact h

end Sys2Proof.Machine
end

section
/-! PROOFS. The bounds under the Station Receiver, the Port Interface and the requests, and of every step. -/

namespace Sys2Proof.Machine

variable {s t : State}

/-! ## The Station Receiver -/

theorem KeepsBounds.after_takeEvent (h : KeepsBounds s t) {i : Fin 16} {f : Frame} {e : ButtonEvent} :
    KeepsBounds s (takeEvent i f t e) := by
  have valid (m : EventMeaning) : KeepsBounds s (takeValidEvent i e m t) := by
    unfold takeValidEvent
    split
    · exact h
    · simp only
      split
      · cases m with
        | confer d => exact h.after_modStation.after_takeToggle
        | mode x =>
          simp only [routeAwake]
          split
          · exact h.after_modStation.after_applyModeEvent
          · exact h.after_modStation
      · cases m with
        | confer d => exact h.after_modStation
        | mode x =>
          simp only [routeStandby]
          split
          · exact h.after_modStation.after_wake.after_applyModeEvent
          · exact h.after_modStation
  unfold takeEvent
  split
  · split
    · exact valid _
    · exact h.after_countFormat
  · exact h.after_countFormat

theorem KeepsBounds.after_takeEvents (h : KeepsBounds s t) {i : Fin 16} {f : Frame} : KeepsBounds s (takeEvents i f t) :=
  h.after_foldl fun _ _ hu => hu.after_takeEvent

theorem KeepsBounds.after_reportAndEvents (h : KeepsBounds s t) {i : Fin 16} {f : Frame} :
    KeepsBounds s (reportAndEvents i f t) :=
  h.after_takeReport.after_takeEvents

theorem KeepsBounds.after_placeFrame (h : KeepsBounds s t) {i : Fin 16} {f : Frame} : KeepsBounds s (placeFrame i f t) := by
  unfold placeFrame
  split
  · exact h.after_reportAndEvents
  · exact h.after_countLate.after_reportAndEvents
  · exact h.after_countFormat
  · exact h.after_modStation.after_reportAndEvents

theorem KeepsBounds.after_takeChecked (h : KeepsBounds s t) {i : Fin 16} {f : Frame} :
    KeepsBounds s (takeChecked i f t) := by
  unfold takeChecked
  split
  · exact h.after_checkPattern.after_takeEvents
  · exact h.after_placeFrame

theorem KeepsBounds.after_acceptFrame (h : KeepsBounds s t) {i : Fin 16} : KeepsBounds s (acceptFrame i t) := by
  unfold acceptFrame
  simp only
  split
  · exact h.after_modStation.after_enterAcquire
  · exact h.after_modStation

theorem KeepsBounds.after_receiveAudio (h : KeepsBounds s t) {f : Frame} : KeepsBounds s (receiveAudio f t) := by
  unfold receiveAudio
  split
  · unfold receiveFrom
    split
    · simp only
      split
      · exact h.after_acceptFrame.after_takeChecked
      · exact h.after_acceptFrame.after_countFormat
    · split
      · exact h.after_takeEvents
      · exact h.after_countFormat
  · exact h.after_raise.after_logFault.after_forwardFrom

/-! ## The Port Interface -/

/-- A shorter control queue, a shorter management transmit queue and another turn keep the bounds. -/
theorem KeepsBounds.after_taken (h : KeepsBounds s t) {q : List ControlFrame} {m : List ManagementFrame} {x : Class3Turn}
    (hq : q.Sublist t.ports.control) (hm : m.Sublist t.ports.management) :
    KeepsBounds s { t with ports := { t.ports with control := q, management := m, turn := x } } := by
  have replies := (hm.filter (fun y => !y.notice)).length_le
  have notices := (hm.filter (·.notice)).length_le
  exact h.trans ⟨⟨id, id, id, id, fun ⟨hab, hba, hc, hr, hn⟩ =>
    ⟨hab, hba, hq.length_le.trans hc, replies.trans hr, notices.trans hn⟩⟩, replies⟩

theorem KeepsBounds.after_transmit (h : KeepsBounds s t) {p : Port} {o : TxOrigin} {f : Frame} :
    KeepsBounds s (transmit p o f t) := h.after_modPort

theorem KeepsBounds.after_takeMonitor (h : KeepsBounds s t) {p : Port} {f : Frame} : KeepsBounds s (takeMonitor p f t) :=
  KeepsBounds.after_transmit h.after_engine

theorem KeepsBounds.after_arbiterA (h : KeepsBounds s t) : KeepsBounds s (arbiterA t) := by
  unfold arbiterA
  split
  · unfold selectA
    split
    · next c rest hc =>
      refine KeepsBounds.after_transmit (h.after_taken (m := t.ports.management) (x := t.ports.turn) ?_ (List.Sublist.refl _))
      rw [hc]
      exact List.sublist_cons_self ..
    · split
      · exact h.after_takeMonitor
      · exact h.after_transmit
      · exact h
  · exact h

theorem KeepsBounds.after_selectClass3 (h : KeepsBounds s t) : KeepsBounds s (selectClass3 t) := by
  have turned (x : Class3Turn) : KeepsBounds s { t with ports := { t.ports with turn := x } } :=
    h.after_taken (List.Sublist.refl _) (List.Sublist.refl _)
  unfold selectClass3
  split
  · split
    · exact (turned .passThrough).after_transmit
    · exact (turned .record).after_transmit
  · exact (turned .passThrough).after_transmit
  · exact (turned .record).after_transmit
  · exact h

theorem KeepsBounds.after_arbiterB (h : KeepsBounds s t) : KeepsBounds s (arbiterB t) := by
  unfold arbiterB
  split
  · unfold selectB
    split
    · next m rest hm =>
      refine KeepsBounds.after_transmit (h.after_taken (q := t.ports.control) (x := t.ports.turn) (List.Sublist.refl _) ?_)
      rw [hm]
      exact List.sublist_cons_self ..
    · split
      · exact h.after_takeMonitor
      · exact h.after_selectClass3
  · exact h

theorem KeepsBounds.after_settle (h : KeepsBounds s t) : KeepsBounds s (settle t) :=
  h.after_runSender.after_arbiterA.after_arbiterB

theorem KeepsBounds.after_recordFrameSent (h : KeepsBounds s t) : KeepsBounds s (recordFrameSent t) := by
  unfold recordFrameSent
  split
  · split
    · exact h.after_completeRecord
    · exact h.after_output (fun st => by cases st <;> exact id) (fun st => by cases st <;> exact le_rfl)
  · exact h

theorem KeepsBounds.after_afterReply (h : KeepsBounds s t) {a : AfterReply} : KeepsBounds s (afterReply a t) := by
  cases a with
  | nothing => exact h
  | resetFull => exact h.after_fullReset
  | resetRuntime => exact h.after_runtimeReset
  | enterStandby => exact h.after_enterStandby

theorem KeepsBounds.after_replyTransmitted (h : KeepsBounds s t) : KeepsBounds s (replyTransmitted t) := h.congr rfl

theorem KeepsBounds.after_afterTransmission (h : KeepsBounds s t) {p : Port} {o : TxOrigin} :
    KeepsBounds s (afterTransmission p o t) := by
  cases o with
  | control => exact h
  | monitor => exact h
  | forwarded => exact h.after_popForwarded
  | forwardedAlone => exact h
  | reply a => exact h.after_replyTransmitted.after_afterReply
  | notice => exact h
  | record => exact h.after_recordFrameSent

theorem KeepsBounds.after_completeTransmission (h : KeepsBounds s t) {p : Port} :
    KeepsBounds s (completeTransmission p t) := by
  unfold completeTransmission
  split
  · exact h.after_modPort.after_afterTransmission
  · exact h

theorem KeepsBounds.after_changeLink (h : KeepsBounds s t) {p : Port} {up : Bool} : KeepsBounds s (changeLink p up t) := by
  unfold changeLink
  simp only
  split
  · exact h.after_modPort
  · exact h.after_modPort.after_completeTransmission

theorem KeepsBounds.after_countMisdirected (h : KeepsBounds s t) {p : Port} {f : Frame} :
    KeepsBounds s (countMisdirected p f t) := by
  unfold countMisdirected
  split
  · exact h.after_modPort
  · exact h.after_modPort

theorem KeepsBounds.after_wakeByFrame (h : KeepsBounds s t) {f : Frame} : KeepsBounds s (wakeByFrame f t) := by
  unfold wakeByFrame
  split
  · exact h
  · exact h.after_wake

theorem KeepsBounds.after_observeMark (h : KeepsBounds s t) {f : Frame} {time : Tick} :
    KeepsBounds s (observeMark f time t) := by
  unfold observeMark
  split
  · exact h.after_modPort
  · split
    · exact h.after_takeMark
    · exact h

theorem KeepsBounds.after_forwardMark (h : KeepsBounds s t) {f : Frame} : KeepsBounds s (forwardMark f t) := by
  unfold forwardMark
  split
  · exact h
  · exact h.after_forwardFrom

theorem KeepsBounds.after_takeCredit (h : KeepsBounds s t) {f : Frame} : KeepsBounds s (takeCredit f t) := by
  unfold takeCredit
  split
  · exact h.after_modPort
  · split
    · unfold creditStream
      split
      · exact h
      · split
        · unfold grantCredit
          split
          · exact h
          · exact h.after_modStream (fun hx => followStall_creditOk (addCredit_creditOk hx)) (held_followStall _).le
        · exact h.after_modStream id le_rfl
    · exact h

theorem KeepsBounds.after_takeCloseAck (h : KeepsBounds s t) {f : Frame} : KeepsBounds s (takeCloseAck f t) := by
  unfold takeCloseAck
  split
  · exact h.after_modPort
  · split
    · split
      · exact h.after_takeAck
      · exact h
    · exact h

/-! ## Requests -/

/-- Other figures of the Management Unit keep the bounds when no more requests wait than at most 4. -/
theorem KeepsBounds.after_management (h : KeepsBounds s t) {m : Management}
    (hm : t.management.requests.length ≤ 4 → m.requests.length ≤ 4 := by exact id) :
    KeepsBounds s { t with management := m } :=
  h.trans ⟨⟨id, id, fun ⟨hs, hr, hh⟩ => ⟨hs, hm hr, hh⟩, id, id⟩, le_rfl⟩

theorem KeepsBounds.after_config (h : KeepsBounds s t) {c : DeviceConfig} : KeepsBounds s { t with config := c } :=
  h.congr rfl

/-- A REQUEST taken stays within the bounds; the BUSY reply is placed only where fewer than 7 replies wait (R162, R168). -/
theorem takeRequest_withinBounds (f : Frame) (t : State) : WithinBounds t (takeRequest f t) := by
  have same := KeepsBounds.refl t
  unfold takeRequest
  split
  · unfold offerRequest
    split
    · next room => exact (same.after_management fun _ => by simpa [requestQueueSize] using room).toWithinBounds
    · unfold refuseBusy
      simp only
      split
      · next room => exact same.after_management.toWithinBounds.trans (queueReply_withinBounds _ _ room)
      · exact KeepsBounds.toWithinBounds (same.congr rfl)
  · exact (KeepsBounds.after_logFault same.after_management).toWithinBounds

/-- What a handler of requests keeps: the bounds from the state it is given to the state it answers. -/
def HandlerKeepsBounds (handler : List Byte → State → Answer) : Prop :=
  ∀ (p : List Byte) (t : State), KeepsBounds t (handler p t).state

/-- Serving a request stays within the bounds when its handler keeps them: it is served while fewer than 7 replies wait (R169). -/
theorem serve_withinBounds (k : RequestKind) {handler : List Byte → State → Answer} (hh : HandlerKeepsBounds handler)
    (s : State) : WithinBounds s (serve k handler s) := by
  unfold serve
  split
  · exact (KeepsBounds.refl s).toWithinBounds
  · next r rest hq =>
    split
    · next served =>
      simp only [mayServe, Bool.and_eq_true, decide_eq_true_eq] at served
      obtain ⟨⟨⟨⟨-, room⟩, -⟩, -⟩, -⟩ := served
      have taken : KeepsBounds s { s with management := { s.management with requests := rest } } :=
        (KeepsBounds.refl s).after_management fun hr => by
          rw [hq] at hr
          exact (Nat.le_succ _).trans hr
      have handled := taken.trans (hh (payloadOf r.body) _)
      simp only
      generalize handler (payloadOf r.body) _ = a at handled
      have replied : WithinBounds s (queueReply a.after (replyFrame a.state r a.result a.data) a.state) :=
        handled.toWithinBounds.trans (queueReply_withinBounds _ _ (handled.replies.trans_lt room))
      exact replied.trans (KeepsBounds.refl _).after_settle.toWithinBounds
    · exact (KeepsBounds.refl s).toWithinBounds

/-- A one-byte field is at most 255. -/
theorem fieldAt_one_le (bs : List Byte) (off : Nat) : fieldAt bs off 1 ≤ 255 := by
  unfold fieldAt
  cases h : bs.drop off with
  | nil => simp [beNat]
  | cons b rest =>
    simp only [List.take_succ_cons, List.take_zero, beNat, List.foldl_cons, List.foldl_nil]
    have := b.isLt
    omega

theorem readStream_initialCredit {bs : List Byte} {e : StreamEntry} (h : readStream bs = some e) :
    e.initialCredit ≤ 255 := by
  unfold readStream at h
  simp only at h
  split at h
  · cases h
  · cases h
    exact fieldAt_one_le _ _

/-- Every entry that a write names was read from its bytes (R171). -/
theorem allOf_mem {α : Type} {l : List (Option α)} {r : List α} (h : allOf l = some r) : ∀ a ∈ r, some a ∈ l := by
  induction l generalizing r with
  | nil => cases h; simp
  | cons x l ih =>
    cases x with
    | none => cases h
    | some y =>
      simp only [allOf, Option.map_eq_some_iff] at h
      obtain ⟨l', hl, rfl⟩ := h
      intro a ha
      rcases List.mem_cons.mp ha with rfl | ha
      · exact List.mem_cons_self
      · exact List.mem_cons_of_mem _ (ih hl a ha)

theorem mem_indexed {α : Type} {k : Nat} {l : List α} {x : Nat × α} (h : x ∈ indexed k l) : x.2 ∈ l := by
  induction l generalizing k with
  | nil => cases h
  | cons a l ih =>
    rcases List.mem_cons.mp h with rfl | h
    · exact List.mem_cons_self
    · exact List.mem_cons_of_mem _ (ih h)

/-- Stream Table entries stored keep the bounds when each initial credit is at most 255 (R113). -/
theorem KeepsBounds.after_storeStreamEntries (h : KeepsBounds s t) {l : List (Nat × StreamEntry)}
    (hl : ∀ x ∈ l, x.2.initialCredit ≤ 255) : KeepsBounds s (l.foldl storeStreamEntry t) := by
  refine List.foldlRecOn l storeStreamEntry h fun u hu x hx => ?_
  unfold storeStreamEntry
  split
  · exact hu.after_modStream (fun hy => ⟨hy.1, hl x hx⟩) le_rfl
  · exact hu

theorem answerRead_keepsBounds : HandlerKeepsBounds answerRead := by
  intro p t
  unfold answerRead
  split
  · exact KeepsBounds.refl t
  · split
    · exact KeepsBounds.refl t
    · split
      · exact KeepsBounds.refl t
      · split <;> exact KeepsBounds.refl t

theorem answerReadStatus_keepsBounds : HandlerKeepsBounds answerReadStatus := by
  intro p t
  unfold answerReadStatus
  split
  · exact KeepsBounds.refl t
  · exact (KeepsBounds.refl t).after_stations

theorem answerWriteRefused_keepsBounds : HandlerKeepsBounds answerWriteRefused := by
  intro p t
  unfold answerWriteRefused
  split <;> exact KeepsBounds.refl t

theorem answerStaged_keepsBounds (w : Vector Bool 16) (x : TableWrite) (t : State) :
    KeepsBounds t (answerStaged w x t).state := by
  unfold answerStaged
  split
  · exact KeepsBounds.refl t
  · exact (KeepsBounds.refl t).after_commitTables

theorem answerWriteStation_keepsBounds : HandlerKeepsBounds answerWriteStation := by
  intro p t
  unfold answerWriteStation
  split
  · exact KeepsBounds.refl t
  · exact answerStaged_keepsBounds _ _ t

theorem answerWriteTrackMap_keepsBounds : HandlerKeepsBounds answerWriteTrackMap := by
  intro p t
  unfold answerWriteTrackMap
  split
  · exact KeepsBounds.refl t
  · exact answerStaged_keepsBounds _ _ t

theorem answerWriteDisposition_keepsBounds : HandlerKeepsBounds answerWriteDisposition := by
  intro p t
  unfold answerWriteDisposition
  split
  · exact KeepsBounds.refl t
  · exact answerStaged_keepsBounds _ _ t

theorem answerWriteOverride_keepsBounds : HandlerKeepsBounds answerWriteOverride := by
  intro p t
  unfold answerWriteOverride
  split
  · exact KeepsBounds.refl t
  · split
    · exact KeepsBounds.refl t
    · exact KeepsBounds.after_recomputeLamps (KeepsBounds.refl t).after_tally

theorem answerWriteStream_keepsBounds : HandlerKeepsBounds answerWriteStream := by
  intro p t
  unfold answerWriteStream
  split
  · exact KeepsBounds.refl t
  · split
    · exact KeepsBounds.refl t
    · split
      · exact KeepsBounds.refl t
      · next l hl =>
        refine (KeepsBounds.refl t).after_storeStreamEntries fun x hx => ?_
        obtain ⟨e, -, he⟩ := List.mem_map.mp (allOf_mem hl x.2 (mem_indexed hx))
        exact readStream_initialCredit he

theorem answerWriteConfig_keepsBounds : HandlerKeepsBounds answerWriteConfig := by
  intro p t
  unfold answerWriteConfig
  split
  · exact KeepsBounds.refl t
  · split
    · exact KeepsBounds.refl t
    · exact (KeepsBounds.refl t).after_writeConfig

theorem answerSetMode_keepsBounds : HandlerKeepsBounds answerSetMode := by
  intro p t
  unfold answerSetMode
  split
  · exact (KeepsBounds.refl t).after_replaceMode
  · exact KeepsBounds.refl t

theorem answerPushMode_keepsBounds : HandlerKeepsBounds answerPushMode := by
  intro p t
  unfold answerPushMode
  split
  · exact (KeepsBounds.refl t).after_pushModeTo
  · exact KeepsBounds.refl t

theorem answerPopMode_keepsBounds : HandlerKeepsBounds answerPopMode := by
  intro p t
  unfold answerPopMode
  split
  · next q hq => exact (KeepsBounds.refl t).after_applyMode fun ht => (length_popPair hq).trans ht
  · exact KeepsBounds.refl t

theorem answerOpen_keepsBounds : HandlerKeepsBounds answerOpen := by
  intro p t
  unfold answerOpen
  split
  · exact (KeepsBounds.refl t).after_enterArmed
  · exact KeepsBounds.refl t

theorem answerClose_keepsBounds : HandlerKeepsBounds answerClose := by
  intro p t
  unfold answerClose
  split
  · exact (KeepsBounds.refl t).after_returnToIdle
  · exact (KeepsBounds.refl t).after_startDraining
  · exact KeepsBounds.refl t
  · exact KeepsBounds.refl t
  · exact KeepsBounds.refl t

theorem answerSetTime_keepsBounds : HandlerKeepsBounds answerSetTime := by
  intro p t
  unfold answerSetTime
  split
  · exact KeepsBounds.refl t
  · split
    · exact KeepsBounds.refl t
    · exact (KeepsBounds.refl t).after_timebase

theorem answerStandby_keepsBounds : HandlerKeepsBounds answerStandby := by
  intro p t
  unfold answerStandby
  split
  · exact KeepsBounds.refl t
  · split
    · exact KeepsBounds.refl t
    · exact (KeepsBounds.refl t).after_management

theorem answerSoftReset_keepsBounds : HandlerKeepsBounds answerSoftReset := by
  intro p t
  unfold answerSoftReset
  split
  · exact (KeepsBounds.refl t).after_management
  · exact (KeepsBounds.refl t).after_management
  · exact KeepsBounds.refl t

theorem answerSetController_keepsBounds : HandlerKeepsBounds answerSetController := by
  intro p t
  unfold answerSetController
  split
  · exact KeepsBounds.refl t
  · exact (KeepsBounds.refl t).after_config

theorem answerStatus_keepsBounds : HandlerKeepsBounds answerStatus := fun _ t => (KeepsBounds.refl t).congr rfl

theorem answerReadFaults_keepsBounds : HandlerKeepsBounds answerReadFaults := fun _ t => KeepsBounds.refl t

theorem answerUnknown_keepsBounds : HandlerKeepsBounds answerUnknown := fun _ t => (KeepsBounds.refl t).after_management

theorem answerClearFaults_keepsBounds : HandlerKeepsBounds answerClearFaults := by
  intro p t
  unfold answerClearFaults
  split
  · exact KeepsBounds.refl t
  · exact (KeepsBounds.refl t).after_management

theorem answerClearCounters_keepsBounds : HandlerKeepsBounds answerClearCounters := by
  intro p t
  unfold answerClearCounters
  split
  · exact (KeepsBounds.refl t).congr rfl
  · split
    · exact (KeepsBounds.refl t).after_modStation
    · exact KeepsBounds.refl t

theorem answerAttachTap_keepsBounds : HandlerKeepsBounds answerAttachTap := by
  intro p t
  unfold answerAttachTap
  split
  · exact (KeepsBounds.refl t).after_attachTap
  · exact KeepsBounds.refl t

theorem answerDetach_keepsBounds : HandlerKeepsBounds answerDetach := by
  intro p t
  unfold answerDetach
  split
  · exact KeepsBounds.refl t
  · exact (KeepsBounds.refl t).after_engine
  · exact (KeepsBounds.refl t).after_endTest

theorem answerLineTest_keepsBounds : HandlerKeepsBounds answerLineTest := by
  intro p t
  unfold answerLineTest
  split
  · exact KeepsBounds.refl t
  · split
    · exact KeepsBounds.refl t
    · split
      · exact KeepsBounds.refl t
      · exact (KeepsBounds.refl t).after_startTest

/-! ## Every command -/

theorem KeepsBounds.after_replySent (h : KeepsBounds s t) {a : AfterReply} : KeepsBounds s (replySent a t) := by
  unfold replySent
  split
  · exact h.after_completeTransmission.after_settle
  · exact h

theorem KeepsBounds.after_reportStall (h : KeepsBounds s t) {st : Stream} : KeepsBounds s (reportStall st t) :=
  KeepsBounds.after_logFault (KeepsBounds.after_modStream h.after_raise id le_rfl)

theorem KeepsBounds.after_endDueTest (h : KeepsBounds s t) : KeepsBounds s (endDueTest t) := by
  unfold endDueTest
  split
  · split
    · exact h.after_endTest.after_settle
    · exact h
  · exact h
  · exact h

/-- Every command stays within the bounds. -/
theorem exec_withinBounds (c : Instr) (s t : State) (h : exec c s = .next t) : WithinBounds s t := by
  have same := KeepsBounds.refl s
  have guarded {p : Bool} {u : State} (hu : WithinBounds s u) : WithinBounds s (if p then u else s) := by
    split
    · exact hu
    · exact same.toWithinBounds
  cases c with
  | powerOn => cases h; exact (hardReset_keepsBounds _ s).toWithinBounds
  | supplyDip => cases h; exact (hardReset_keepsBounds _ s).toWithinBounds
  | softResetFull => cases h; exact same.after_replySent.toWithinBounds
  | softResetRuntime => cases h; exact same.after_replySent.toWithinBounds
  | linkStateChange p up => cases h; exact same.after_changeLink.after_settle.toWithinBounds
  | receiveError p w b f => cases h; exact guarded same.after_modPort.toWithinBounds
  | loopedCopy p f => cases h; exact guarded same.after_modPort.toWithinBounds
  | passThrough p f => cases h; exact guarded same.after_forwardFrom.after_settle.toWithinBounds
  | misdirected p f => cases h; exact guarded same.after_wakeByFrame.after_countMisdirected.after_settle.toWithinBounds
  | cadenceMark f time => cases h; exact guarded same.after_observeMark.after_forwardMark.after_settle.toWithinBounds
  | guardExpiry => cases h; exact same.after_expireGuard.after_settle.toWithinBounds
  | synthesisTimerExpiry => cases h; exact same.after_expireSynthesis.after_settle.toWithinBounds
  | silenceCountLimit i => cases h; exact guarded same.after_enterIdleState.after_settle.toWithinBounds
  | tallyRefresh => cases h; exact guarded same.after_sendRefresh.after_settle.toWithinBounds
  | recorderStalled st => cases h; exact guarded same.after_reportStall.after_takeDrainFailure.after_settle.toWithinBounds
  | closeUnconfirmed st => cases h; exact guarded same.after_failClose.after_settle.toWithinBounds
  | lineTestEnd => cases h; exact same.after_endDueTest.toWithinBounds
  | noticeHoldoffExpiry => cases h; exact guarded same.after_endHoldoff.after_settle.toWithinBounds
  | stationAudio f => cases h; exact guarded same.after_receiveAudio.after_settle.toWithinBounds
  | credit f => cases h; exact guarded same.after_wakeByFrame.after_takeCredit.after_settle.toWithinBounds
  | closeAck f => cases h; exact guarded same.after_wakeByFrame.after_takeCloseAck.after_settle.toWithinBounds
  | frameTransmitted p => cases h; exact same.after_completeTransmission.after_settle.toWithinBounds
  | standbyEntry => cases h; exact same.after_replySent.toWithinBounds
  | request f =>
    cases h
    exact guarded ((same.after_wakeByFrame.toWithinBounds.trans (takeRequest_withinBounds f _)).trans
      (KeepsBounds.refl _).after_settle.toWithinBounds)
  | unknownRequest => cases h; exact serve_withinBounds _ answerUnknown_keepsBounds s
  | readEntries => cases h; exact serve_withinBounds _ answerRead_keepsBounds s
  | readStationStatus => cases h; exact serve_withinBounds _ answerReadStatus_keepsBounds s
  | writeEntries => cases h; exact serve_withinBounds _ answerWriteRefused_keepsBounds s
  | writeStation => cases h; exact serve_withinBounds _ answerWriteStation_keepsBounds s
  | writeTrackMap => cases h; exact serve_withinBounds _ answerWriteTrackMap_keepsBounds s
  | writeDisposition => cases h; exact serve_withinBounds _ answerWriteDisposition_keepsBounds s
  | writeTallyOverride => cases h; exact serve_withinBounds _ answerWriteOverride_keepsBounds s
  | writeStream => cases h; exact serve_withinBounds _ answerWriteStream_keepsBounds s
  | writeDeviceConfig => cases h; exact serve_withinBounds _ answerWriteConfig_keepsBounds s
  | setMode => cases h; exact serve_withinBounds _ answerSetMode_keepsBounds s
  | pushMode => cases h; exact serve_withinBounds _ answerPushMode_keepsBounds s
  | popMode => cases h; exact serve_withinBounds _ answerPopMode_keepsBounds s
  | openProceeding => cases h; exact serve_withinBounds _ answerOpen_keepsBounds s
  | closeProceeding => cases h; exact serve_withinBounds _ answerClose_keepsBounds s
  | queryStatus => cases h; exact serve_withinBounds _ answerStatus_keepsBounds s
  | readFaults => cases h; exact serve_withinBounds _ answerReadFaults_keepsBounds s
  | clearFaults => cases h; exact serve_withinBounds _ answerClearFaults_keepsBounds s
  | clearCounters => cases h; exact serve_withinBounds _ answerClearCounters_keepsBounds s
  | attachTap => cases h; exact serve_withinBounds _ answerAttachTap_keepsBounds s
  | detach => cases h; exact serve_withinBounds _ answerDetach_keepsBounds s
  | lineTest => cases h; exact serve_withinBounds _ answerLineTest_keepsBounds s
  | setRecordTime => cases h; exact serve_withinBounds _ answerSetTime_keepsBounds s
  | standby => cases h; exact serve_withinBounds _ answerStandby_keepsBounds s
  | softReset => cases h; exact serve_withinBounds _ answerSoftReset_keepsBounds s
  | setController => cases h; exact serve_withinBounds _ answerSetController_keepsBounds s

/-- Every step stays within the bounds: a command, or the lapse of a period on an empty queue. -/
theorem step_withinBounds (s t : State) (h : step s = .next t) : WithinBounds s t := by
  unfold step at h
  split at h
  · cases h
    unfold idleTick
    split
    · exact (KeepsBounds.refl s).toWithinBounds
    · exact (KeepsBounds.refl s).after_countRefresh.after_countTest.toWithinBounds
  · next c rest _ =>
    have dispatched : KeepsBounds s { s with pending := rest } := (KeepsBounds.refl s).congr rfl
    exact dispatched.toWithinBounds.trans (exec_withinBounds c _ t h)

/-- Settles O5: each operation of the model extends the relation `KeepsBounds`, so each command stays within the bounds. -/
theorem boundsAreKept : Obligations.BoundsAreKept := by
  unfold Obligations.BoundsAreKept
  intro s t h
  obtain ⟨toggles, credits, lists, store, queues⟩ := step_withinBounds s t h
  exact ⟨toggles, credits, lists, store, queues⟩

end Sys2Proof.Machine
end

section
/-! PROOFS. The reset state, the two supply resets, and the record time (R16 to R18, R141 to R143). -/

namespace Sys2Proof.Machine

/-! ## The reset state and the supply resets -/

theorem reset_settled : State.reset.Settled :=
  ⟨fun _ => ⟨rfl, rfl⟩, fun _ => ⟨rfl, rfl, rfl⟩, fun _ => ⟨rfl, rfl, rfl, rfl⟩⟩

/-- At reset no entry is enabled and no track is mapped, so no check of R20 or R62 has anything to refuse. -/
theorem reset_consistent : Tables.reset.consistent = true := by
  simp [Tables.consistent, Tables.addressesDistinct, Tables.channelsFit, Tables.channelsDistinct, Tables.groupsTogether,
    Tables.reset, StationEntry.reset, TrackEntry.reset]

/-- Settles O7: the reset state is settled with nothing waiting, its tables are empty, and it is a hard reset of itself. -/
theorem resetMeetsInvariants : Obligations.ResetMeetsInvariants := by
  obtain ⟨toggles, credits, lists, store, queues⟩ := hardReset_bounded .powerOn State.reset
  have delays : State.reset.CloseDelayInRange :=
    ⟨(by decide : 1 ≤ 2), (by decide : 2 ≤ 8), (by decide : 1 ≤ 2), (by decide : 2 ≤ 8)⟩
  exact ⟨reset_settled, ⟨reset_consistent, reset_consistent⟩, toggles, credits, delays, lists, store, queues⟩

/-- Settles O13: a hard reset writes out every reset value but the own address, the link states and the waiting commands. -/
theorem supplyResetsRestoreReset : Obligations.SupplyResetsRestoreReset := fun _ => ⟨rfl, rfl⟩

/-! ## The record time -/

/-- The digits written for a number below 100 are read back as that number (R181). -/
theorem bcdValue_bcdByte (n : Nat) (h : n ≤ 99) : bcdValue (bcdByte n) = some n := by
  have bits : (bcdByte n).toNat = n / 10 * 16 + n % 10 := by
    rw [bcdByte, BitVec.toNat_ofNat]
    omega
  unfold bcdValue
  rw [bits, if_pos (by omega)]
  congr 1
  omega

/-- The bytes of a legal record time are read back as that record time (R18, R181). -/
theorem recordTimeOf_bytes (x : RecordTime) (h : x.legal) : recordTimeOf x.bytes = some x := by
  obtain ⟨hours, minutes, seconds, hundredths⟩ := h
  have bytes (k : Nat) : byteAt x.bytes k =
      [bcdByte x.hours, bcdByte x.minutes, bcdByte x.seconds, bcdByte x.hundredths, if x.half then 1 else 0].getD k 0 := rfl
  unfold recordTimeOf
  simp only [bytes, List.getD_cons_zero, List.getD_cons_succ, bcdValue_bcdByte _ hours,
    bcdValue_bcdByte x.minutes (by omega), bcdValue_bcdByte x.seconds (by omega), bcdValue_bcdByte _ hundredths]
  obtain ⟨hh, mm, ss, cc, half⟩ := x
  cases half <;> simp_all [isYesNo]

/-- A request that its handler refuses is answered with the result, and nothing else changes (R169). -/
theorem serve_refused {s : State} {k : RequestKind} {r : Request} {rest : List Request} {h : List Byte → State → Answer}
    {x : ResultCode} (hs : s.Settled) (hr : Serving s k r rest)
    (answer : h r.payload (dequeued s rest) = refuse x (dequeued s rest)) :
    serve k h s = withReply .nothing (replyTo s.config r x []) (dequeued s rest) := by
  rw [serve_reply s k r rest h hr (by rw [answer]; exact dequeued_settled s rest hs), answer]
  rfl

/-- A request carried out whose effect leaves the state settled is answered OK (R169). -/
theorem serve_accepted {s u : State} {k : RequestKind} {r : Request} {rest : List Request}
    {h : List Byte → State → Answer} (hr : Serving s k r rest) (answer : h r.payload (dequeued s rest) = accept u)
    (hu : u.Settled) : serve k h s = withReply .nothing (replyTo u.config r .ok []) u := by
  rw [serve_reply s k r rest h hr (by rw [answer]; exact hu), answer]
  rfl

/-- Settles O58: the handler refuses outside IDLE and for bytes that are no record time, and otherwise stores the value they spell. -/
theorem recordTimeIsPreset : Obligations.RecordTimeIsPreset := by
  intro s r rest hs hr
  refine ⟨fun busy => congrArg _ (serve_refused hs hr (if_pos busy)),
    fun idle illegal => congrArg _ (serve_refused hs hr ?_),
    fun x idle legal bytes => congrArg _ (serve_accepted hr ?_ ?_)⟩
  · have notBusy : ¬ (dequeued s rest).proceeding.state ≠ .idle := not_not.mpr idle
    unfold answerSetTime
    rw [if_neg notBusy, illegal]
  · have notBusy : ¬ (dequeued s rest).proceeding.state ≠ .idle := not_not.mpr idle
    unfold answerSetTime
    rw [if_neg notBusy, bytes, recordTimeOf_bytes x legal]
    rfl
  · exact dequeued_settled s rest hs

/-- An advance of a legal record time adds one unit and stays legal (R17). -/
theorem advance_legal {t u : RecordTime} (h : t.legal) (ha : t.advance = some u) : u.legal ∧ u.units = t.units + 1 := by
  obtain ⟨hours, minutes, seconds, hundredths⟩ := h
  unfold RecordTime.advance at ha
  split at ha
  · next first =>
    cases ha
    exact ⟨⟨hours, minutes, seconds, hundredths⟩, by simp [RecordTime.units, first]⟩
  · next second =>
    rw [Bool.not_eq_false] at second
    split at ha
    · next carry =>
      cases ha
      exact ⟨⟨hours, minutes, seconds, carry⟩, by simp [RecordTime.units, second]; omega⟩
    · split at ha
      · next carry =>
        cases ha
        exact ⟨⟨hours, minutes, carry, Nat.zero_le _⟩, by simp [RecordTime.units, second]; omega⟩
      · split at ha
        · next carry =>
          cases ha
          exact ⟨⟨hours, carry, Nat.zero_le _, Nat.zero_le _⟩, by simp [RecordTime.units, second]; omega⟩
        · split at ha
          · next carry =>
            cases ha
            exact ⟨⟨carry, Nat.zero_le _, Nat.zero_le _, Nat.zero_le _⟩, by simp [RecordTime.units, second]; omega⟩
          · cases ha

/-- The last record time alone has no advance (R17). -/
theorem advance_none_iff {t : RecordTime} (h : t.legal) :
    t.advance = none ↔ t = { hours := 99, minutes := 59, seconds := 59, hundredths := 99, half := true } := by
  obtain ⟨hh, mm, ss, cc, half⟩ := t
  obtain ⟨hours, minutes, seconds, hundredths⟩ := h
  simp only at hours minutes seconds hundredths
  simp only [RecordTime.advance, RecordTime.mk.injEq]
  split
  · next first => simp [first]
  · next second =>
    rw [Bool.not_eq_false] at second
    split
    · simp; omega
    · split
      · simp; omega
      · split
        · simp; omega
        · split
          · simp; omega
          · simp [second]; omega

end Sys2Proof.Machine
end

section
/-!
PROOFS. What a boundary and its close points leave alone (R3, R17, R73, R92 to R94): a relation between two states that says which
parts of the state stand, given the few aspects that may have changed, and one lemma per operation of a boundary that extends it.
-/

namespace Sys2Proof.Machine

/-! ## The relation -/

/-- What some operation of a boundary does change, each in one way of its own. -/
inductive Aspect where
  | tables
  | stations
  | next
  | proceeding
  | recordTime
  deriving DecidableEq

/-- Every aspect: what a whole boundary may change. -/
def Aspect.all : List Aspect := [.tables, .stations, .next, .proceeding, .recordTime]

/-- A station out of time and out of a line test: in ACQUIRE, ABSENT or DISABLED (R22). -/
def StationState.untimed (x : StationState) : Prop := x.timed = false ∧ x ≠ .test

/-- From the first state to the second the configuration, the timebase but for the record time, the current mode and the Mode Stack,
the tally overrides and D stand and no flag is cleared; and of the aspects, those not listed stand: a station that is untimed stays in
its state, and RECORD_TIME_FULL stays as it is while the record time does. -/
structure Leaves (c : List Aspect) (s t : State) : Prop where
  config : t.config = s.config
  timebase : t.timebase =
    { s.timebase with recordTime := t.timebase.recordTime, recordTimeFull := t.timebase.recordTimeFull }
  current : t.mode.current = s.mode.current
  stack : t.mode.stack = s.mode.stack
  override : t.tally.override = s.tally.override
  closeDelay : t.assembler.closeDelay = s.assembler.closeDelay
  flags : ∀ f, flagSet s f = true → flagSet t f = true
  tables : .tables ∉ c → t.tables = s.tables
  untimed : .stations ∉ c → ∀ i : Fin 16, (s.stations[i].state).untimed → t.stations[i].state = s.stations[i].state
  next : .next ∉ c → t.assembler.next = s.assembler.next
  proceeding : .proceeding ∉ c → t.proceeding = s.proceeding
  recordTime : .recordTime ∉ c →
    t.timebase = s.timebase ∧ flagSet t .recordTimeFull = flagSet s .recordTimeFull

/-- The fields that the relation speaks of. -/
def State.framedFields (s : State) :=
  (s.config, s.timebase, s.mode.current, s.mode.stack, s.tally.override, s.assembler.closeDelay, s.assembler.next,
    s.management.flags, s.stations, s.tables, s.proceeding)

theorem Leaves.refl (c : List Aspect) (s : State) : Leaves c s s :=
  ⟨rfl, rfl, rfl, rfl, rfl, rfl, fun _ h => h, fun _ => rfl, fun _ _ _ => rfl, fun _ => rfl, fun _ => rfl, fun _ => ⟨rfl, rfl⟩⟩

variable {c : List Aspect} {s t u : State}

theorem Leaves.trans (h : Leaves c s t) (k : Leaves c t u) : Leaves c s u where
  config := k.config.trans h.config
  timebase := by rw [k.timebase, h.timebase]
  current := k.current.trans h.current
  stack := k.stack.trans h.stack
  override := k.override.trans h.override
  closeDelay := k.closeDelay.trans h.closeDelay
  flags f hf := k.flags f (h.flags f hf)
  tables hc := (k.tables hc).trans (h.tables hc)
  untimed hc i hi := by
    have same := h.untimed hc i hi
    exact (k.untimed hc i (by rwa [same])).trans same
  next hc := (k.next hc).trans (h.next hc)
  proceeding hc := (k.proceeding hc).trans (h.proceeding hc)
  recordTime hc :=
    ⟨(k.recordTime hc).1.trans (h.recordTime hc).1, (k.recordTime hc).2.trans (h.recordTime hc).2⟩

/-- What leaves all but some aspects leaves all but more of them. -/
theorem Leaves.mono {d : List Aspect} (h : Leaves c s t) (hd : c ⊆ d) : Leaves d s t :=
  ⟨h.config, h.timebase, h.current, h.stack, h.override, h.closeDelay, h.flags, fun hn => h.tables fun hc => hn (hd hc),
    fun hn => h.untimed fun hc => hn (hd hc), fun hn => h.next fun hc => hn (hd hc),
    fun hn => h.proceeding fun hc => hn (hd hc), fun hn => h.recordTime fun hc => hn (hd hc)⟩

/-- A change outside the framed fields leaves them. -/
theorem Leaves.congr (h : Leaves c s t) (e : u.framedFields = t.framedFields) : Leaves c s u := by
  simp only [State.framedFields, Prod.mk.injEq] at e
  obtain ⟨hc, ht, hm, hs, ho, hd, hn, hf, hi, hx, hp⟩ := e
  refine h.trans ⟨hc, by rw [ht], hm, hs, ho, hd, fun f => ?_, fun _ => hx, fun _ i _ => by rw [hi], fun _ => hn, fun _ => hp,
    fun _ => ⟨ht, ?_⟩⟩
  · simp only [flagSet, hf, imp_self]
  · simp only [flagSet, hf]

theorem Leaves.after_foldl {α : Type} (h : Leaves c s t) {l : List α} {f : State → α → State}
    (hf : ∀ u a, Leaves c s u → Leaves c s (f u a)) : Leaves c s (l.foldl f t) :=
  List.foldlRecOn l f h fun u hu a _ => hf u a hu

theorem Leaves.after_forEach (h : Leaves c s t) {n : Nat} {f : Fin n → State → State}
    (hf : ∀ i u, Leaves c s u → Leaves c s (f i u)) : Leaves c s (forEach n f t) :=
  forEach_keeps n f (Leaves c s) hf t h

/-! ## Updates of one part -/

theorem Leaves.after_ports (h : Leaves c s t) {x : Ports} : Leaves c s { t with ports := x } := h.congr rfl
theorem Leaves.after_groups (h : Leaves c s t) {x : Vector ConferGroup 8} : Leaves c s { t with groups := x } := h.congr rfl
theorem Leaves.after_output (h : Leaves c s t) {x : RecordOutput} : Leaves c s { t with output := x } := h.congr rfl
theorem Leaves.after_engine (h : Leaves c s t) {x : Engine} : Leaves c s { t with engine := x } := h.congr rfl

theorem Leaves.after_modStream (h : Leaves c s t) {st : Stream} {f : StreamState → StreamState} :
    Leaves c s (modStream st f t) := by
  cases st <;> exact h.after_output

theorem Leaves.after_tables (h : Leaves c s t) {x : TableSet} (hc : .tables ∈ c) : Leaves c s { t with tables := x } :=
  h.trans { Leaves.refl c t with
    config := rfl, current := rfl, stack := rfl, override := rfl, closeDelay := rfl, timebase := rfl, flags := fun _ h => h
    tables := fun hn => absurd hc hn, next := fun _ => rfl, proceeding := fun _ => rfl, untimed := fun _ _ _ => rfl
    recordTime := fun _ => ⟨rfl, rfl⟩ }

theorem Leaves.after_logFault (h : Leaves c s t) {k : Fin 6} {o : Occurrence} : Leaves c s (logFault k o t) := h.congr rfl

theorem Leaves.after_setEngine (h : Leaves c s t) {e : EngineState} : Leaves c s (setEngine e t) := h.after_engine

theorem Leaves.after_raise (h : Leaves c s t) {f : EventFlag} (hf : f = .recordTimeFull → .recordTime ∈ c := by simp) :
    Leaves c s (raise f t) := by
  refine h.trans ⟨by simp, by simp, by simp, by simp, by simp, by simp, fun g => raise_keeps f g t, by simp, by simp, by simp,
    by simp, fun hc => ⟨by simp, raise_other f _ t fun e => hc (hf e.symm)⟩⟩

/-! ## Stations -/

/-- Stations that keep their states leave the frame. -/
theorem Leaves.after_stations (h : Leaves c s t) {v : Vector Station 16}
    (hv : ∀ i : Fin 16, v[i].state = t.stations[i].state) : Leaves c s { t with stations := v } :=
  h.trans { Leaves.refl c t with
    config := rfl, current := rfl, stack := rfl, override := rfl, closeDelay := rfl, timebase := rfl, flags := fun _ h => h
    tables := fun _ => rfl, next := fun _ => rfl, proceeding := fun _ => rfl, untimed := fun _ i _ => hv i
    recordTime := fun _ => ⟨rfl, rfl⟩ }

/-- A station changed leaves the frame when it keeps its state, is not untimed, or the stations may change. -/
theorem Leaves.after_modStation (h : Leaves c s t) {i : Fin 16} {f : Station → Station}
    (hf : (f t.stations[i]).state = t.stations[i].state ∨ ¬ (t.stations[i].state).untimed ∨ .stations ∈ c := by
      exact Or.inl rfl) :
    Leaves c s (modStation i f t) := by
  refine h.trans ⟨rfl, rfl, rfl, rfl, rfl, rfl, fun _ h => h, fun _ => rfl, fun hc k hk => ?_, fun _ => rfl, fun _ => rfl,
    fun _ => ⟨rfl, rfl⟩⟩
  by_cases e : k = i
  · subst e
    rw [modStation_station_self]
    rcases hf with same | timed | may
    · exact same
    · exact absurd hk timed
    · exact absurd may hc
  · rw [modStation_station_other _ _ _ _ e]

theorem Leaves.after_modTracker (h : Leaves c s t) {i : Fin 16} {f : Tracker → Tracker} :
    Leaves c s (modTracker i f t) := h.after_modStation

theorem Leaves.after_setStationState (h : Leaves c s t) {i : Fin 16} {x : StationState}
    (hi : ¬ (t.stations[i].state).untimed ∨ .stations ∈ c) : Leaves c s (setStationState i x t) := by
  rcases setStationState_spec i x t with e | e <;> rw [e]
  · exact h
  · exact (h.after_modStation (.inr hi)).after_raise

theorem Leaves.after_enterAcquire (h : Leaves c s t) {i : Fin 16}
    (hi : ¬ (t.stations[i].state).untimed ∨ .stations ∈ c) : Leaves c s (enterAcquire i t) :=
  h.after_modStation.after_setStationState (by rwa [modStation_station_self])

/-- A timed station is not untimed. -/
theorem not_untimed_of_timed {x : StationState} (h : x.timed = true) : ¬ x.untimed := by
  rintro ⟨hx, -⟩
  rw [h] at hx
  cases hx

theorem Leaves.after_resolveByPrediction (h : Leaves c s t) {i : Fin 16} {j : BlockNo}
    (hi : (t.stations[i].state).timed = true) : Leaves c s (resolveByPrediction i j t) := by
  have coasting {f : Tracker → Tracker} : Leaves c s (setStationState i .coast (modTracker i f t)) := by
    refine h.after_modTracker.after_setStationState (.inl ?_)
    rw [modTracker, modStation_station_self]
    exact not_untimed_of_timed hi
  unfold resolveByPrediction
  simp only
  split
  · split
    · refine coasting.after_enterAcquire (.inl ?_)
      rw [setStationState_state]
      exact not_untimed_of_timed rfl
    · exact coasting
  · exact h.after_modTracker
  · exact h.after_modTracker

theorem Leaves.after_resolveDeadline (h : Leaves c s t) {i : Fin 16} {j : BlockNo} :
    Leaves c s (resolveDeadline i j t) := by
  unfold resolveDeadline
  split
  · split
    · next timed => exact h.after_resolveByPrediction timed
    · exact h.after_modTracker
  · exact h

theorem blockEnds_timed {x : Station} {k : BlockNo} {p : Counter × Counter} (h : blockEnds x k = some p) :
    x.state.timed = true := by
  unfold blockEnds at h
  split at h
  · assumption
  · cases h

theorem Leaves.after_closeTiming (h : Leaves c s t) {i : Fin 16} {k : BlockNo} : Leaves c s (closeTiming i k t).1 := by
  unfold closeTiming
  split
  · simp only
    split
    · next ends =>
      split
      · exact h.after_resolveDeadline
      · exact Leaves.after_logFault (Leaves.after_raise (h.after_resolveDeadline.after_enterAcquire
          (.inl (not_untimed_of_timed (blockEnds_timed ends)))))
    · exact h.after_resolveDeadline
  · exact h

theorem Leaves.after_closeTimings (h : Leaves c s t) {k : BlockNo} : Leaves c s (closeTimings k t).1 :=
  closeTimings_keeps (Leaves c s) k (fun _ _ hu => hu.after_closeTiming) h

/-! ## Lamps and the line test -/

theorem Leaves.after_recomputeLamps (h : Leaves c s t) : Leaves c s (recomputeLamps t) := by
  obtain ⟨l, q, d, e⟩ := recomputeLamps_spec t
  rw [e]
  exact h.congr rfl

theorem Leaves.after_refresh (h : Leaves c s t) {n : Nat} : Leaves c s { t with tally := { t.tally with refresh := n } } :=
  h.congr rfl

theorem Leaves.after_queueTestCommand (h : Leaves c s t) {f : Frame} : Leaves c s (queueTestCommand f t) := by
  obtain ⟨q, d, e, -⟩ := queueTestCommand_spec f t
  rw [e]
  exact h.after_ports

theorem Leaves.after_endTest (h : Leaves c s t) {r : TestResult} : Leaves c s (endTest r t) := by
  unfold endTest
  split
  · refine Leaves.after_setEngine (Leaves.after_raise (Leaves.after_engine ?_))
    split
    · next test =>
      refine Leaves.after_enterAcquire h.after_queueTestCommand (.inl fun still => still.2 test)
    · exact h.after_queueTestCommand
  · exact h
  · exact h

theorem Leaves.after_reexamineTest (h : Leaves c s t) : Leaves c s (reexamineTest t) := by
  unfold reexamineTest
  split
  · split
    · exact h.after_endTest
    · exact h
  · exact h
  · exact h

theorem Leaves.after_abortTestOf (h : Leaves c s t) {i : Fin 16} : Leaves c s (abortTestOf i t) := by
  unfold abortTestOf
  split
  · split
    · exact h.after_endTest
    · exact h
  · exact h
  · exact h

theorem Leaves.after_countTest (h : Leaves c s t) : Leaves c s (countTest t) := by
  unfold countTest
  split
  · exact h.after_setEngine
  · exact h
  · exact h

/-! ## Applied tables -/

theorem Leaves.after_enterIdleState (h : Leaves c s t) {i : Fin 16} {x : StationState} (hc : .stations ∈ c) :
    Leaves c s (enterIdleState i x t) :=
  Leaves.after_groups (h.after_modStation.after_setStationState (.inr hc))

theorem Leaves.after_applyEntryState (h : Leaves c s t) {i : Fin 16} {old new : StationEntry} (hc : .stations ∈ c) :
    Leaves c s (applyEntryState i old new t) := by
  unfold applyEntryState
  split
  · split
    · exact h
    · exact h.after_enterIdleState hc
  · split
    · exact h.after_enterIdleState hc
    · split
      · exact h
      · exact Leaves.after_modStation (h.after_enterIdleState hc)

theorem Leaves.after_applyEntry (h : Leaves c s t) {i : Fin 16} {old new : StationEntry} (hc : .stations ∈ c) :
    Leaves c s (applyEntry i old new t) := by
  unfold applyEntry
  simp only
  split
  · exact (h.after_applyEntryState hc).after_abortTestOf.after_modTracker
  · exact (h.after_applyEntryState hc).after_modTracker

theorem Leaves.after_applyEntries (h : Leaves c s t) {w : Vector Bool 16} {before after : Tables} (hc : .stations ∈ c) :
    Leaves c s (applyEntries w before after t) := by
  refine h.after_forEach fun i u hu => ?_
  split
  · exact hu.after_applyEntry hc
  · exact hu

theorem Leaves.after_applyStaged (h : Leaves c s t) (ht : .tables ∈ c) (hc : .stations ∈ c) : Leaves c s (applyStaged t) := by
  unfold applyStaged
  split
  · exact (Leaves.after_recomputeLamps (Leaves.after_groups ((h.after_tables ht).after_applyEntries hc))).after_raise
  · exact h

theorem Leaves.after_applyAtClose (h : Leaves c s t) (ha : .tables ∈ c ∧ .stations ∈ c ∨ t.tables.staged = false) :
    Leaves c s (applyAtClose t) := by
  unfold applyAtClose
  split
  · next staged =>
    rcases ha with ⟨ht, hc⟩ | unstaged
    · exact (h.after_applyStaged ht hc).after_reexamineTest
    · rw [staged] at unstaged
      cases unstaged
  · exact h

/-! ## Records -/

theorem Leaves.after_storeRecord (h : Leaves c s t) {st : Stream} {r : Record} : Leaves c s (storeRecord st t r) := by
  unfold storeRecord
  split
  · exact h.after_modStream
  · split
    · exact h.after_modStream
    · exact h.after_modStream.after_raise
  · exact h.after_modStream

theorem Leaves.after_storeStallRun (h : Leaves c s t) {st : Stream} : Leaves c s (storeStallRun st t) := by
  unfold storeStallRun
  split
  · exact h.after_modStream
  · exact h

theorem Leaves.after_handRecords (h : Leaves c s t) {st : Stream} {l : List Record} : Leaves c s (handRecords st l t) := by
  unfold handRecords
  split
  · refine Leaves.after_modStream (Leaves.after_foldl ?_ fun u r hu => hu.after_storeRecord)
    split
    · exact h.after_storeStallRun
    · exact h
  · exact h

theorem Leaves.after_storeLateRun (h : Leaves c s t) {st : Stream} : Leaves c s (storeLateRun st t) := by
  unfold storeLateRun
  split
  · exact h.after_storeStallRun.after_modStream
  · exact h

theorem Leaves.after_storeLateRuns (h : Leaves c s t) : Leaves c s (storeLateRuns t) := by
  unfold storeLateRuns
  split
  · exact h.after_storeLateRun.after_storeLateRun
  · exact h

theorem Leaves.after_takeDrainFailure (h : Leaves c s t) {st : Stream} : Leaves c s (takeDrainFailure st t) := by
  unfold takeDrainFailure
  split
  · refine Leaves.after_storeLateRuns ?_
    unfold drainFail
    simp only
    refine Leaves.after_modStream ?_
    split
    · exact h.after_modStream.after_raise
    · exact h.after_modStream
  · exact h

theorem Leaves.after_runTap (h : Leaves c s t) {k : BlockNo} {l : List TrackBuild} : Leaves c s (runTap k l t) := by
  unfold runTap
  split
  · simp only
    split
    · exact Leaves.after_raise h.after_engine
    · exact h.after_engine
  · exact h
  · exact h

/-- The WITHHELD run register and the folded count are none of the framed fields. -/
theorem Leaves.after_assembler (h : Leaves c s t) {k : List KindEntry} {r : Option RunRegister} {n : Nat} :
    Leaves c s { t with assembler := { t.assembler with kinds := k, run := r, folds := n } } := h.congr rfl

theorem Leaves.after_advanceRecordTime (h : Leaves c s t) {m : CourtMode} (hc : .recordTime ∈ c) :
    Leaves c s (advanceRecordTime m t) := by
  have written {x : RecordTime} {b : Bool} :
      Leaves c s { t with timebase := { t.timebase with recordTime := x, recordTimeFull := b } } :=
    h.trans ⟨rfl, rfl, rfl, rfl, rfl, rfl, fun _ h => h, fun _ => rfl, fun _ _ _ => rfl, fun _ => rfl, fun _ => rfl,
      fun hn => absurd hc hn⟩
  unfold advanceRecordTime
  split
  · split
    · exact written
    · split
      · exact h
      · exact written.after_raise fun _ => hc
  · exact h

theorem Leaves.after_closeBlock (h : Leaves c s t) {k : BlockNo} {ts : Timings} {gb : Vector GroupBlock 8}
    (hc : .recordTime ∈ c) : Leaves c s (closeBlock k ts gb t) :=
  Leaves.after_runTap (Leaves.after_handRecords (Leaves.after_handRecords
    (Leaves.after_advanceRecordTime h.after_assembler hc)))

/-! ## The proceeding -/

theorem Leaves.after_setProceedingState (h : Leaves c s t) {p : ProceedingState} (hc : .proceeding ∈ c) :
    Leaves c s (setProceedingState p t) := by
  have changed {x : Proceeding} : Leaves c s { t with proceeding := x } :=
    h.trans ⟨rfl, rfl, rfl, rfl, rfl, rfl, fun _ h => h, fun _ => rfl, fun _ _ _ => rfl, fun _ => rfl,
      fun hn => absurd hc hn, fun _ => ⟨rfl, rfl⟩⟩
  exact changed.after_raise.after_recomputeLamps

theorem Leaves.after_examineDrained (h : Leaves c s t) (hp : .proceeding ∈ c ∨ t.proceeding.state ≠ .draining) :
    Leaves c s (examineDrained t) := by
  unfold examineDrained
  split
  · next due =>
    rcases hp with hc | idle
    · exact Leaves.after_setProceedingState h.after_output hc
    · exact absurd due.1 idle
  · exact h

theorem Leaves.after_afterLastBlock (h : Leaves c s t) {k : BlockNo}
    (hp : .proceeding ∈ c ∨ t.proceeding.state ≠ .draining) : Leaves c s (afterLastBlock k t) := by
  unfold afterLastBlock
  split
  · next due =>
    rcases hp with hc | idle
    · exact h.after_storeLateRuns.after_takeDrainFailure.after_takeDrainFailure.after_examineDrained (.inl hc)
    · exact absurd due.1 idle
  · exact h

/-! ## Close points -/

/-- A mapped table's entry is the image of the entry. -/
@[simp] theorem getElem_mapTable {α β : Type} {n : Nat} (f : α → β) (v : Vector α n) (i : Fin n) :
    (mapTable f v)[i] = f v[i] := by
  simp [mapTable]

theorem Leaves.after_next (h : Leaves c s t) {k : Option BlockNo} (hc : .next ∈ c) :
    Leaves c s { t with assembler := { t.assembler with next := k } } :=
  h.trans ⟨rfl, rfl, rfl, rfl, rfl, rfl, fun _ h => h, fun _ => rfl, fun _ _ _ => rfl, fun hn => absurd hc hn,
    fun _ => rfl, fun _ => ⟨rfl, rfl⟩⟩

theorem Leaves.after_latch (h : Leaves c s t) {l : List LatchEntry} :
    Leaves c s { t with mode := { t.mode with latch := l } } := h.congr rfl

theorem Leaves.after_releaseAll (h : Leaves c s t) {ts : Timings} : Leaves c s (releaseAll ts t) := by
  refine h.after_stations fun i => ?_
  simp only [Fin.getElem_fin, Vector.getElem_ofFn, Fin.eta]
  split <;> rfl

theorem Leaves.after_reexamineForced (h : Leaves c s t) {ts : Timings} : Leaves c s (reexamineForced ts t) :=
  h.after_groups

theorem Leaves.after_removeBoundary (h : Leaves c s t) {k : BlockNo} : Leaves c s (removeBoundary k t) := by
  refine h.after_stations fun i => ?_
  rw [getElem_mapTable]
  rfl

theorem Leaves.after_removeLatch (h : Leaves c s t) {k : BlockNo} : Leaves c s (removeLatch k t) := h.after_latch

theorem Leaves.after_removeKind (h : Leaves c s t) {k : BlockNo} : Leaves c s (removeKind k t) := h.after_assembler

theorem Leaves.after_finishClose (h : Leaves c s t) {k : BlockNo} {ts : Timings} (hc : .next ∈ c) :
    Leaves c s (finishClose k ts t) :=
  Leaves.after_next h.after_releaseAll.after_reexamineForced.after_removeBoundary.after_removeLatch.after_removeKind hc

/-- The close point of block k, once staged writes were applied, up to its records (R56, R85, R94). -/
def closeRecords (k : BlockNo) (s : State) : State :=
  let r := closeTimings k s
  let t := consumeGroups r.2 r.1
  if isBlockClose t k then closeBlock k r.2 (groupBlocks r.1 r.2) t else t

/-- The close point of block k once staged writes were applied. -/
def closeRest (k : BlockNo) (s : State) : State :=
  afterLastBlock k (finishClose k (closeTimings k s).2 (closeRecords k s))

/-- A close point applies staged writes and then closes the block (R73, R94). -/
theorem closePoint_eq (k : BlockNo) (s : State) : closePoint k s = closeRest k (applyAtClose s) := rfl

theorem Leaves.after_closeRecords (h : Leaves c s t) {k : BlockNo} (hr : .recordTime ∈ c) :
    Leaves c s (closeRecords k t) := by
  have consumed : Leaves c s (consumeGroups (closeTimings k t).2 (closeTimings k t).1) :=
    h.after_closeTimings.after_groups
  unfold closeRecords
  simp only
  split
  · exact consumed.after_closeBlock hr
  · exact consumed

theorem Leaves.after_closeRest (h : Leaves c s t) {k : BlockNo} (hr : .recordTime ∈ c) (hn : .next ∈ c)
    (hp : .proceeding ∈ c ∨ s.proceeding.state ≠ .draining) : Leaves c s (closeRest k t) := by
  have finished := (h.after_closeRecords (k := k) hr).after_finishClose (k := k) (ts := (closeTimings k t).2) hn
  refine finished.after_afterLastBlock ?_
  by_cases hc : .proceeding ∈ c
  · exact .inl hc
  · rw [finished.proceeding hc]
    exact .inr (hp.resolve_left hc)

end Sys2Proof.Machine
end

section
/-! PROOFS. The close points of a boundary, one after another, and what a boundary leaves and does (R3, R13, R73, R92, R131). -/

namespace Sys2Proof.Machine

variable {c : List Aspect} {s t : State}

/-! ## Close points -/

theorem Leaves.after_closePoint (h : Leaves c s t) {k : BlockNo}
    (ha : .tables ∈ c ∧ .stations ∈ c ∨ t.tables.staged = false) (hr : .recordTime ∈ c) (hn : .next ∈ c)
    (hp : .proceeding ∈ c ∨ s.proceeding.state ≠ .draining) : Leaves c s (closePoint k t) := by
  rw [closePoint_eq]
  exact (h.after_applyAtClose ha).after_closeRest hr hn hp

/-- With no staged write a close point leaves the tables and the states of untimed stations. -/
theorem closePoint_unstaged (k : BlockNo) (h : s.tables.staged = false) :
    Leaves [.next, .proceeding, .recordTime] s (closePoint k s) :=
  (Leaves.refl _ s).after_closePoint (.inr h) (by simp) (by simp) (.inl (by simp))

theorem Leaves.after_closePoints (h : Leaves c s t) {n : Nat}
    (ha : .tables ∈ c ∧ .stations ∈ c ∨ t.tables.staged = false) (hr : .recordTime ∈ c) (hn : .next ∈ c)
    (hp : .proceeding ∈ c ∨ s.proceeding.state ≠ .draining) : Leaves c s (closePoints n t) := by
  induction n generalizing t with
  | zero => exact h
  | succ n ih =>
    unfold closePoints
    split
    · next k _ =>
      refine ih (h.after_closePoint ha hr hn hp) (ha.imp_right fun unstaged => ?_)
      rwa [(closePoint_unstaged k unstaged).tables (by simp)]
    · exact h

theorem finishClose_next (k : BlockNo) (ts : Timings) (s : State) : (finishClose k ts s).assembler.next = some (k + 1) := rfl

/-- After the close point of block k the next block to close is k + 1 (R92). -/
theorem closePoint_next (k : BlockNo) (s : State) : (closePoint k s).assembler.next = some (k + 1) := by
  have finished := (Leaves.refl [.proceeding] (finishClose k (closeTimings k (applyAtClose s)).2
    (closeRecords k (applyAtClose s)))).after_afterLastBlock (k := k) (.inl (by simp))
  rw [closePoint_eq, closeRest, finished.next (by simp), finishClose_next]

/-- After n close points the next block to close has moved on by n (R92). -/
theorem closePoints_next (n : Nat) (k : BlockNo) (h : s.assembler.next = some k) :
    (closePoints n s).assembler.next = some (k + BitVec.ofNat 32 n) := by
  induction n generalizing s k with
  | zero => simpa [closePoints] using h
  | succ n ih =>
    have later := ih (k + 1) (closePoint_next k s)
    have sum : k + 1 + BitVec.ofNat 32 n = k + BitVec.ofNat 32 (n + 1) := by
      rw [BitVec.ofNat_add, BitVec.add_assoc, BitVec.add_comm 1]
      rfl
    simp only [closePoints, h, later, sum]

/-! ## Staged tables -/

/-- The tables once staged writes are applied (R73, R74). -/
def TableSet.applied (x : TableSet) : TableSet :=
  { active := x.shadow, shadow := x.shadow, staged := false, written := Vector.replicate 16 false,
    mapGeneration := x.mapGeneration + 1 }

/-- Staged writes applied: the shadow copy becomes active, and TABLE_APPLIED is set (R73). -/
theorem applyStaged_tables (h : s.tables.staged = true) :
    (applyStaged s).tables = s.tables.applied ∧ flagSet (applyStaged s) .tableApplied = true := by
  have entries := ((Leaves.refl [.stations] { s with tables := s.tables.applied }).after_applyEntries
    (w := s.tables.written) (before := s.tables.active) (after := s.tables.shadow) (by simp)).tables (by simp)
  unfold applyStaged
  rw [if_pos h]
  refine ⟨?_, raise_sets _ _⟩
  rw [raise_tables]
  unfold activate
  rw [recomputeLamps_tables]
  exact entries

theorem applyAtClose_tables (h : s.tables.staged = true) :
    (applyAtClose s).tables = s.tables.applied ∧ flagSet (applyAtClose s) .tableApplied = true := by
  obtain ⟨tables, flag⟩ := applyStaged_tables h
  have examined := (Leaves.refl [] (applyStaged s)).after_reexamineTest
  unfold applyAtClose
  rw [if_pos h]
  exact ⟨(examined.tables (by simp)).trans tables, examined.flags _ flag⟩

/-- Close points apply staged tables once, at the first of them (R73). -/
theorem closePoints_tables (n : Nat) (k : BlockNo) (hk : s.assembler.next = some k) (hs : s.tables.staged = true) :
    (closePoints (n + 1) s).tables = s.tables.applied ∧ flagSet (closePoints (n + 1) s) .tableApplied = true := by
  obtain ⟨tables, flag⟩ := applyAtClose_tables hs
  have rest : Leaves [.next, .proceeding, .recordTime] (applyAtClose s) (closePoint k s) := by
    rw [closePoint_eq]
    exact (Leaves.refl _ _).after_closeRest (by simp) (by simp) (.inl (by simp))
  have unstaged : (closePoint k s).tables.staged = false := by rw [rest.tables (by simp), tables]; rfl
  have later := rest.after_closePoints (n := n) (.inr unstaged) (by simp) (by simp) (.inl (by simp))
  simp only [closePoints, hk]
  exact ⟨(later.tables (by simp)).trans tables, later.flags _ flag⟩

/-- Where a station may be after staged writes: in ACQUIRE, or ABSENT or DISABLED by its own written entry (R21). -/
def AcquiringOr (w : Prop) (x : StationState) : Prop := x = .acquire ∨ w ∧ (x = .absent ∨ x = .disabled)

theorem AcquiringOr.untimed {w : Prop} {x : StationState} (h : AcquiringOr w x) : x.untimed := by
  rcases h with rfl | ⟨-, rfl | rfl⟩ <;> exact ⟨rfl, by decide⟩

theorem enterIdleState_state (i : Fin 16) (x : StationState) (s : State) : (enterIdleState i x s).stations[i].state = x :=
  setStationState_state i x _

/-- A change of one station's state leaves the other stations. -/
theorem setStationState_other (i k : Fin 16) (x : StationState) (s : State) (h : k ≠ i) :
    (setStationState i x s).stations[k] = s.stations[k] := by
  rcases setStationState_spec i x s with e | e
  · rw [e]
  · simp only [e, raise_stations]
    exact modStation_station_other _ _ _ _ h

theorem enterIdleState_other (i k : Fin 16) (x : StationState) (s : State) (h : k ≠ i) :
    (enterIdleState i x s).stations[k] = s.stations[k] :=
  (setStationState_other i k x _ h).trans (modStation_station_other _ _ _ _ h)

/-- An applied entry leaves its station's state or makes it ABSENT or DISABLED (R21). -/
theorem applyEntryState_state (i : Fin 16) (old new : StationEntry) (s : State) :
    (applyEntryState i old new s).stations[i].state = s.stations[i].state ∨
      (applyEntryState i old new s).stations[i].state = .absent ∨
      (applyEntryState i old new s).stations[i].state = .disabled := by
  unfold applyEntryState
  split
  · split
    · exact .inl rfl
    · exact .inr (.inr (enterIdleState_state _ _ _))
  · split
    · exact .inr (.inl (enterIdleState_state _ _ _))
    · split
      · exact .inl rfl
      · refine .inr (.inl ?_)
        rw [modStation_station_self]
        exact enterIdleState_state i .absent s

theorem applyEntryState_other (i k : Fin 16) (old new : StationEntry) (s : State) (h : k ≠ i) :
    (applyEntryState i old new s).stations[k] = s.stations[k] := by
  unfold applyEntryState
  split
  · split
    · rfl
    · exact enterIdleState_other _ _ _ _ h
  · split
    · exact enterIdleState_other _ _ _ _ h
    · split
      · rfl
      · exact (modStation_station_other _ _ _ _ h).trans (enterIdleState_other _ _ _ _ h)

/-- What an applied entry does after its station's state leaves the untimed stations. -/
theorem applyEntry_leaves (i : Fin 16) (old new : StationEntry) (s : State) :
    Leaves [] (applyEntryState i old new s) (applyEntry i old new s) := by
  unfold applyEntry
  simp only
  split
  · exact (Leaves.refl _ _).after_abortTestOf.after_modTracker
  · exact (Leaves.refl _ _).after_modTracker

/-- Applied entries leave a station in ACQUIRE there, or its own written entry makes it ABSENT or DISABLED (R21). -/
theorem applyEntries_acquiring (i : Fin 16) (w : Vector Bool 16) (before after : Tables) (s : State)
    (h : AcquiringOr (w[i] = true) s.stations[i].state) :
    AcquiringOr (w[i] = true) (applyEntries w before after s).stations[i].state := by
  refine forEach_keeps 16 _ (fun t => AcquiringOr (w[i] = true) t.stations[i].state) (fun k t ht => ?_) s h
  split
  · next written =>
    have moved : AcquiringOr (w[i] = true)
        (applyEntryState k before.stations[k] after.stations[k] t).stations[i].state := by
      by_cases e : i = k
      · subst e
        rcases applyEntryState_state i before.stations[i] after.stations[i] t with same | idle
        · rwa [same]
        · exact .inr ⟨written, idle⟩
      · rwa [applyEntryState_other _ _ _ _ _ e]
    rwa [(applyEntry_leaves k before.stations[k] after.stations[k] t).untimed (by simp) i moved.untimed]
  · exact ht

/-- Staged writes applied at a close point leave a station in ACQUIRE there, or make it ABSENT or DISABLED by its own entry. -/
theorem applyAtClose_acquiring (i : Fin 16) (s : State) (h : s.stations[i].state = .acquire) :
    AcquiringOr (s.tables.staged = true ∧ s.tables.written[i] = true) (applyAtClose s).stations[i].state := by
  unfold applyAtClose
  split
  · next staged =>
    have applied : AcquiringOr (s.tables.written[i] = true) (applyStaged s).stations[i].state := by
      have entries := applyEntries_acquiring i s.tables.written s.tables.active s.tables.shadow
        { s with tables := s.tables.applied } (.inl h)
      unfold applyStaged
      rw [if_pos staged]
      simp only [raise_stations]
      unfold activate
      simp only [recomputeLamps_stations]
      exact entries
    rw [((Leaves.refl [] (applyStaged s)).after_reexamineTest).untimed (by simp) i applied.untimed]
    exact applied.imp_right fun ⟨written, idle⟩ => ⟨⟨staged, written⟩, idle⟩
  · exact .inl h

/-- Close points leave a station in ACQUIRE there, or its own staged entry makes it ABSENT or DISABLED (R21, R56). -/
theorem closePoints_acquiring (n : Nat) (i : Fin 16) (s : State) (h : s.stations[i].state = .acquire) :
    AcquiringOr (s.tables.staged = true ∧ s.tables.written[i] = true) (closePoints n s).stations[i].state := by
  cases n with
  | zero => exact .inl h
  | succ n =>
    cases hk : s.assembler.next with
    | none => simpa only [closePoints, hk] using .inl h
    | some k =>
      have applied := applyAtClose_acquiring i s h
      have rest : Leaves [.next, .proceeding, .recordTime] (applyAtClose s) (closePoint k s) := by
        rw [closePoint_eq]
        exact (Leaves.refl _ _).after_closeRest (by simp) (by simp) (.inl (by simp))
      have unstaged : (closePoint k s).tables.staged = false := by
        rw [rest.tables (by simp)]
        by_cases hs : s.tables.staged = true
        · rw [(applyAtClose_tables hs).1]; rfl
        · have hs : s.tables.staged = false := Bool.eq_false_iff.mpr hs
          rwa [((Leaves.refl [] s).after_applyAtClose (.inr hs)).tables (by simp)]
      have later := rest.after_closePoints (n := n) (.inr unstaged) (by simp) (by simp) (.inl (by simp))
      simp only [closePoints, hk]
      rwa [later.untimed (by simp) i applied.untimed]

/-! ## A boundary -/

/-- A boundary up to its close points: the mode latched, the kind noted, PENDING entries appended, ARMED opened, and the counts
advanced (R24, R43, R69, R76, R95, R125, R131). -/
def beforeCloses (kind : BoundaryKind) (j : BlockNo) (s : State) : State :=
  countBoundary (openAtBoundary j (appendPendingAll j (appendKind j kind (latchMode j s))))

theorem Leaves.after_countBoundary (h : Leaves c s t) : Leaves c s (countBoundary t) := by
  have silent : Leaves c s { t with stations := mapTable Station.countSilence t.stations } := by
    refine h.after_stations fun i => ?_
    rw [getElem_mapTable]
    unfold Station.countSilence
    split <;> rfl
  have counted : Leaves c s { t with
      stations := mapTable Station.countSilence t.stations
      output := { t.output with openS := t.output.openS.countStall.countConfirm,
                                sealedS := t.output.sealedS.countStall.countConfirm } } := silent.after_output
  have refreshed := counted.after_refresh (n := satInc refreshPeriod t.tally.refresh)
  exact refreshed.after_countTest

theorem Leaves.after_appendPendingAll (h : Leaves c s t) {j : BlockNo} : Leaves c s (appendPendingAll j t) := by
  refine h.after_stations fun i => ?_
  rw [getElem_mapTable]
  unfold Station.appendPending
  split <;> rfl

/-- The boundary's own notes, before ARMED is opened. -/
theorem noted_leaves (kind : BoundaryKind) (j : BlockNo) (s : State) :
    Leaves [] s (appendPendingAll j (appendKind j kind (latchMode j s))) :=
  Leaves.after_appendPendingAll (Leaves.after_assembler (Leaves.refl [] s).after_latch)

/-- A boundary that finds the proceeding in ARMED opens it with the block that starts, and raises PROCEEDING_STATE (R131). -/
theorem openAtBoundary_armed (j : BlockNo) (h : s.proceeding.state = .armed) :
    (openAtBoundary j s).proceeding = { s.proceeding with state := .opened, first := some j } ∧
      flagSet (openAtBoundary j s) .proceedingState = true := by
  unfold openAtBoundary setProceedingState
  rw [if_pos h]
  refine ⟨by simp, ?_⟩
  unfold flagSet
  rw [recomputeLamps_management]
  exact raise_sets _ _

theorem openAtBoundary_leaves (j : BlockNo) (s : State) : Leaves [.proceeding] s (openAtBoundary j s) := by
  have given : Leaves [.proceeding] s { s with proceeding := { s.proceeding with first := some j } } :=
    ⟨rfl, rfl, rfl, rfl, rfl, rfl, fun _ h => h, fun _ => rfl, fun _ _ _ => rfl, fun _ => rfl, fun hn => absurd (by simp) hn,
      fun _ => ⟨rfl, rfl⟩⟩
  unfold openAtBoundary
  split
  · exact given.after_setProceedingState (by simp)
  · exact Leaves.refl _ s

/-- Up to its close points a boundary leaves all but the proceeding. -/
theorem beforeCloses_leaves (kind : BoundaryKind) (j : BlockNo) (s : State) :
    Leaves [.proceeding] s (beforeCloses kind j s) := by
  have noted : Leaves [.proceeding] s (appendPendingAll j (appendKind j kind (latchMode j s))) :=
    Leaves.after_appendPendingAll (Leaves.after_assembler (Leaves.refl _ s).after_latch)
  exact (noted.trans (openAtBoundary_leaves j _)).after_countBoundary

theorem beforeCloses_armed (kind : BoundaryKind) (j : BlockNo) (h : s.proceeding.state = .armed) :
    (beforeCloses kind j s).proceeding = { s.proceeding with state := .opened, first := some j } ∧
      flagSet (beforeCloses kind j s) .proceedingState = true := by
  have noted := (noted_leaves kind j s).proceeding (by simp)
  obtain ⟨opened, flag⟩ := openAtBoundary_armed (s := appendPendingAll j (appendKind j kind (latchMode j s))) j
    (by rw [noted]; exact h)
  have counted := (Leaves.refl [] (openAtBoundary j
    (appendPendingAll j (appendKind j kind (latchMode j s))))).after_countBoundary
  exact ⟨(counted.proceeding (by simp)).trans (by rw [opened, noted]), counted.flags _ flag⟩

/-- The Block Assembler's part of a boundary leaves all but the tables, the stations, the next block, the proceeding and the record
time. -/
theorem closeAtBoundary_leaves (j : BlockNo) (s : State) :
    Leaves Aspect.all s (closeAtBoundary j s) := by
  unfold closeAtBoundary
  split
  · exact (Leaves.refl _ s).after_next (by simp [Aspect.all])
  · exact (Leaves.refl _ s).after_closePoints (.inl (by simp [Aspect.all])) (by simp [Aspect.all]) (by simp [Aspect.all])
      (.inl (by simp [Aspect.all]))

/-- A boundary leaves the configuration, the timebase but for the record time, the mode, the overrides, D and every flag set. -/
theorem presentBoundary_leaves (kind : BoundaryKind) (j : BlockNo) (s : State) :
    Leaves Aspect.all s (presentBoundary kind j s) := by
  exact ((beforeCloses_leaves kind j s).mono (by simp [Aspect.all])).trans (closeAtBoundary_leaves j _)

/-- A boundary with no proceeding in DRAINING leaves the proceeding as it stood once ARMED was opened. -/
theorem closeAtBoundary_proceeding (j : BlockNo) (h : s.proceeding.state ≠ .draining) :
    (closeAtBoundary j s).proceeding = s.proceeding := by
  have left : Leaves [.tables, .stations, .next, .recordTime] s (closeAtBoundary j s) := by
    unfold closeAtBoundary
    split
    · exact (Leaves.refl _ s).after_next (by simp)
    · exact (Leaves.refl _ s).after_closePoints (.inl (by simp)) (by simp) (by simp) (.inr h)
  exact left.proceeding (by simp)

/-- A boundary with no staged write leaves the tables. -/
theorem closeAtBoundary_unstaged (j : BlockNo) (h : s.tables.staged = false) :
    (closeAtBoundary j s).tables = s.tables := by
  have left : Leaves [.next, .proceeding, .recordTime] s (closeAtBoundary j s) := by
    unfold closeAtBoundary
    split
    · exact (Leaves.refl _ s).after_next (by simp)
    · exact (Leaves.refl _ s).after_closePoints (.inr h) (by simp) (by simp) (.inl (by simp))
  exact left.tables (by simp)

/-- The first boundary sets the next block to close (R92). -/
theorem closeAtBoundary_first (j : BlockNo) (h : s.assembler.next = none) :
    closeAtBoundary j s = { s with assembler := { s.assembler with next := some j } } := by
  unfold closeAtBoundary
  rw [h]

/-- A later boundary handles the close points that are due (R92). -/
theorem closeAtBoundary_later (j k : BlockNo) (h : s.assembler.next = some k) : closeAtBoundary j s =
    closePoints (counterDiff j k - (s.assembler.closeDelay : Int)).toNat s := by
  simp only [closeAtBoundary, closesDue, h]

end Sys2Proof.Machine
end

section
/-! PROOFS. The record time at the close of a block, the marks of the room clock and the two timers (R5 to R11, R17). -/

namespace Sys2Proof.Machine

variable {s : State}

/-! ## The record time at a block close (R17) -/

theorem advances_iff (m : CourtMode) : m.advances = true ↔ m = .onRecord ∨ m = .sidebar ∨ m = .closedHearing := by
  cases m <;> decide

theorem advanceRecordTime_rests {m : CourtMode} (h : ¬ m.advances = true) : advanceRecordTime m s = s := if_neg h

theorem advanceRecordTime_moves {m : CourtMode} {r : RecordTime} (h : m.advances = true)
    (ha : s.timebase.recordTime.advance = some r) :
    advanceRecordTime m s = { s with timebase := { s.timebase with recordTime := r } } := by
  unfold advanceRecordTime
  rw [if_pos h, ha]

/-- At the end of the record time the record-time-full mark is set, and RECORD_TIME_FULL is raised the first time alone. -/
theorem advanceRecordTime_ends {m : CourtMode} (h : m.advances = true) (ha : s.timebase.recordTime.advance = none) :
    (advanceRecordTime m s).timebase = { s.timebase with recordTimeFull := true } ∧
      (flagSet (advanceRecordTime m s) .recordTimeFull = true ↔
        flagSet s .recordTimeFull = true ∨ s.timebase.recordTimeFull = false) := by
  unfold advanceRecordTime
  rw [if_pos h, ha]
  simp only
  split
  · next full => exact ⟨by rw [← full], by simp [full]⟩
  · next fresh => exact ⟨raise_timebase _ _, by simp [fresh]⟩

/-- The close of a block has the record time of an advance of the same timebase in the block's latched mode. -/
theorem closeBlock_advances (k : BlockNo) (ts : Timings) (gb : Vector GroupBlock 8) (s : State) :
    ∃ u : State, u.timebase = s.timebase ∧ flagSet u .recordTimeFull = flagSet s .recordTimeFull ∧
      (closeBlock k ts gb s).timebase = (advanceRecordTime (latchedMode s k) u).timebase ∧
      flagSet (closeBlock k ts gb s) .recordTimeFull =
        flagSet (advanceRecordTime (latchedMode s k) u) .recordTimeFull := by
  have counted (r : Option RunRegister) (l : List TrackBuild) : Leaves [] s (setRun r (countFolds l s)) :=
    Leaves.after_assembler (Leaves.refl [] s)
  obtain ⟨sameTime, sameFlag⟩ := (counted _ _).recordTime (by simp)
  obtain ⟨time, flag⟩ := ((((Leaves.refl [] (advanceRecordTime (latchedMode s k) _)).after_handRecords).after_handRecords).after_runTap).recordTime
    (by simp)
  exact ⟨_, sameTime, sameFlag, time, flag⟩

/-- Settles O11: the arithmetic of an advance, and the close of a block as an advance in its latched mode. -/
theorem recordTimeAdvances : Obligations.RecordTimeAdvances := by
  refine ⟨fun t legal => ⟨fun u => advance_legal legal, advance_none_iff legal⟩, fun s k ts gb => ?_⟩
  obtain ⟨u, sameTime, sameFlag, time, flag⟩ := closeBlock_advances k ts gb s
  simp only [← advances_iff, time, flag, ← sameTime, ← sameFlag]
  by_cases due : (latchedMode s k).advances = true
  · refine ⟨fun rests => ?_, fun _ r moved => ?_, fun _ ended => (advanceRecordTime_ends due ended).1, ?_⟩
    · rcases rests with rests | rests <;> rw [rests] at due <;> cases due
    · rw [advanceRecordTime_moves due moved]
    · cases ha : u.timebase.recordTime.advance with
      | none => simpa [due] using (advanceRecordTime_ends due ha).2
      | some r => simp [advanceRecordTime_moves due ha, flagSet]
  · rw [advanceRecordTime_rests due]
    simp [due]

/-! ## A boundary taken (R3, R13) -/

/-- A boundary leaves all but the aspects from the state whose timebase has taken its step. -/
theorem takeBoundary_leaves (kind : BoundaryKind) (m : MarkNo) (time : Tick) (s : State) :
    Leaves Aspect.all { s with timebase := s.timebase.step kind m time } (takeBoundary kind m time s) :=
  presentBoundary_leaves kind _ _

/-- A timebase that took a boundary has taken it from any timebase with its block number. -/
theorem boundaryTaken_step {a x b : Timebase} {kind : BoundaryKind} {m : MarkNo} {time : Tick} {r : RecordTime} {f : Bool}
    (hb : b = { x.step kind m time with recordTime := r, recordTimeFull := f })
    (hn : x.blockNumber = a.blockNumber := by rfl) : BoundaryTaken a b kind m time := by
  subst hb
  simp [BoundaryTaken, Timebase.step, addHistory, hn]

/-! ## Marks (R2) -/

/-- What follows the observation of a mark: it may be forwarded, and the sender and the arbiters take what waits. -/
def passOn (f : Frame) (s : State) : State := settle (forwardMark f s)

/-- A mark that arrives is taken by the timebase and passed on (R2, R156). -/
theorem exec_mark {f : Frame} (time : Tick) (h : MarkArrives s f) :
    exec (.cadenceMark f time) s = .next (passOn f (takeMark (markNumber f) time s)) := by
  obtain ⟨arrives, formed, awake, source⟩ := h
  have observed : observeMark f time s = takeMark (markNumber f) time s := by
    unfold observeMark
    rw [if_neg (by simp [formed]), awake, source]
    rfl
  change Host.Outcome.next _ = _
  rw [if_pos arrives, observed]
  rfl

/-- A mark forwarded changes the queue toward port B and its drop count alone (R156, R159). -/
theorem forwardMark_spec (f : Frame) (s : State) :
    ∃ x d, forwardMark f s = { s with ports := { s.ports with forwardAB := x, dropAB := d } } := by
  unfold forwardMark forwardFrom
  split
  · exact ⟨_, _, rfl⟩
  · split
    · exact ⟨_, _, rfl⟩
    · simp only
      split <;> exact ⟨_, _, rfl⟩

/-- What a mark's passing on can change: the ports, Record Output and the waiting monitor frame. -/
theorem passOn_spec (f : Frame) (s : State) :
    ∃ p o w, passOn f s = { s with ports := p, output := o, engine := { s.engine with waiting := w } } := by
  obtain ⟨x, d, hq⟩ := forwardMark_spec f s
  obtain ⟨p, o, w, h⟩ := settle_spec (forwardMark f s)
  exact ⟨p, o, w, by unfold passOn; rw [h, hq]⟩

theorem Leaves.after_passOn {c : List Aspect} {s t : State} (h : Leaves c s t) {f : Frame} : Leaves c s (passOn f t) := by
  obtain ⟨p, o, w, e⟩ := passOn_spec f t
  rw [e]
  exact h.congr rfl

@[simp] theorem passOn_timebase (f : Frame) (s : State) : (passOn f s).timebase = s.timebase :=
  ((Leaves.refl [] s).after_passOn.recordTime (by simp)).1

@[simp] theorem passOn_stations (f : Frame) (s : State) : (passOn f s).stations = s.stations := by
  obtain ⟨p, o, w, h⟩ := passOn_spec f s
  rw [h]

/-- With no monitor frame for port B its arbiter changes the ports alone (R162). -/
theorem arbiterB_ports (h : portReady s .B = true → monitorFor s .B = none) : ∃ p, arbiterB s = { s with ports := p } := by
  unfold arbiterB
  split
  · next ready =>
    unfold selectB
    split
    · exact ⟨_, rfl⟩
    · rw [h ready]
      exact selectClass3_spec s
  · exact ⟨_, rfl⟩

/-- In a settled state the passing on of a mark changes the ports alone: nothing but the mark itself waits (R159, R162). -/
theorem passOn_settled (f : Frame) (h : s.Settled) : ∃ p, passOn f s = { s with ports := p } := by
  obtain ⟨sender, portA, portB⟩ := h
  obtain ⟨x, d, forwarded⟩ := forwardMark_spec f s
  have sent : runSender (forwardMark f s) = forwardMark f s := by rw [forwarded]; exact runSender_settled _ sender
  have taken : arbiterA (forwardMark f s) = forwardMark f s := by rw [forwarded]; exact arbiterA_settled _ portA
  obtain ⟨p, h⟩ := arbiterB_ports (s := forwardMark f s) (by rw [forwarded]; exact fun ready => (portB ready).2.1)
  exact ⟨p, by unfold passOn settle; rw [sent, taken, h, forwarded]⟩

/-! ## SEARCH (R5) -/

theorem continuesRun_iff (t : Timebase) (m : MarkNo) (time : Tick) : continuesRun t m time = true ↔
    1 ≤ t.candidateCount ∧ m = t.candidateMark + 1 ∧ t.candidateTime + 120422 ≤ time ∧
      time ≤ t.candidateTime + 125338 := by
  simp only [continuesRun, Bool.and_eq_true, decide_eq_true_eq, beq_iff_eq, and_assoc]
  rfl

/-- Settles O20: a mark in SEARCH becomes the candidate, or the third of a run locks the timebase. -/
theorem searchTakesThreeMarks : Obligations.SearchTakesThreeMarks := by
  intro s f time arrives search
  have took : takeMark (markNumber f) time s = markInSearch (markNumber f) time s := by unfold takeMark; rw [search]
  rw [exec_mark time arrives, took]
  refine ⟨fun hs one run => ?_, fun hs fresh => ?_, fun two run => ?_⟩
  · have step : markInSearch (markNumber f) time s = takeCandidate 2 (markNumber f) time s := by
      unfold markInSearch
      rw [if_pos ((continuesRun_iff ..).mpr ⟨by omega, run⟩), if_pos one]
    obtain ⟨p, h⟩ := passOn_settled (s := takeCandidate 2 (markNumber f) time s) f hs
    exact ⟨_, rfl, by rw [step, h]; rfl, by rw [step, h]; rfl⟩
  · have step : markInSearch (markNumber f) time s = takeCandidate 1 (markNumber f) time s := by
      unfold markInSearch
      rw [if_neg]
      rw [continuesRun_iff]
      rintro ⟨started, run⟩
      rcases fresh with none | broken
      · omega
      · exact broken run
    obtain ⟨p, h⟩ := passOn_settled (s := takeCandidate 1 (markNumber f) time s) f hs
    exact ⟨_, rfl, by rw [step, h]; rfl, by rw [step, h]; rfl⟩
  · have step : markInSearch (markNumber f) time s = lock (markNumber f) time s := by
      unfold markInSearch
      rw [if_pos ((continuesRun_iff ..).mpr ⟨by omega, run⟩), if_neg (by omega)]
    have locked := takeBoundary_leaves .real (markNumber f) time { s with timebase :=
      { s.timebase with state := .locked, candidateCount := 0, guardTimer := some (time + guardTicks) } }
    have left : Leaves Aspect.all _ (passOn f (lock (markNumber f) time s)) :=
      (locked.after_raise (f := .timebaseLocked)).after_passOn
    have raised : flagSet (passOn f (lock (markNumber f) time s)) .timebaseLocked = true :=
      (Leaves.refl [] _).after_passOn.flags _ (raise_sets .timebaseLocked _)
    rw [step]
    refine ⟨_, rfl, ?_, boundaryTaken_step left.timebase, ?_, ?_, raised, ?_, ?_, left.config, left.current, left.stack,
      left.override⟩ <;> (rw [left.timebase]; rfl)

end Sys2Proof.Machine
end

section
/-! PROOFS. Marks in LOCKED and HOLDOVER, jumps, and the two timers (R6 to R11). -/

namespace Sys2Proof.Machine

variable {s : State}

/-! ## Expected marks (R6, R9, R10) -/

theorem elapsed_of_last {l : Tick} (time : Tick) (h : s.timebase.last = some l) : elapsed s time = time - l := by
  simp [elapsed, h]

theorem earlyLimit_le_elapsed {l : Tick} (time : Tick) (h : s.timebase.last = some l) :
    earlyLimit ≤ elapsed s time ↔ l + 110592 ≤ time := by
  have ticks (a b : Nat) : 110592 ≤ a - b ↔ b + 110592 ≤ a := by omega
  rw [elapsed_of_last time h]
  exact ticks time l

theorem elapsed_lt_relockLow {l : Tick} (time : Tick) (h : s.timebase.last = some l) :
    elapsed s time < relockLow ↔ time < l + 61440 := by
  have ticks (a b : Nat) : a - b < 61440 ↔ a < b + 61440 := by omega
  rw [elapsed_of_last time h]
  exact ticks time l

theorem elapsed_le_synthesisTicks {l : Tick} (time : Tick) (h : s.timebase.last = some l) :
    elapsed s time ≤ synthesisTicks ↔ time ≤ l + 122880 := by
  rw [elapsed_of_last time h]
  exact Nat.sub_le_iff_le_add'

/-- No mark number follows itself. -/
theorem markNo_succ_ne (m : MarkNo) : m + 1 ≠ m := by
  intro h
  bv_omega

/-- Settles O21: an expected mark at its time is a boundary that restarts the guard, an early one is counted, a late one is ignored. -/
theorem expectedMarksByTime : Obligations.ExpectedMarksByTime := by
  intro s f time l arrives last
  rw [exec_mark time arrives]
  refine ⟨fun locked expected due => ?_, fun hs early expected => ?_, fun hs holdover late => ?_⟩
  · have took : takeMark (markNumber f) time s = takeBoundary .real (markNumber f) time
        { s with timebase := s.timebase.lockedUntil (time + guardTicks) } := by
      unfold takeMark markInLocked
      rw [locked]
      simp only
      rw [if_pos expected, if_pos ((earlyLimit_le_elapsed time last).mpr due)]
    have left := (takeBoundary_leaves .real (markNumber f) time
      { s with timebase := s.timebase.lockedUntil (time + guardTicks) }).after_passOn (f := f)
    rw [took]
    refine ⟨_, rfl, ?_, boundaryTaken_step left.timebase, ?_, ?_, ?_, ?_, left.config, left.current, left.stack,
      left.override⟩ <;> (rw [left.timebase]; rfl)
  · have took : takeMark (markNumber f) time s = countEarly s := by
      unfold takeMark
      rcases early with ⟨locked, -, before⟩ | ⟨holdover, -, before⟩
      · rw [locked]
        simp only [markInLocked]
        rw [if_pos expected, if_neg (by rw [earlyLimit_le_elapsed time last]; exact Nat.not_le.mpr before)]
      · rw [holdover]
        simp only [markInHoldover]
        rw [if_pos expected, if_pos ((elapsed_lt_relockLow time last).mpr before)]
    obtain ⟨p, h⟩ := passOn_settled (s := countEarly s) f hs
    exact ⟨_, rfl, by rw [took, h]; rfl⟩
  · have other : markNumber f ≠ s.timebase.expected := by
      rw [← late]
      exact (markNo_succ_ne _).symm
    have took : takeMark (markNumber f) time s = s := by
      unfold takeMark markInHoldover
      rw [holdover]
      simp only
      rw [if_neg other, if_pos late]
    obtain ⟨p, h⟩ := passOn_settled f hs
    exact ⟨_, rfl, by rw [took, h]⟩

/-! ## The re-lock window (R9) -/

/-- The timebase once a mark in the re-lock window is counted, before its boundary: back in LOCKED at the third in a row, and in
HOLDOVER with the synthesis timer restarted before. -/
def Timebase.relocking (time : Tick) (x : Timebase) : Timebase :=
  let n := x.consecutive + 1
  let y := { x with relock := satInc16 x.relock, consecutive := if 3 ≤ n then 0 else n }
  if 3 ≤ n then y.lockedUntil (time + guardTicks) else y.holdoverUntil (time + synthesisTicks)

/-- A mark in the re-lock window is a boundary, and TIMEBASE_LOCKED is raised at the third in a row. -/
theorem relock_eq (m : MarkNo) (time : Tick) (s : State) : relock m time s =
    (if 2 ≤ s.timebase.consecutive then raise .timebaseLocked else id)
      (takeBoundary .real m time { s with timebase := s.timebase.relocking time }) := by
  by_cases third : 2 ≤ s.timebase.consecutive
  · have three : 3 ≤ s.timebase.consecutive + 1 := by omega
    have three' : relockCount ≤ s.timebase.consecutive + 1 := three
    simp only [relock, Timebase.relocking, if_pos third, if_pos three, if_pos three']
  · have three : ¬ 3 ≤ s.timebase.consecutive + 1 := by omega
    have three' : ¬ relockCount ≤ s.timebase.consecutive + 1 := three
    simp only [relock, Timebase.relocking, if_neg third, if_neg three, if_neg three', id]

/-- Settles O23: the boundary of a mark in the re-lock window, before the third in a row and at it. -/
theorem relockWindowMark : Obligations.RelockWindowMark := by
  intro s f time l arrives holdover last expected after before
  have took : takeMark (markNumber f) time s = relock (markNumber f) time s := by
    unfold takeMark markInHoldover
    rw [holdover]
    simp only
    rw [if_pos expected, if_neg (by rw [elapsed_lt_relockLow time last]; exact Nat.not_lt.mpr after),
      if_pos ((elapsed_le_synthesisTicks time last).mpr before)]
  have boundary := takeBoundary_leaves .real (markNumber f) time { s with timebase := s.timebase.relocking time }
  have relocked : Leaves Aspect.all
      { s with timebase := (s.timebase.relocking time).step .real (markNumber f) time } (relock (markNumber f) time s) := by
    rw [relock_eq]
    split
    · exact boundary.after_raise
    · exact boundary
  have left := relocked.after_passOn (f := f)
  have number : (s.timebase.relocking time).blockNumber = s.timebase.blockNumber := by
    unfold Timebase.relocking
    simp only
    split <;> rfl
  have counted : (s.timebase.relocking time).relock = satInc16 s.timebase.relock := by
    unfold Timebase.relocking
    simp only
    split <;> rfl
  rw [exec_mark time arrives, took]
  refine ⟨_, rfl, boundaryTaken_step left.timebase number, ?_, fun few => ?_, fun third => ?_, left.config, left.current⟩
  · rw [left.timebase]
    exact counted
  · have waiting : s.timebase.relocking time = { s.timebase with
        state := .holdover, guardTimer := none, synthesisTimer := some (time + 122880),
        relock := satInc16 s.timebase.relock, consecutive := s.timebase.consecutive + 1 } := by
      have three : ¬ 3 ≤ s.timebase.consecutive + 1 := by omega
      simp only [Timebase.relocking, if_neg three]
      rfl
    rw [left.timebase, waiting]
    exact ⟨rfl, rfl, rfl⟩
  · have back : s.timebase.relocking time = { s.timebase with
        state := .locked, guardTimer := some (time + 135168), synthesisTimer := none,
        relock := satInc16 s.timebase.relock, consecutive := 0 } := by
      have three : 3 ≤ s.timebase.consecutive + 1 := by omega
      simp only [Timebase.relocking, if_pos three]
      rfl
    have raised : flagSet (passOn f (relock (markNumber f) time s)) .timebaseLocked = true := by
      rw [relock_eq, if_pos third]
      exact (Leaves.refl [] _).after_passOn.flags _ (raise_sets .timebaseLocked _)
    rw [left.timebase, back]
    exact ⟨rfl, rfl, rfl, rfl, raised⟩

/-! ## Jumps (R11) -/

/-- A boundary leaves a station in ACQUIRE there, or its own staged entry makes it ABSENT or DISABLED (R21). -/
theorem takeBoundary_acquiring (kind : BoundaryKind) (m : MarkNo) (time : Tick) (i : Fin 16)
    (h : s.stations[i].state = .acquire) :
    AcquiringOr (s.tables.staged = true ∧ s.tables.written[i] = true)
      (takeBoundary kind m time s).stations[i].state := by
  have before := beforeCloses_leaves kind (s.timebase.blockNumber + 1)
    { s with timebase := s.timebase.step kind m time }
  have acquiring : (beforeCloses kind (s.timebase.blockNumber + 1)
      { s with timebase := s.timebase.step kind m time }).stations[i].state = .acquire :=
    (before.untimed (by simp) i (by rw [h]; exact ⟨rfl, by decide⟩)).trans h
  have closed (j : BlockNo) (b : State) (hb : b.stations[i].state = .acquire) :
      AcquiringOr (b.tables.staged = true ∧ b.tables.written[i] = true) (closeAtBoundary j b).stations[i].state := by
    unfold closeAtBoundary
    cases b.assembler.next with
    | none => exact .inl hb
    | some k => exact closePoints_acquiring _ i b hb
  have taken := closed (s.timebase.blockNumber + 1) _ acquiring
  rw [before.tables (by simp)] at taken
  exact taken

theorem enterAcquire_other (i k : Fin 16) (s : State) (h : k ≠ i) : (enterAcquire i s).stations[k] = s.stations[k] :=
  (setStationState_other i k .acquire _ h).trans (modStation_station_other _ _ _ _ h)

/-- Work on every index: what the work on index i makes of a property that the others keep, and the others keep too, holds at the
end. -/
theorem forEach_brings {σ : Type} {n : Nat} {f : Fin n → σ → σ} {P Q : σ → Prop} (i : Fin n)
    (brings : ∀ t, P t → Q (f i t)) (weaker : ∀ t, Q t → P t) (before : ∀ k t, k ≠ i → P t → P (f k t))
    (after : ∀ k t, k ≠ i → Q t → Q (f k t)) (s : σ) (hs : P s) : Q (forEach n f s) := by
  have all (l : List (Fin n)) : ∀ t, (Q t ∨ i ∈ l ∧ P t) → Q (l.foldl (fun t k => f k t) t) := by
    induction l with
    | nil => simp
    | cons k l ih =>
      intro t ht
      refine ih (f k t) ?_
      by_cases e : k = i
      · subst e
        exact .inl (brings t (ht.elim (weaker t) (·.2)))
      · rcases ht with done | ⟨mem, waiting⟩
        · exact .inl (after k t e done)
        · exact .inr ⟨(List.mem_cons.mp mem).resolve_left (Ne.symm e), before k t e waiting⟩
  exact all _ s (.inr ⟨List.mem_finRange i, hs⟩)

/-- A jump sends every station that ran to ACQUIRE (R11). -/
theorem jumpStations_acquires (i : Fin 16) (s : State) (h : s.stations[i].state.running = true) :
    (jumpStations s).stations[i].state = .acquire := by
  have others (k : Fin 16) (t : State) (hk : k ≠ i) :
      (if t.stations[k].state.running then enterAcquire k t else t).stations[i] = t.stations[i] := by
    split
    · exact enterAcquire_other k i t hk.symm
    · rfl
  refine forEach_brings (P := fun t : State => t.stations[i].state.running = true)
    (Q := fun t : State => t.stations[i].state = .acquire) i (fun t running => ?_) (fun t done => ?_)
    (fun k t hk running => ?_) (fun k t hk done => ?_) s h
  · rw [if_pos running]
    exact setStationState_state i .acquire _
  · rw [done]
    rfl
  · rwa [others k t hk]
  · rwa [others k t hk]

theorem jumpStations_leaves (s : State) : Leaves [.stations] s (jumpStations s) := by
  refine (Leaves.refl _ s).after_forEach fun i t ht => ?_
  split
  · exact ht.after_enterAcquire (.inr (by simp))
  · exact ht

end Sys2Proof.Machine
end

section
/-! PROOFS. Jumps of the mark numbering and the boundaries that the two timers make (R7, R8, R11, R73, R92, R131). -/

namespace Sys2Proof.Machine

variable {s : State}

/-! ## Jumps (R11) -/

/-- The part `j` as a jump mark finds it: Mark History is cleared once the stations went to ACQUIRE (R11, R14). -/
def jumpStart (x : Timebase) (j : State) : State := { j with timebase := { x with history := [] } }

theorem jumpStart_eq (s : State) : clearHistory (jumpStations s) = jumpStart s.timebase (jumpStations s) := by
  unfold clearHistory jumpStart
  rw [((jumpStations_leaves s).recordTime (by simp)).1]

/-- The timebase of a jump mark that makes a boundary, before it takes its step. -/
def Timebase.jumping (time : Tick) (x : Timebase) : Timebase :=
  { x with history := [] }.lockedUntil (time + guardTicks)

/-- The timebase of a jump mark that makes no boundary: the guard counts on from L (R11, step 3). -/
def Timebase.jumpedEarly (l : Tick) (x : Timebase) : Timebase :=
  if x.state = .locked then { x with history := [] } else { x with history := [] }.lockedUntil (l + guardTicks)

/-- A jump mark 110,592 ticks or more after L makes a boundary (R11, step 3). -/
theorem jumpBoundary_late {x : Timebase} {l : Tick} (m : MarkNo) (time : Tick) (j : State) (last : x.last = some l)
    (due : l + 110592 ≤ time) :
    jumpBoundary m time (jumpStart x j) = takeBoundary .real m time { j with timebase := x.jumping time } := by
  have reached : earlyLimit ≤ elapsed (jumpStart x j) time := (earlyLimit_le_elapsed time last).mpr due
  unfold jumpBoundary
  rw [if_pos reached]
  unfold jumpStart Timebase.jumping
  rfl

/-- An earlier jump mark makes none (R11, step 3). -/
theorem jumpBoundary_early {x : Timebase} {l : Tick} (m : MarkNo) (time : Tick) (j : State) (last : x.last = some l)
    (early : time < l + 110592) :
    jumpBoundary m time (jumpStart x j) = { j with timebase := x.jumpedEarly l } := by
  have before : ¬ earlyLimit ≤ elapsed (jumpStart x j) time := by
    rw [earlyLimit_le_elapsed time (show (jumpStart x j).timebase.last = some l from last)]
    exact Nat.not_le.mpr early
  unfold jumpBoundary
  rw [if_neg before]
  unfold earlyJump jumpStart Timebase.jumpedEarly
  simp only [last, Option.getD_some]
  split <;> rfl

/-- What a jump writes after its boundary: the numbering, the consecutive-real count and the jump count (R11). -/
def Timebase.renumbered (m : MarkNo) (x : Timebase) : Timebase :=
  { x with expected := m + 1, consecutive := 0, jump := satInc16 x.jump }

theorem jump_eq (m : MarkNo) (time : Tick) (s : State) : jump m time s =
    raise .timebaseJump { jumpBoundary m time (jumpStart s.timebase (jumpStations s)) with
      timebase := (jumpBoundary m time (jumpStart s.timebase (jumpStations s))).timebase.renumbered m } := by
  unfold jump
  rw [jumpStart_eq]
  rfl

/-- A jump's mark is taken as a jump in LOCKED and in HOLDOVER (R11). -/
theorem takeMark_jump (m : MarkNo) (time : Tick)
    (h : s.timebase.state = .locked ∧ m ≠ s.timebase.expected ∨
      s.timebase.state = .holdover ∧ m ≠ s.timebase.expected ∧ m + 1 ≠ s.timebase.expected) :
    takeMark m time s = jump m time s := by
  unfold takeMark
  rcases h with ⟨locked, other⟩ | ⟨holdover, other, late⟩
  · simp only [locked, markInLocked, if_neg other]
  · simp only [holdover, markInHoldover, if_neg other, if_neg late]

/-- Settles O22: the jump's stations, its boundary or none, and the numbering that restarts. -/
theorem jumpRestartsNumbering : Obligations.JumpRestartsNumbering := by
  intro s f time l arrives last jumps
  rw [exec_mark time arrives, takeMark_jump _ time jumps, jump_eq]
  generalize hm : markNumber f = m
  have moved := jumpStations_leaves s
  have acquires (i : Fin 16) := jumpStations_acquires i s
  generalize jumpStations s = j at moved acquires
  generalize hv : jumpBoundary m time (jumpStart s.timebase j) = v
  have left := ((Leaves.refl [] { v with timebase := v.timebase.renumbered m }).after_raise
    (f := .timebaseJump)).after_passOn (f := f)
  have raised : Leaves [] (raise .timebaseJump { v with timebase := v.timebase.renumbered m })
      (passOn f (raise .timebaseJump { v with timebase := v.timebase.renumbered m })) := (Leaves.refl [] _).after_passOn
  have flag := raised.flags .timebaseJump (raise_sets _ _)
  have timebase := (left.recordTime (by simp)).1
  have stations : (passOn f (raise .timebaseJump { v with timebase := v.timebase.renumbered m })).stations = v.stations := by
    simp
  refine ⟨_, rfl, ?_⟩
  rw [timebase, left.current, left.config, stations]
  generalize passOn f (raise .timebaseJump { v with timebase := v.timebase.renumbered m }) = t at flag
  by_cases due : l + 110592 ≤ time
  · rw [jumpBoundary_late m time j last due] at hv
    have boundary := takeBoundary_leaves .real m time { j with timebase := s.timebase.jumping time }
    have acquiring (i : Fin 16) := takeBoundary_acquiring (s := { j with timebase := s.timebase.jumping time })
      .real m time i
    rw [hv] at boundary
    simp only [hv] at acquiring
    refine ⟨?_, rfl, rfl, ?_, flag, boundary.current.trans moved.current, boundary.config.trans moved.config,
      fun i running => ?_, fun _ => ⟨?_, ?_, ?_⟩, fun early => absurd due (Nat.not_le.mpr early)⟩
    · rw [boundary.timebase]
      rfl
    · rw [boundary.timebase]
      rfl
    · refine (acquiring i (acquires i running)).imp_right fun ⟨⟨staged, written⟩, idle⟩ => ?_
      have same := moved.tables (by simp)
      simp only [same] at staged written
      exact ⟨due, staged, written, idle⟩
    · obtain ⟨number, kind, taken, -, newest⟩ : BoundaryTaken s.timebase v.timebase .real m time :=
        boundaryTaken_step boundary.timebase
      exact ⟨number, kind, taken, rfl, newest⟩
    · rw [boundary.timebase]
      rfl
    · rw [boundary.timebase]
      rfl
  · have early : time < l + 110592 := Nat.not_le.mp due
    rw [jumpBoundary_early m time j last early] at hv
    subst hv
    have time_eq : ∃ g x, s.timebase.jumpedEarly l =
        { s.timebase with state := .locked, history := [], guardTimer := g, synthesisTimer := x } ∧
        (s.timebase.state = .locked → g = s.timebase.guardTimer) ∧
        (s.timebase.state = .holdover → g = some (l + 135168) ∧ x = none) := by
      unfold Timebase.jumpedEarly
      split
      · next locked =>
        exact ⟨s.timebase.guardTimer, s.timebase.synthesisTimer, by rw [← locked], fun _ => rfl,
          fun holdover => by rw [locked] at holdover; cases holdover⟩
      · next unlocked => exact ⟨_, _, rfl, fun locked => absurd locked unlocked, fun _ => ⟨rfl, rfl⟩⟩
    obtain ⟨g, x, jumped, inLocked, inHoldover⟩ := time_eq
    simp only [jumped]
    exact ⟨rfl, rfl, rfl, rfl, flag, moved.current, moved.config, fun i running => .inl (acquires i running),
      fun late => absurd late due, fun _ => ⟨rfl, rfl, last, rfl, inLocked, inHoldover⟩⟩

/-! ## The timers (R7, R8) -/

/-- The timebase of a synthesised boundary, before it takes its step. -/
def Timebase.synthesising (time : Tick) (x : Timebase) : Timebase :=
  { x.holdoverUntil (time + synthesisTicks) with consecutive := 0 }

/-- The closes that fall at the boundary after the present block (R92). -/
def nextCloses (s : State) (k : BlockNo) : Nat :=
  (counterDiff (s.timebase.blockNumber + 1) k - (s.assembler.closeDelay : Int)).toNat

/-- What the Block Assembler does at a boundary: the next block to close, the tables, and the proceeding (R73, R92, R131). -/
theorem takeBoundary_closes (kind : BoundaryKind) (m : MarkNo) (time : Tick) (s : State) :
    (s.assembler.next = none → (takeBoundary kind m time s).assembler.next = some (s.timebase.blockNumber + 1)) ∧
    (∀ k, s.assembler.next = some k →
      (takeBoundary kind m time s).assembler.next = some (k + BitVec.ofNat 32 (nextCloses s k)) ∧
      (0 < nextCloses s k → s.tables.staged = true →
        (takeBoundary kind m time s).tables = s.tables.applied ∧
          flagSet (takeBoundary kind m time s) .tableApplied = true) ∧
      (nextCloses s k = 0 → (takeBoundary kind m time s).tables = s.tables)) ∧
    ((s.tables.staged = false ∨ s.assembler.next = none) → (takeBoundary kind m time s).tables = s.tables) ∧
    (s.proceeding.state = .armed → (takeBoundary kind m time s).proceeding =
        { s.proceeding with state := .opened, first := some (s.timebase.blockNumber + 1) } ∧
      flagSet (takeBoundary kind m time s) .proceedingState = true) := by
  have before := beforeCloses_leaves kind (s.timebase.blockNumber + 1)
    { s with timebase := s.timebase.step kind m time }
  have opened := beforeCloses_armed (s := { s with timebase := s.timebase.step kind m time }) kind
    (s.timebase.blockNumber + 1)
  have taken : takeBoundary kind m time s = closeAtBoundary (s.timebase.blockNumber + 1)
    (beforeCloses kind (s.timebase.blockNumber + 1) { s with timebase := s.timebase.step kind m time }) := rfl
  rw [taken]
  generalize beforeCloses kind (s.timebase.blockNumber + 1) { s with timebase := s.timebase.step kind m time } = b
    at before opened
  have next : b.assembler.next = s.assembler.next := before.next (by simp)
  have tables : b.tables = s.tables := before.tables (by simp)
  have delay : b.assembler.closeDelay = s.assembler.closeDelay := before.closeDelay
  refine ⟨fun first => ?_, fun k hk => ?_, fun unstaged => ?_, fun armed => ?_⟩
  · rw [closeAtBoundary_first _ (next.trans first)]
  · have closes : closeAtBoundary (s.timebase.blockNumber + 1) b = closePoints (nextCloses s k) b := by
      rw [closeAtBoundary_later _ k (next.trans hk), delay]
      rfl
    rw [closes]
    refine ⟨closePoints_next _ k (next.trans hk), fun some_due staged => ?_, fun none_due => ?_⟩
    · obtain ⟨n, hn⟩ := Nat.exists_eq_succ_of_ne_zero some_due.ne'
      rw [hn, ← tables]
      exact closePoints_tables n k (next.trans hk) (by rw [tables]; exact staged)
    · rw [none_due]
      exact tables
  · rcases unstaged with unstaged | first
    · rw [closeAtBoundary_unstaged _ (by rw [tables]; exact unstaged), tables]
    · rw [closeAtBoundary_first _ (next.trans first)]
      exact tables
  · obtain ⟨proceeding, flag⟩ := opened armed
    refine ⟨?_, (closeAtBoundary_leaves _ b).flags _ flag⟩
    rw [closeAtBoundary_proceeding _ (by simp [proceeding]), proceeding]

theorem Leaves.after_settle {c : List Aspect} {s t : State} (h : Leaves c s t) : Leaves c s (settle t) := by
  obtain ⟨p, o, w, e⟩ := settle_spec t
  rw [e]
  exact h.congr rfl

/-- A timer's expiry makes the synthesised boundary at its instant; the guard's raises TIMEBASE_HOLDOVER (R7, R8). -/
theorem exec_timer {g : Tick} {c : Instr}
    (h : c = .guardExpiry ∧ s.timebase.state = .locked ∧ s.timebase.guardTimer = some g ∨
      c = .synthesisTimerExpiry ∧ s.timebase.state = .holdover ∧ s.timebase.synthesisTimer = some g) :
    ∃ t, exec c s = .next t ∧ Leaves [] (synthesise g s) t ∧
      (c = .guardExpiry → flagSet t .timebaseHoldover = true) := by
  rcases h with ⟨rfl, locked, timer⟩ | ⟨rfl, holdover, timer⟩
  · have expired : expireGuard s = raise .timebaseHoldover (synthesise g s) := by
      unfold expireGuard
      rw [locked, timer]
    refine ⟨settle (expireGuard s), rfl, ?_, fun _ => ?_⟩ <;> rw [expired]
    · exact (Leaves.refl [] _).after_raise.after_settle
    · rw [settle_flagSet]
      exact raise_sets _ _
  · have expired : expireSynthesis s = synthesise g s := by
      unfold expireSynthesis
      rw [holdover, timer]
    exact ⟨settle (expireSynthesis s), rfl, by rw [expired]; exact (Leaves.refl [] _).after_settle, fun e => by cases e⟩

/-- Settles O24: the synthesised boundary of either timer, with what the Block Assembler does at it. -/
theorem timersSynthesiseBoundaries : Obligations.TimersSynthesiseBoundaries := by
  intro s g c timer
  obtain ⟨t, ran, left, flag⟩ := exec_timer timer
  have boundary := takeBoundary_leaves .synthesised s.timebase.expected g
    { s with timebase := s.timebase.synthesising g }
  obtain ⟨first, later, kept, opened⟩ := takeBoundary_closes .synthesised s.timebase.expected g
    { s with timebase := s.timebase.synthesising g }
  have synthesised : synthesise g s = takeBoundary .synthesised s.timebase.expected g
    { s with timebase := s.timebase.synthesising g } := rfl
  rw [← synthesised] at boundary first later kept opened
  have timebase := (left.recordTime (by simp)).1
  have tables := left.tables (by simp)
  have next := left.next (by simp)
  have proceeding := left.proceeding (by simp)
  refine ⟨t, ran, ?_, ?_, ?_, ?_, fun guard => ⟨?_, flag guard⟩, fun hn => next.trans (first hn),
    fun k hk => next.trans (later k hk).1, fun k hk due staged => ?_, fun rests => ?_, fun armed => ?_,
    left.config.trans boundary.config, left.current.trans boundary.current, left.stack.trans boundary.stack⟩
  · rw [timebase, boundary.timebase]
    rfl
  · rw [timebase]
    exact boundaryTaken_step boundary.timebase
  · rw [timebase, boundary.timebase]
    rfl
  · rw [timebase, boundary.timebase]
    rfl
  · rw [timebase, boundary.timebase]
    rfl
  · obtain ⟨-, applied, -⟩ := later k hk
    obtain ⟨new, raised⟩ := applied (Int.pos_iff_toNat_pos.mp (Int.sub_pos_of_lt due)) staged
    exact ⟨left.flags _ raised, tables.trans new⟩
  · rcases rests with unstaged | none_yet | ⟨k, hk, early⟩
    · exact tables.trans (kept (.inl unstaged))
    · exact tables.trans (kept (.inr none_yet))
    · exact tables.trans ((later k hk).2.2 (Int.toNat_of_nonpos (Int.sub_nonpos_of_le early)))
  · obtain ⟨started, raised⟩ := opened armed
    exact ⟨proceeding.trans started, left.flags _ raised⟩

end Sys2Proof.Machine
end

section
/-! PROOFS. The resets and STANDBY entry that follow a REPLY (R138 to R143, R164). -/

namespace Sys2Proof.Machine

variable {s t : State}

/-! ## The end of the REPLY -/

/-- The part once the REPLY in transmission on port B has left it (R160, R162). -/
def answered (s : State) : State :=
  { s with ports := { s.ports with repliesFull := false, b := { s.ports.b with transmitting := none } } }

/-- The end of a REPLY's transmission does what the REPLY was waited for (R138, R141). -/
theorem completeTransmission_reply {x : InTransmission} {a : AfterReply} (sends : s.ports.b.transmitting = some x)
    (waits : x.origin = .reply a) : completeTransmission .B s = afterReply a (answered s) := by
  unfold completeTransmission
  rw [show (s.port .B).transmitting = some x from sends]
  simp only [waits, afterTransmission]
  rfl

theorem replySent_eq {x : InTransmission} {a : AfterReply} (sends : s.ports.b.transmitting = some x)
    (waits : x.origin = .reply a) : replySent a s = settle (afterReply a (answered s)) := by
  unfold replySent replyInTransmission
  rw [sends, completeTransmission_reply sends waits]
  simp [waits]

theorem exec_frameTransmitted_reply {x : InTransmission} {a : AfterReply} (sends : s.ports.b.transmitting = some x)
    (waits : x.origin = .reply a) : exec (.frameTransmitted .B) s = .next (settle (afterReply a (answered s))) := by
  rw [← completeTransmission_reply sends waits]
  rfl

/-! ## The soft resets (R141, R142) -/

/-- The blocks that the end of a command looks at, as a soft reset leaves them before its start notice. -/
structure Restarting (t : State) (up upB : Bool) : Prop where
  ports : t.ports = Ports.resetWith up upB
  management : t.management = State.reset.management
  sending : t.output.sending = none
  openS : t.output.openS.fifo = []
  sealedS : t.output.sealedS.fifo = []
  engine : t.engine = State.reset.engine
  proceeding : t.proceeding = State.reset.proceeding

/-- Nothing waits anywhere in a part that restarts but for its start notice. -/
theorem Restarting.settled {up upB : Bool} (h : Restarting t up upB) : t.Settled := by
  obtain ⟨ports, -, sending, openS, sealedS, engine, -⟩ := h
  have eligible (x : StreamState) (empty : x.fifo = []) : x.eligible = false := by
    unfold StreamState.eligible
    rw [empty]
    rfl
  have monitor (p : Port) : monitorFor t p = none := by
    unfold monitorFor
    rw [engine]
    rfl
  have offered : offeredFrame t = none := by
    unfold offeredFrame
    rw [sending]
  refine ⟨fun _ => ⟨eligible _ openS, eligible _ sealedS⟩, fun _ => ?_, fun _ => ?_⟩ <;> rw [ports]
  · exact ⟨rfl, monitor .A, rfl⟩
  · exact ⟨rfl, monitor .B, offered, rfl⟩

/-- The start notice shows RESET_DONE alone (R142, R185). -/
theorem Restarting.notice {up upB : Bool} (h : Restarting t up upB) :
    ownFrame t t.config.controller kindNotice (noticePayload t) =
      startNoticeFrame t.config (BitVec.ofNat 8 t.part.resetCause.code) t.timebase.blockNumber := by
  unfold noticePayload
  rw [h.management, h.proceeding]
  rfl

/-- The start notice goes out at once when link B is UP, and waits otherwise (R142, R160). -/
theorem Restarting.settle_startNotice {up upB : Bool} (h : Restarting t up upB) : settle (startNotice t) =
    { t with management := { State.reset.management with holdoff := decide (t.config.controller ≠ 0) }
             ports := restartedPorts t
               (startNoticeFrame t.config (BitVec.ofNat 8 t.part.resetCause.code) t.timebase.blockNumber) } := by
  have settled := h.settled
  have notice := h.notice
  obtain ⟨ports, management, -, -, -, -, -⟩ := h
  generalize startNoticeFrame t.config (BitVec.ofNat 8 t.part.resetCause.code) t.timebase.blockNumber = f at notice
  unfold startNotice
  by_cases silent : t.config.controller = 0
  · have same : restartedPorts t f = t.ports := by
      unfold restartedPorts
      simp only [silent, ports]
      rfl
    have stopped : { State.reset.management with holdoff := decide (t.config.controller ≠ 0) } = t.management := by
      rw [decide_eq_false (not_not.mpr silent)]
      exact management.symm
    rw [if_pos silent, settle_of_settled t settled, same, stopped]
  · have built : buildNotice t =
        { t with management := { State.reset.management with holdoff := true }
                 ports := { t.ports with management := [{ notice := true, after := .nothing, frame := f }] } } := by
      unfold buildNotice queueNotice
      rw [notice, ports, management]
      rfl
    have sender : runSender (buildNotice t) = buildNotice t := by
      rw [built]
      exact runSender_settled _ settled.1
    have portA : arbiterA (buildNotice t) = buildNotice t := by
      rw [built]
      exact arbiterA_settled _ settled.2.1
    rw [if_neg silent]
    unfold settle
    rw [sender, portA, built]
    unfold arbiterB portReady State.port restartedPorts
    rw [ports, decide_eq_true silent]
    cases upB <;> rfl

/-- A part that a FULL reset restarts: all but the Device Configuration, from which D is loaded (R91, R141). -/
def fullRestart (s : State) : State :=
  { hardReset .softFull s with
    config := s.config, assembler := { State.reset.assembler with closeDelay := s.config.closeDelay } }

theorem fullReset_answered (s : State) : fullReset (answered s) = startNotice (fullRestart s) := rfl

theorem fullRestart_restarting (s : State) :
    Restarting (fullRestart s) s.ports.a.linkUp s.ports.b.linkUp := ⟨rfl, rfl, rfl, rfl, rfl, rfl, rfl⟩

/-- A part that a RUNTIME reset restarts, with what it keeps (R4, R16, R41, R74, R78, R141). -/
def runtimeRestart (s : State) : State :=
  { hardReset .softRuntime s with
    config := s.config
    timebase := { State.reset.timebase with blockNumber := s.timebase.blockNumber }
    stations := Vector.ofFn fun i => Station.restart (s.entry i)
    tables := { s.tables with shadow := s.tables.active, staged := false, written := Vector.replicate 16 false }
    tally := { State.reset.tally with override := s.tally.override }
    assembler := { State.reset.assembler with closeDelay := s.config.closeDelay }
    output := { State.reset.output with openS := StreamState.resetWith s.output.openS.entry,
                                        sealedS := StreamState.resetWith s.output.sealedS.entry } }

theorem runtimeReset_answered (s : State) : runtimeReset (answered s) = startNotice (runtimeRestart s) := rfl

theorem runtimeRestart_restarting (s : State) :
    Restarting (runtimeRestart s) s.ports.a.linkUp s.ports.b.linkUp := ⟨rfl, rfl, rfl, rfl, rfl, rfl, rfl⟩

/-- Settles O14: either soft reset leaves a part in which only the start notice moves. -/
theorem softResetsStartAfresh : Obligations.SoftResetsStartAfresh := by
  intro s x sends
  refine ⟨fun waits => ?_, fun waits => ?_⟩
  · refine ⟨_, congrArg Host.Outcome.next (replySent_eq sends waits), exec_frameTransmitted_reply sends waits, ?_⟩
    unfold afterReply
    simp only [fullReset_answered, (fullRestart_restarting s).settle_startNotice]
    exact ⟨rfl, rfl, rfl, rfl, rfl, rfl, rfl, rfl, rfl, rfl, rfl, rfl, rfl, rfl, rfl⟩
  · refine ⟨_, congrArg Host.Outcome.next (replySent_eq sends waits), exec_frameTransmitted_reply sends waits, ?_⟩
    unfold afterReply
    simp only [runtimeReset_answered, (runtimeRestart_restarting s).settle_startNotice]
    refine ⟨rfl, rfl, rfl, fun i => ?_, rfl, rfl, rfl, rfl, rfl, rfl, rfl, rfl, rfl, rfl, rfl, rfl, rfl, rfl⟩
    unfold runtimeRestart
    simp only [Fin.getElem_fin, Vector.getElem_ofFn]
    rfl

end Sys2Proof.Machine
end

section
/-! PROOFS. What the end of a command takes while port B is free, and STANDBY entry (R139, R140, R160 to R162). -/

namespace Sys2Proof.Machine

variable {s t : State}

/-! ## What an arbiter leaves alone -/

/-- With an idle engine no port has a monitor frame to take (R146, R161). -/
theorem monitorFor_idle (idle : s.engine.state = .idle) (p : Port) : monitorFor s p = none := by
  unfold monitorFor
  rw [idle]

theorem arbiterA_ports (h : portReady s .A = true → monitorFor s .A = none) : ∃ p, arbiterA s = { s with ports := p } := by
  unfold arbiterA
  split
  · next ready =>
    unfold selectA
    split
    · exact ⟨_, rfl⟩
    · rw [h ready]
      split
      · next taken => cases taken
      · exact ⟨_, rfl⟩
      · exact ⟨_, rfl⟩
  · exact ⟨_, rfl⟩

/-- The end of a command leaves an idle engine alone. -/
theorem settle_engine_idle (idle : s.engine.state = .idle) : (settle s).engine = s.engine := by
  obtain ⟨o, sender⟩ := runSender_spec s
  obtain ⟨p, portA⟩ := arbiterA_ports (s := runSender s)
    fun _ => monitorFor_idle (by rw [sender]; exact idle) .A
  obtain ⟨q, portB⟩ := arbiterB_ports (s := arbiterA (runSender s))
    fun _ => monitorFor_idle (by rw [portA, sender]; exact idle) .B
  unfold settle
  rw [portB, portA, sender]

/-- The parts of the Port Interface that no arbiter writes: the forwarding queues, which a frame leaves when its transmission ends,
and the drop counts (R159, R160). -/
structure Forwards (x y : Ports) : Prop where
  forwardAB : y.forwardAB = x.forwardAB
  forwardBA : y.forwardBA = x.forwardBA
  dropAB : y.dropAB = x.dropAB
  dropBA : y.dropBA = x.dropBA
  replyDrop : y.replyDrop = x.replyDrop

theorem Forwards.same (x : Ports) : Forwards x x := ⟨rfl, rfl, rfl, rfl, rfl⟩

theorem Forwards.trans {x y z : Ports} (h : Forwards x y) (k : Forwards y z) : Forwards x z :=
  ⟨k.forwardAB.trans h.forwardAB, k.forwardBA.trans h.forwardBA, k.dropAB.trans h.dropAB, k.dropBA.trans h.dropBA,
    k.replyDrop.trans h.replyDrop⟩

theorem arbiterA_forwards (s : State) : Forwards s.ports (arbiterA s).ports := by
  unfold arbiterA
  split
  · unfold selectA
    split
    · exact ⟨rfl, rfl, rfl, rfl, rfl⟩
    · split <;> exact ⟨rfl, rfl, rfl, rfl, rfl⟩
  · exact .same _

theorem arbiterB_forwards (s : State) : Forwards s.ports (arbiterB s).ports := by
  unfold arbiterB
  split
  · unfold selectB
    split
    · exact ⟨rfl, rfl, rfl, rfl, rfl⟩
    · split
      · exact ⟨rfl, rfl, rfl, rfl, rfl⟩
      · unfold selectClass3
        split
        · split <;> exact ⟨rfl, rfl, rfl, rfl, rfl⟩
        all_goals exact ⟨rfl, rfl, rfl, rfl, rfl⟩
  · exact .same _

theorem settle_forwards (s : State) : Forwards s.ports (settle s).ports := by
  have sender : (runSender s).ports = s.ports := by
    obtain ⟨o, h⟩ := runSender_spec s
    rw [h]
  have portA := arbiterA_forwards (runSender s)
  rw [sender] at portA
  exact portA.trans (arbiterB_forwards _)

/-! ## A free port B -/

/-- What port B takes when it has just become free (R160, R162). -/
structure TakesNext (s t : State) : Prop where
  frame : t = { s with
    ports := { s.ports with
      management := if s.ports.b.linkUp then s.ports.management.drop 1 else s.ports.management
      turn := t.ports.turn
      b := { s.ports.b with transmitting := t.ports.b.transmitting } }
    engine := { s.engine with waiting := t.engine.waiting } }
  engine : s.engine.state = .idle → t.engine = s.engine
  down : s.ports.b.linkUp = false → t.ports.b.transmitting = none ∧ t.ports.turn = s.ports.turn
  reply : ∀ m l, s.ports.b.linkUp = true → s.ports.management = m :: l →
    t.ports.turn = s.ports.turn ∧ t.ports.b.transmitting = some { origin := m.origin, frame := m.frame }

/-- With no reply and no notice waiting, port B takes a frame of the other classes or none (R162). -/
theorem TakesNext.of_empty (up : s.ports.b.linkUp = true) (empty : s.ports.management = [])
    (frame : t = { s with
      ports := { s.ports with turn := t.ports.turn, b := { s.ports.b with transmitting := t.ports.b.transmitting } }
      engine := { s.engine with waiting := t.engine.waiting } })
    (engine : s.engine.state = .idle → t.engine = s.engine) : TakesNext s t := by
  refine ⟨?_, engine, fun down => ?_, fun m l _ waits => ?_⟩
  · rw [if_pos up, empty, List.drop_nil, ← empty]
    exact frame
  · rw [up] at down
    cases down
  · rw [empty] at waits
    cases waits

theorem selectClass3_takesNext (up : s.ports.b.linkUp = true) (empty : s.ports.management = []) :
    TakesNext s (selectClass3 s) := by
  obtain ⟨p, alone⟩ := selectClass3_spec s
  refine .of_empty up empty ?_ fun _ => by rw [alone]
  unfold selectClass3
  split
  · split <;> rfl
  all_goals rfl

theorem selectB_takesNext (up : s.ports.b.linkUp = true) : TakesNext s (selectB s) := by
  unfold selectB
  split
  · next m l waits =>
    refine ⟨?_, fun _ => rfl, fun down => ?_, fun n k _ same => ?_⟩
    · rw [if_pos up, waits]
      rfl
    · rw [up] at down
      cases down
    · rw [waits] at same
      cases same
      exact ⟨rfl, rfl⟩
  · next empty =>
    split
    · next f monitor =>
      refine .of_empty up empty rfl fun idle => ?_
      rw [monitorFor_idle idle] at monitor
      cases monitor
    · exact selectClass3_takesNext up empty

theorem arbiterB_takesNext (free : s.ports.b.transmitting = none) : TakesNext s (arbiterB s) := by
  unfold arbiterB portReady State.port
  cases up : s.ports.b.linkUp with
  | true =>
    simp only [free, Option.isNone_none, Bool.and_self, if_true]
    exact selectB_takesNext up
  | false =>
    simp only [Bool.false_and, Bool.false_eq_true, if_false]
    refine ⟨by rw [if_neg (by simp [up])], fun _ => rfl, fun _ => ⟨free, rfl⟩, fun _ _ h => ?_⟩
    rw [up] at h
    cases h

/-! ## STANDBY entry (R139, R140) -/

theorem parkFields_station (i : Fin 16) (s : State) :
    (parkFields s).stations[i] = s.stations[i].park (s.entry i) := by
  simp only [parkFields, Fin.getElem_fin, Vector.getElem_ofFn]

theorem parkFields_group (g : Fin 8) (s : State) : (parkFields s).groups[g] = s.groups[g].park :=
  getElem_mapTable ConferGroup.park s.groups g

/-- Parking the blocks leaves neither the sender nor port A anything to take. -/
theorem settle_parkFields (h : s.Settled) : settle (parkFields (answered s)) = arbiterB (parkFields (answered s)) := by
  obtain ⟨sender, portA, -⟩ := h
  unfold settle
  rw [runSender_settled (parkFields (answered s)) sender, arbiterA_settled (parkFields (answered s)) portA]

theorem enterStandby_alone (alone : s.management.requests = []) :
    enterStandby (answered s) = parkFields (answered s) := by
  unfold enterStandby
  exact if_pos (by rw [show (parkFields (answered s)).management.requests = [] from alone]; rfl)

theorem enterStandby_queued (queued : s.management.requests ≠ []) :
    enterStandby (answered s) = wake (.frame kindRequest) (parkFields (answered s)) := by
  unfold enterStandby
  exact if_neg (by rw [List.isEmpty_iff]; exact queued)

/-- A wake leaves the forwarding queues alone. -/
theorem wake_forwards (c : WakeCause) (s : State) : Forwards s.ports (wake c s).ports := by
  unfold wake
  generalize hu : ({ s with part := _, timebase := _ } : State) = u
  have same : u.ports = s.ports := by rw [← hu]
  obtain ⟨l, q, d, lamps⟩ := recomputeLamps_spec u
  rw [← same]
  constructor <;> simp [lamps]

theorem exec_standbyEntry {x : InTransmission} (sends : s.ports.b.transmitting = some x)
    (waits : x.origin = .reply .enterStandby) :
    exec .standbyEntry s = .next (settle (enterStandby (answered s))) := by
  rw [show exec .standbyEntry s = .next (replySent .enterStandby s) from rfl, replySent_eq sends waits, afterReply]

/-- Settles O15: the end of the command takes what port B now may; a queued request wakes the part instead. -/
theorem standbyEntryParks : Obligations.StandbyEntryParks := by
  intro s x settled sends waits
  have entry : exec .standbyEntry s = .next (settle (enterStandby (answered s))) :=
    exec_standbyEntry sends waits
  have sent : exec (.frameTransmitted .B) s = .next (settle (enterStandby (answered s))) := by
    rw [exec_frameTransmitted_reply sends waits, afterReply]
  refine ⟨fun alone => ⟨_, entry, sent, ?_⟩, fun queued => ⟨_, entry, sent, ?_⟩⟩
  · rw [enterStandby_alone alone, settle_parkFields settled]
    obtain ⟨frame, engine, down, reply⟩ := arbiterB_takesNext (s := parkFields (answered s)) rfl
    generalize arbiterB (parkFields (answered s)) = t at frame engine down reply
    have ports : t.ports = { s.ports with
        management := if s.ports.b.linkUp then s.ports.management.drop 1 else s.ports.management
        repliesFull := false
        turn := t.ports.turn
        b := { s.ports.b with transmitting := t.ports.b.transmitting } } := by
      rw [frame]
      rfl
    refine ⟨by rw [frame]; rfl, by rw [frame]; rfl, fun i => ?_, fun g => ?_, by rw [frame]; rfl, by rw [frame]; rfl,
      by rw [frame]; rfl, by rw [frame]; rfl, by rw [frame]; rfl, engine, ports, down, reply⟩
    · rw [frame]
      exact parkFields_station i (answered s)
    · rw [frame]
      exact parkFields_group g (answered s)
  · rw [enterStandby_queued queued]
    obtain ⟨forwardAB, forwardBA, dropAB, dropBA, replyDrop⟩ :=
      (wake_forwards (.frame kindRequest) (parkFields (answered s))).trans (settle_forwards _)
    refine ⟨?_, ?_, ?_, ?_, ?_, ?_, ?_, ?_, fun idle => ?_, forwardBA, forwardAB, dropAB, dropBA, replyDrop⟩
    · simp [wake, parkFields, answered, kindRequest]
    · simp [wake]
    · simp [wake, parkFields, answered]
    · simp [wake]
    · simp [wake]
    · simp [wake, parkFields, answered]
    · simp [wake, parkFields, answered]
    · simp [wake, parkFields, answered]
    · have kept : (wake (.frame kindRequest) (parkFields (answered s))).engine = s.engine := by
        simp [wake, parkFields, answered]
      rw [settle_engine_idle (by rw [kept]; exact idle), kept]

end Sys2Proof.Machine
end

section
/-! PROOFS. A REPLY that is built while more than it may wait, and the entry into ARMED (R114, R130, R152, R162). -/

namespace Sys2Proof.Machine

variable {s t u : State}

/-! ## A REPLY among what the command put out -/

/-- A REPLY that waits for port B goes out or waits on (R162). -/
theorem arbiterB_replied {a : AfterReply} {f : Frame}
    (waits : ({ notice := false, after := a, frame := f } : ManagementFrame) ∈ t.ports.management) :
    Replied a f (arbiterB t) := by
  unfold arbiterB
  split
  · unfold selectB
    split
    · next m rest queue =>
      rw [queue] at waits
      rcases List.mem_cons.mp waits with rfl | later
      · exact .inl rfl
      · exact .inr later
    · next empty =>
      rw [empty] at waits
      cases waits
  · exact .inr waits

/-- With a frame in the management transmit queue port B takes no other (R162). -/
theorem arbiterB_management (waits : t.ports.management ≠ []) : ∃ p, arbiterB t = { t with ports := p } := by
  unfold arbiterB
  split
  · unfold selectB
    split
    · exact ⟨_, rfl⟩
    · next empty => exact absurd empty waits
  · exact ⟨_, rfl⟩

/-- Port A's arbiter does not look at the management transmit queue (R161). -/
theorem arbiterA_management (s : State) : (arbiterA s).ports.management = s.ports.management := by
  unfold arbiterA
  split
  · unfold selectA
    split
    · rfl
    · split <;> rfl
  · rfl

/-- The end of a request's service while the sender has nothing to take: the REPLY is on its way, and of the blocks only the ports and
the engine's monitor frame may change, which no port takes but port A. -/
theorem settle_queueReply_spec (a : AfterReply) (f : Frame) (u : State)
    (sender : u.output.sending = none → u.output.openS.eligible = false ∧ u.output.sealedS.eligible = false) :
    Replied a f (settle (queueReply a f u)) ∧
    ∃ p w, settle (queueReply a f u) = { u with ports := p, engine := { u.engine with waiting := w } } ∧
      ((portReady u .A = true → monitorFor u .A = none) → w = u.engine.waiting) := by
  have sent : runSender (queueReply a f u) = queueReply a f u := runSender_settled _ sender
  have queue : (arbiterA (queueReply a f u)).ports.management =
      u.ports.management ++ [{ notice := false, after := a, frame := f }] := arbiterA_management _
  obtain ⟨q, w, portA⟩ := arbiterA_spec (queueReply a f u)
  obtain ⟨p, portB⟩ := arbiterB_management (t := arbiterA (queueReply a f u)) (by rw [queue]; simp)
  unfold settle
  rw [sent]
  refine ⟨arbiterB_replied (by rw [queue]; simp), p, w, by rw [portB, portA]; rfl, fun quiet => ?_⟩
  obtain ⟨q', idle⟩ := arbiterA_ports (s := queueReply a f u) quiet
  have engines := congrArg State.engine (portA.symm.trans idle)
  exact congrArg Engine.waiting engines

/-! ## The end of a test and the stations' counts (R35, R59, R151) -/

/-- The counts of a station that the entry into ARMED sets to 0 (R35, R59). -/
def Station.counts (x : Station) : List Nat :=
  [x.jitterCount, x.lateCount, x.formatCount, x.evictCount, x.tracker.reanchor]

theorem modStation_counts (i k : Fin 16) (f : Station → Station) (s : State) (uncounted : ∀ x, (f x).counts = x.counts) :
    (modStation i f s).stations[k].counts = s.stations[k].counts := by
  by_cases same : k = i
  · subst same
    rw [modStation_station_self, uncounted]
  · rw [modStation_station_other _ _ _ _ same]

/-- What the end of a test may change: the stations but for their counts, the engine, the ports and the Management Unit (R151). -/
structure EndsTest (s t : State) : Prop where
  frame : t = { s with stations := t.stations, engine := t.engine, ports := t.ports, management := t.management }
  counts : ∀ k : Fin 16, t.stations[k].counts = s.stations[k].counts

theorem EndsTest.refl (s : State) : EndsTest s s := ⟨rfl, fun _ => rfl⟩

theorem EndsTest.trans (h : EndsTest s t) (k : EndsTest t u) : EndsTest s u :=
  ⟨by rw [k.frame, h.frame], fun i => (k.counts i).trans (h.counts i)⟩

theorem EndsTest.after_raise (h : EndsTest s t) {f : EventFlag} : EndsTest s (raise f t) := by
  obtain ⟨q, a, p, e⟩ := raise_spec f t
  exact h.trans ⟨by rw [e], fun i => by rw [e]⟩

theorem EndsTest.after_sendTestCommand (h : EndsTest s t) {m : Mac} {b : Bool} {d : Nat} :
    EndsTest s (sendTestCommand m b d t) := by
  obtain ⟨q, d, e, -⟩ := queueTestCommand_spec (ownFrame t m kindTestCommand (testCommandPayload b d)) t
  exact h.trans ⟨by unfold sendTestCommand; rw [e], fun i => by unfold sendTestCommand; rw [e]⟩

theorem EndsTest.after_modStation (h : EndsTest s t) {i : Fin 16} {f : Station → Station}
    (uncounted : ∀ x, (f x).counts = x.counts) : EndsTest s (modStation i f t) :=
  h.trans ⟨rfl, fun k => modStation_counts i k f t uncounted⟩

/-- Entry into ACQUIRE counts nothing (R23). -/
theorem EndsTest.after_enterAcquire (h : EndsTest s t) {i : Fin 16} : EndsTest s (enterAcquire i t) := by
  have idle := h.after_modStation (i := i) (f := fun st =>
    { st with releasePoint := none, evictedBelow := none, tracker := st.tracker.toAcquisition }) fun _ => rfl
  unfold enterAcquire
  rcases setStationState_spec i .acquire (modStation i (fun st =>
    { st with releasePoint := none, evictedBelow := none, tracker := st.tracker.toAcquisition }) t) with same | moved
  · rw [same]
    exact idle
  · rw [moved]
    exact (idle.after_modStation (f := fun st => { st with state := .acquire }) fun _ => rfl).after_raise

theorem EndsTest.after_engine (h : EndsTest s t) {e : Engine} : EndsTest s { t with engine := e } :=
  h.trans ⟨rfl, fun _ => rfl⟩

theorem endTest_ends (r : TestResult) (s : State) : EndsTest s (endTest r s) := by
  have told {m : Mac} : EndsTest s (sendTestCommand m false 0 s) := (EndsTest.refl s).after_sendTestCommand
  unfold endTest
  split
  · refine (EndsTest.after_raise (EndsTest.after_engine ?_)).after_engine
    split
    · exact told.after_enterAcquire
    · exact told
  · exact .refl s
  · exact .refl s

/-- The permission of a line test re-examined: at most the test ends (R152). -/
theorem reexamineTest_ends (s : State) : EndsTest s (reexamineTest s) := by
  unfold reexamineTest
  split
  · split
    · exact endTest_ends _ s
    · exact .refl s
  · exact .refl s
  · exact .refl s

theorem reexamineTest_untested (h : ∀ x, s.engine.state ≠ .test x) : reexamineTest s = s := by
  unfold reexamineTest
  split
  · next x test => exact absurd test (h x)
  · rfl
  · rfl

/-! ## The entry into ARMED (R130) -/

theorem opensProceeding_iff (s : State) : opensProceeding s = true ↔ s.proceeding.state = .idle ∧
    s.timebase.state ≠ .search ∧ (s.output.openS.entry.enabled = true ∨ s.output.sealedS.entry.enabled = true) := by
  simp [opensProceeding, State.producing, and_assoc]

/-- OPEN_PROCEEDING refused (R130). -/
theorem answerOpen_refused (p : List Byte) (h : s.proceeding.state ≠ .idle ∨ s.timebase.state = .search ∨
    (s.output.openS.entry.enabled = false ∧ s.output.sealedS.entry.enabled = false)) :
    answerOpen p s = refuse .state s := by
  unfold answerOpen
  refine if_neg fun opens => ?_
  obtain ⟨idle, locked, enabled⟩ := (opensProceeding_iff s).mp opens
  rcases h with running | search | disabled
  · exact running idle
  · exact locked search
  · rcases enabled with e | e
    · rw [disabled.1] at e
      cases e
    · rw [disabled.2] at e
      cases e

/-- The entry into ARMED writes its fields, and may end a line test (R130, R152). -/
theorem enterArmed_ends (id : BitVec 64) (s : State) : EndsTest (armFields id s) (enterArmed id s) :=
  (EndsTest.refl _).after_raise.trans (reexamineTest_ends _)

theorem enterArmed_flag (id : BitVec 64) (s : State) : flagSet (enterArmed id s) .proceedingState = true :=
  (Leaves.refl [] (raise .proceedingState (armFields id s))).after_reexamineTest.flags _ (raise_sets _ _)

/-- With no line test the entry into ARMED changes nothing but its fields and what raising the flag does. -/
theorem enterArmed_untested (id : BitVec 64) (h : ∀ x, s.engine.state ≠ .test x) :
    enterArmed id s = raise .proceedingState (armFields id s) :=
  reexamineTest_untested (by rw [raise_engine]; exact h)

theorem armFields_station (id : BitVec 64) (i : Fin 16) (s : State) :
    (armFields id s).stations[i] = s.stations[i].clearCounts :=
  getElem_mapTable Station.clearCounts s.stations i

/-- OPEN_PROCEEDING accepted: the entry into ARMED, and the REPLY with what follows it (R130, R169). -/
theorem exec_openProceeding_accepted {r : Request} {rest : List Request} (serving : Serving s .openProceeding r rest)
    (opens : opensProceeding s = true) : exec .openProceeding s =
      .next (settle (queueReply .nothing (replyTo s.config r .ok [])
        (enterArmed (BitVec.ofNat 64 (fieldAt r.payload 4 8)) (dequeued s rest)))) := by
  have answer : answerOpen r.payload (dequeued s rest) =
      accept (enterArmed (BitVec.ofNat 64 (fieldAt r.payload 4 8)) (dequeued s rest)) := if_pos opens
  have config : (enterArmed (BitVec.ofNat 64 (fieldAt r.payload 4 8)) (dequeued s rest)).config = s.config := by
    rw [(enterArmed_ends _ _).frame]
    rfl
  rw [show exec .openProceeding s = .next (serve .openProceeding answerOpen s) from rfl,
    serve_serving s _ r rest _ serving, answer, ← config]
  rfl

/-- Settles O51: the entry into ARMED with the REPLY on its way, which leaves the fields of ARMED as they were written. -/
theorem openProceedingArms : Obligations.OpenProceedingArms := by
  intro s r rest settled serving
  refine ⟨fun refused => ?_, fun idle locked enabled empty => ?_⟩
  · exact congrArg Host.Outcome.next (serve_refused settled serving (answerOpen_refused (s := dequeued s rest) _ refused))
  · rw [exec_openProceeding_accepted serving ((opensProceeding_iff s).mpr ⟨idle, locked, enabled⟩)]
    generalize BitVec.ofNat 64 (fieldAt r.payload 4 8) = id
    have ended := enterArmed_ends id (dequeued s rest)
    have flag := enterArmed_flag id (dequeued s rest)
    have untested (none_runs : ∀ x, s.engine.state ≠ .test x) :=
      enterArmed_untested (s := dequeued s rest) id none_runs
    generalize enterArmed id (dequeued s rest) = u at ended flag untested
    obtain ⟨frame, counts⟩ := ended
    have armed (st : Stream) : u.stream st = (s.stream st).arm := by
      rw [frame]
      cases st <;> rfl
    have nothing (st : Stream) : (u.stream st).eligible = false := by
      unfold StreamState.eligible
      rw [armed, show (s.stream st).arm.fifo = [] from empty st]
      rfl
    obtain ⟨replied, p, w, taken, quiet⟩ := settle_queueReply_spec .nothing (replyTo s.config r .ok []) u
      fun _ => ⟨nothing .openS, nothing .sealedS⟩
    generalize settle (queueReply .nothing (replyTo s.config r .ok []) u) = t at replied taken
    subst taken
    refine ⟨_, rfl, replied, by rw [frame]; rfl, flag, fun st on => ?_, fun i => ?_, fun none_runs => ?_, fun st off => ?_,
      by rw [frame]; rfl, by rw [frame]; rfl, by rw [frame]; rfl, by rw [frame]; rfl, by rw [frame]; rfl,
      by rw [frame]; rfl, by rw [frame]; rfl⟩
    · rw [show ({ u with ports := p, engine := { u.engine with waiting := w } } : State).stream st =
        (s.stream st).arm from armed st]
      simp [StreamState.arm, on]
    · have zero := (counts i).trans (congrArg Station.counts (armFields_station id i (dequeued s rest)))
      simpa [Station.counts, Station.clearCounts] using zero
    · have raised := untested none_runs
      have portA : portReady u .A = true → monitorFor u .A = none := fun ready => by
        have monitor : monitorFor u .A = monitorFor s .A := by
          unfold monitorFor
          rw [raised, raise_engine]
          rfl
        refine monitor.trans (settled.2.1 ?_).2.1
        rw [← ready, raised]
        unfold portReady
        rw [raise_port]
        rfl
      refine ⟨?_, fun i => ?_⟩
      · rw [quiet portA, raised, raise_engine]
        rfl
      · rw [raised, raise_stations]
        exact armFields_station id i (dequeued s rest)
    · change (u.stream st).takesPart = false
      rw [armed]
      exact off

end Sys2Proof.Machine
end

section
/-! PROOFS. The period that lapses on an empty queue, and the refresh of the tallies (R76, R151, R160, R161). -/

namespace Sys2Proof.Machine

variable {s : State}

/-! ## A period that lapses (R76, R151) -/

theorem idleTick_resting (h : s.timebase.state ≠ .search ∨ s.part.awake = false) : idleTick s = s := by
  unfold idleTick State.producing
  rcases h with producing | standby
  · simp [producing]
  · simp [standby]

theorem idleTick_search (search : s.timebase.state = .search) (awake : s.part.awake = true) :
    idleTick s = countTest (countRefresh s) := by
  simp [idleTick, State.producing, search, awake]

theorem countTest_test {x : LineTest} (h : s.engine.state = .test x) :
    countTest s = setEngine (.test { x with elapsed := satInc x.duration x.elapsed }) s := by
  unfold countTest
  rw [h]

theorem countTest_untested (h : ∀ x, s.engine.state ≠ .test x) : countTest s = s := by
  unfold countTest
  split
  · next x test => exact absurd test (h x)
  · rfl
  · rfl

/-- A period counted toward a test changes the engine alone. -/
theorem countTest_frame (s : State) : countTest s = { s with engine := (countTest s).engine } := by
  unfold countTest
  split <;> rfl

/-- Settles O2: the lapse counts the refresh in SEARCH, and then the test that runs. -/
theorem emptyQueueLapsesPeriod : Obligations.EmptyQueueLapsesPeriod := by
  intro s empty
  have ran : step s = .next (idleTick s) := by
    unfold step
    rw [empty]
  rw [ran]
  refine ⟨fun rests => by rw [idleTick_resting rests], fun search awake => ⟨_, rfl, ?_⟩⟩
  rw [idleTick_search search awake]
  refine ⟨?_, ?_, fun x test => ?_, fun untested => ?_⟩
  · rw [countTest_frame]
    rfl
  · rw [countTest_frame]
    rfl
  · rw [countTest_test (s := countRefresh s) test]
    rfl
  · rw [countTest_untested (s := countRefresh s) untested]
    rfl

/-! ## TALLY frames offered to the control queue (R161) -/

/-- The ports once TALLY frames were offered in order: the first take the places left of 64, and the others are dropped and
counted. -/
def Ports.offered (x : Ports) (l : List ControlFrame) : Ports :=
  { x with control := x.control ++ l.take (64 - x.control.length)
           tallyDrop := Nat.iterate satInc16 (l.length - (64 - x.control.length)) x.tallyDrop }

theorem Ports.offered_nil (x : Ports) : x.offered [] = x := by
  simp [Ports.offered]

/-- Frames offered after one that finds a place. -/
theorem Ports.offered_cons_room {x : Ports} (c : ControlFrame) (l : List ControlFrame) (room : x.control.length < 64) :
    x.offered (c :: l) = { x with control := x.control ++ [c] }.offered l := by
  obtain ⟨n, hn⟩ : ∃ n, 64 - x.control.length = n + 1 := ⟨63 - x.control.length, by omega⟩
  have left : 64 - (x.control.length + 1) = n := by omega
  simp [Ports.offered, hn, left]

/-- Frames offered after one that is dropped. -/
theorem Ports.offered_cons_full {x : Ports} (c : ControlFrame) (l : List ControlFrame) (full : 64 ≤ x.control.length) :
    x.offered (c :: l) = { x with tallyDrop := satInc16 x.tallyDrop }.offered l := by
  have none_left : 64 - x.control.length = 0 := Nat.sub_eq_zero_of_le full
  simp [Ports.offered, none_left]

/-- The TALLY frame of a station, as it stands in the control queue (R76). -/
def tallyFrame (s : State) (i : Fin 16) : ControlFrame :=
  { tally := true, frame := ownFrame s (s.entry i).address kindTally (tallyPayload s i) }

/-- The TALLY frames of the stations of a list that take one. -/
def tallyFrames (s : State) (l : List (Fin 16)) : List ControlFrame := (l.filter (takesTally s)).map (tallyFrame s)

theorem tallyFrames_cons (s : State) (i : Fin 16) (l : List (Fin 16)) :
    tallyFrames s (i :: l) = if takesTally s i then tallyFrame s i :: tallyFrames s l else tallyFrames s l := by
  unfold tallyFrames
  rw [List.filter_cons]
  split <;> rfl

/-- One frame to each station of a list, in order: a frame built looks at nothing that an earlier one changed (R76, R161). -/
theorem foldl_sendTally (s : State) (l : List (Fin 16)) (x : Ports) :
    l.foldl (fun t i => sendTally i t) { s with ports := x } = { s with ports := x.offered (tallyFrames s l) } := by
  induction l generalizing x with
  | nil => rw [tallyFrames, List.filter_nil, List.map_nil, Ports.offered_nil, List.foldl_nil]
  | cons i l ih =>
    have built : sendTally i { s with ports := x } =
        if takesTally s i then queueTally (tallyFrame s i).frame { s with ports := x } else { s with ports := x } := rfl
    rw [List.foldl_cons, tallyFrames_cons, built]
    split
    · by_cases room : x.control.length < 64
      · rw [queueTally_room _ _ room, ih, Ports.offered_cons_room _ _ room]
        rfl
      · rw [show queueTally (tallyFrame s i).frame { s with ports := x } =
          { s with ports := { x with tallyDrop := satInc16 x.tallyDrop } } from if_neg room, ih,
          Ports.offered_cons_full _ _ (Nat.le_of_not_lt room)]
    · exact ih x

/-- The refresh offers the frame of every station that takes one, in index order, and restarts its count (R76). -/
theorem sendRefresh_eq (s : State) : sendRefresh s =
    { s with tally := { s.tally with refresh := 0 }, ports := s.ports.offered (tallyFrames s (List.finRange 16)) } := by
  unfold sendRefresh forEach
  rw [foldl_sendTally s (List.finRange 16) s.ports]

theorem tallyFrames_length_le (s : State) : (tallyFrames s (List.finRange 16)).length ≤ 16 := by
  have kept := List.length_filter_le (takesTally s) (List.finRange 16)
  rw [List.length_finRange] at kept
  rwa [tallyFrames, List.length_map]

/-- With the control queue empty every frame of a refresh finds a place (R161). -/
theorem Ports.offered_empty {x : Ports} {l : List ControlFrame} (empty : x.control = []) (few : l.length ≤ 64) :
    x.offered l = { x with control := l } := by
  have all : l.length - 64 = 0 := Nat.sub_eq_zero_of_le few
  simp [Ports.offered, empty, all, List.take_of_length_le few]

/-! ## The refresh (R76, R160) -/

theorem exec_tallyRefresh (awake : s.part.awake = true) (due : 200 ≤ s.tally.refresh) :
    exec .tallyRefresh s = .next (settle (sendRefresh s)) := by
  have limit : refreshPeriod ≤ s.tally.refresh := due
  exact congrArg Host.Outcome.next (if_pos (by rw [awake, decide_eq_true limit]; rfl))

/-- Port A's arbiter finds only the control queue changed: a busy port takes nothing, an idle one the first frame, and the sender and
port B take nothing (R160, R161). -/
theorem settle_control {t : State} (settled : s.Settled) {n d : Nat} {q : List ControlFrame}
    (offered : t = { s with tally := { s.tally with refresh := n }, ports := { s.ports with control := q, tallyDrop := d } }) :
    settle t = if portReady s .A then
      { t with ports := { t.ports with
        control := q.drop 1
        a := { s.ports.a with transmitting := q.head?.map (fun c => { origin := .control, frame := c.frame }) } } }
      else t := by
  obtain ⟨sender, portA, portB⟩ := settled
  have sent : runSender t = t := by rw [offered]; exact runSender_settled _ sender
  have ready : portReady t .A = portReady s .A := by rw [offered]; rfl
  unfold settle
  rw [sent]
  unfold arbiterA
  rw [ready]
  split
  · next free =>
    obtain ⟨-, monitor, forwards⟩ := portA free
    have idle : s.ports.a.transmitting = none := by
      simpa [portReady, State.port] using (Bool.and_eq_true_iff.mp free).2
    cases q with
    | nil =>
      have nothing : selectA t = t := by
        have monitor : monitorFor t .A = none := by rw [offered]; exact monitor
        have forwards : t.ports.forwardBA = [] := by rw [offered]; exact forwards
        have control : t.ports.control = [] := by rw [offered]
        unfold selectA
        rw [control, monitor, forwards]
      rw [nothing, arbiterB_settled t (by rw [offered]; exact portB), offered]
      simp [← idle]
    | cons c l =>
      have taken : selectA t = { t with ports := { t.ports with
          control := l, a := { s.ports.a with transmitting := some { origin := .control, frame := c.frame } } } } := by
        rw [offered]
        rfl
      rw [taken]
      exact arbiterB_settled _ (by rw [offered]; exact portB)
  · exact arbiterB_settled t (by rw [offered]; exact portB)

/-- Settles O26: the refresh offers its frames, and an idle port A finds the control queue empty and takes the first of them. -/
theorem refreshSendsTallies : Obligations.RefreshSendsTallies := by
  intro s settled awake due frames room sent
  have same : tallyFrames s (List.finRange 16) = frames := rfl
  have few : frames.length ≤ 64 := le_trans (tallyFrames_length_le s) (by decide)
  have refreshed := sendRefresh_eq s
  rw [same] at refreshed
  refine ⟨fun busy => ?_, fun free => ?_⟩
  · change exec .tallyRefresh s = _
    rw [exec_tallyRefresh awake due, settle_control settled refreshed, busy, refreshed]
    rfl
  · rw [Ports.offered_empty (settled.2.1 free).1 few] at refreshed
    change exec .tallyRefresh s = _
    rw [exec_tallyRefresh awake due, settle_control (d := s.ports.tallyDrop) settled refreshed, free, refreshed]
    rfl

end Sys2Proof.Machine
end

section
/-! PROOFS. The lamp of a track, and a write of the Tally Override (R75, R77, R171). -/

namespace Sys2Proof.Machine

variable {s : State}

/-! ## The lamp of a track (R75) -/

theorem groupIndex_eq_some_iff (e : TrackEntry) (g : Fin 8) : e.groupIndex = some g ↔ e.group.val = g.val + 1 := by
  have bound : e.group.val - 1 < 8 := by omega
  unfold TrackEntry.groupIndex finOf?
  rw [dif_pos bound, Option.filter_some]
  by_cases none : e.group.val = 0
  · simp [none]
  · simp only [Fin.ext_iff, bne_iff_ne, ne_eq, none, not_false_eq_true, if_true, Option.some.injEq]
    omega

theorem flashes_iff (s : State) (e : TrackEntry) : flashes s e = true ↔
    ∃ g : Fin 8, e.group.val = g.val + 1 ∧ s.groups[g].requested = true ∧
      s.tables.active.permit[e.role.column] = true := by
  simp only [← groupIndex_eq_some_iff]
  unfold flashes
  split
  · next g held => simp [held]
  · next free => simp [free]

theorem recording_iff (s : State) : s.recording = true ↔ s.proceeding.state = .opened ∨ s.proceeding.state = .draining := by
  simp [State.recording]

/-- A track not recorded has its lamp OFF (R75, cases 1 and 2). -/
theorem lampOf_dark {k : Fin 48} (h : s.recording = false ∨ s.tables.active.tracks[k].mapped = false) :
    lampOf s k = .off := by
  unfold lampOf
  split
  · rfl
  · next recording => rw [if_pos (h.resolve_left recording)]

/-- A recorded track has the lamp of its override, or that of the mode and the confer state (R75, cases 3 to 7). -/
theorem lampOf_recorded {k : Fin 48} (recording : s.recording = true) (mapped : s.tables.active.tracks[k].mapped = true) :
    lampOf s k = (s.tally.override[k]).getD (lampByMode s s.tables.active.tracks[k]) := by
  unfold lampOf
  rw [if_neg (by simp [recording]), if_neg (by rw [mapped]; simp)]
  split
  · next l named => rw [named]; rfl
  · next none => rw [none]; rfl

theorem lampByMode_withheld {e : TrackEntry}
    (withheld : dispositionIn s.tables.active s.mode.current e.role = .withheldD) : lampByMode s e = .off := by
  unfold lampByMode
  rw [withheld]

theorem lampByMode_open {e : TrackEntry} (opens : dispositionIn s.tables.active s.mode.current e.role = .openD)
    (steady : ¬ flashes s e = true) : lampByMode s e = .red := by
  unfold lampByMode
  rw [opens]
  exact if_neg steady

theorem lampByMode_sealed {e : TrackEntry} (seals : dispositionIn s.tables.active s.mode.current e.role = .sealedD)
    (steady : ¬ flashes s e = true) : lampByMode s e = .amber := by
  unfold lampByMode
  rw [seals]
  exact if_neg steady

theorem lampByMode_flash {e : TrackEntry} (flash : flashes s e = true)
    (kept : dispositionIn s.tables.active s.mode.current e.role ≠ .withheldD) : lampByMode s e = .flash := by
  unfold lampByMode
  split
  · next withheld => exact absurd withheld kept
  · exact if_pos flash
  · exact if_pos flash

/-! ## Entries of a write (R171) -/

theorem allOf_eq_some_iff {α : Type} (l : List (Option α)) (r : List α) : allOf l = some r ↔ l = r.map some := by
  induction l generalizing r with
  | nil => cases r <;> simp [allOf]
  | cons a l ih =>
    cases a with
    | none => cases r <;> simp [allOf]
    | some a => cases r <;> simp [allOf, ih, and_comm]

/-- A list of readings is refused when one of them fails (R171, step 5). -/
theorem allOf_eq_none {α : Type} {l : List (Option α)} (failed : none ∈ l) : allOf l = none := by
  cases read : allOf l with
  | none => rfl
  | some r =>
    rw [(allOf_eq_some_iff l r).mp read] at failed
    simp at failed

/-- A written range leaves the entries outside it. -/
theorem writeFrom_outside {α : Type} {n first : Nat} {l : List α} {v : Vector α n} {i : Fin n}
    (h : i.val < first ∨ first + l.length ≤ i.val) : (writeFrom first l v)[i] = v[i] := by
  induction l generalizing first v with
  | nil => rfl
  | cons a l ih =>
    rw [List.length_cons] at h
    have apart : first ≠ i.val := by omega
    rw [writeFrom, ih (by omega)]
    split
    · simp [apart]
    · rfl

/-- A written range holds the entries written, from its first index on. -/
theorem writeFrom_inside {α : Type} {n first e : Nat} {l : List α} {v : Vector α n} {i : Fin n} (at_e : i.val = first + e)
    (he : e < l.length) : (writeFrom first l v)[i] = l[e] := by
  induction l generalizing first e v with
  | nil => cases he
  | cons a l ih =>
    rw [writeFrom]
    cases e with
    | zero =>
      have here : first = i.val := by omega
      rw [writeFrom_outside (.inl (by omega)), dif_pos (by omega)]
      simp [here]
    | succ e => exact ih (by omega) (Nat.lt_of_succ_lt_succ he)

/-! ## A write of the Tally Override (R77) -/

/-- The override that a write's entry e names. -/
def overrideAt (p : List Byte) (e : Nat) : Option (Option Lamp) := overrideOf (fieldAt p (8 + e) 1)

/-- The overrides that a write names (R171, step 5). -/
def overridesOf (p : List Byte) : Option (List (Option Lamp)) :=
  readWritten (fun bs => overrideOf (fieldAt bs 0 1)) 1 (pCount p) p

theorem overridesOf_eq (p : List Byte) : overridesOf p = allOf ((List.range (pCount p)).map (overrideAt p)) := by
  have entry (e : Nat) : overrideOf (fieldAt (entrySlice p 1 e) 0 1) = overrideAt p e := by
    simp [overrideAt, entrySlice, fieldAt, List.take_take]
  unfold overridesOf readWritten
  simp only [entry]

theorem overridesOf_none {p : List Byte} {e : Nat} (he : e < pCount p) (bad : overrideAt p e = none) :
    overridesOf p = none := by
  rw [overridesOf_eq]
  exact allOf_eq_none (List.mem_map.mpr ⟨e, List.mem_range.mpr he, bad⟩)

theorem overridesOf_some {p : List Byte} (good : ∀ e, e < pCount p → (overrideAt p e).isSome = true) :
    ∃ l : List (Option Lamp), overridesOf p = some l ∧ l.length = pCount p ∧
      ∀ e (he : e < l.length), some l[e] = overrideAt p e := by
  have read : (List.range (pCount p)).map (overrideAt p) =
      ((List.range (pCount p)).map fun e => (overrideAt p e).getD none).map some := by
    rw [List.map_map]
    refine List.map_congr_left fun e he => ?_
    obtain ⟨x, hx⟩ := Option.isSome_iff_exists.mp (good e (List.mem_range.mp he))
    simp [hx]
  refine ⟨_, (overridesOf_eq p).trans ((allOf_eq_some_iff _ _).mpr read), by simp, fun e he => ?_⟩
  have listed : e < pCount p := by simpa using he
  obtain ⟨x, hx⟩ := Option.isSome_iff_exists.mp (good e listed)
  simp [hx]

/-- Overrides stored from an index on, before the lamps follow. -/
def storeOverrides (k : Nat) (l : List (Option Lamp)) (s : State) : State :=
  { s with tally := { s.tally with override := writeFrom k l s.tally.override } }

theorem rangeOk_override {p : List Byte} (some_named : 0 < pCount p) (fits : pFirst p + pCount p ≤ 48) :
    rangeOk .tallyOverride (pFirst p) (pCount p) = true := by
  simp [rangeOk, some_named, TableCode.entries, fits]

/-- A write whose range and codes are in order stores its overrides, and the lamps follow (R75, R77). -/
theorem answerWriteOverride_accepted {p : List Byte} {l : List (Option Lamp)}
    (range : rangeOk .tallyOverride (pFirst p) (pCount p) = true) (read : overridesOf p = some l) (s : State) :
    answerWriteOverride p s = accept (recomputeLamps (storeOverrides (pFirst p) l s)) := by
  unfold overridesOf at read
  unfold answerWriteOverride
  rw [if_neg (by simp [range]), read]
  rfl

/-- A write with a code out of range is refused (R171, step 5). -/
theorem answerWriteOverride_refused {p : List Byte} (range : rangeOk .tallyOverride (pFirst p) (pCount p) = true)
    (read : overridesOf p = none) (s : State) : answerWriteOverride p s = refuse .range s := by
  unfold overridesOf at read
  unfold answerWriteOverride
  rw [if_neg (by simp [range]), read]

/-- While the part is awake, recomputed lamps are those of R75. -/
theorem recomputeLamps_lamps (awake : s.part.awake = true) : (recomputeLamps s).tally.lamps = Vector.ofFn (lampOf s) := by
  unfold recomputeLamps
  rw [if_pos awake]
  dsimp only
  refine forEach_keeps 16 _ (fun t : State => t.tally.lamps = Vector.ofFn (lampOf s)) (fun i t ht => ?_) _ rfl
  split
  · obtain ⟨q, d, sent⟩ := sendTally_spec i t
    rw [sent]
    exact ht
  · exact ht

/-- A lamp does not depend on the lamps that stand, so those recomputed are the lamps of the state after, too. -/
theorem recomputeLamps_lampOf (k : Fin 48) (s : State) : lampOf (recomputeLamps s) k = lampOf s k := by
  obtain ⟨l, q, d, h⟩ := recomputeLamps_spec s
  rw [h]
  rfl

theorem recomputeLamps_override (s : State) : (recomputeLamps s).tally.override = s.tally.override := by
  obtain ⟨l, q, d, h⟩ := recomputeLamps_spec s
  rw [h]

end Sys2Proof.Machine
end

section
/-! PROOFS. A request carried out in a settled state, and a write of the Tally Override in every proceeding state (R77, R169). -/

namespace Sys2Proof.Machine

variable {s u : State}

/-- A served request is served awake (R169). -/
theorem Serving.awake {k : RequestKind} {r : Request} {rest : List Request} (h : Serving s k r rest) :
    s.part.awake = true := by
  obtain ⟨-, -, may⟩ := h
  simp only [mayServe, Bool.and_eq_true] at may
  exact may.1.1.1

/-- What a request carried out leaves for the end of its command: with the sender's part as it stood the REPLY is on its way, and of
the blocks only the ports and the engine's waiting monitor frame change; with the engine and port A as they stood that frame waits
on. -/
theorem serve_accepted_spec {k : RequestKind} {r : Request} {rest : List Request} {h : List Byte → State → Answer}
    (settled : s.Settled) (serving : Serving s k r rest) (answer : h r.payload (dequeued s rest) = accept u)
    (config : u.config = s.config)
    (sender : u.output.sending = s.output.sending ∧ ∀ st, (u.stream st).eligible = (s.stream st).eligible) :
    ∃ p w, serve k h s = { u with ports := p, engine := { u.engine with waiting := w } } ∧
      Replied .nothing (replyTo s.config r .ok []) { u with ports := p, engine := { u.engine with waiting := w } } ∧
      (u.engine = s.engine → u.ports.a = s.ports.a → w = u.engine.waiting) := by
  obtain ⟨sending, eligible⟩ := sender
  obtain ⟨replied, p, w, taken, quiet⟩ := settle_queueReply_spec .nothing (replyTo s.config r .ok []) u fun idle => by
    obtain ⟨openS, sealedS⟩ := settled.1 (sending.symm.trans idle)
    exact ⟨(eligible .openS).trans openS, (eligible .sealedS).trans sealedS⟩
  have served : serve k h s = settle (queueReply .nothing (replyTo s.config r .ok []) u) := by
    rw [serve_serving s k r rest h serving, answer, ← config]
    rfl
  refine ⟨p, w, served.trans taken, taken ▸ replied, fun engine portA => quiet fun ready => ?_⟩
  have free : portReady s .A = true := by
    rw [← ready]
    unfold portReady State.port
    rw [portA]
  have monitor : monitorFor u .A = monitorFor s .A := by
    unfold monitorFor
    rw [engine]
  exact monitor.trans (settled.2.1 free).2.1

/-- A write of overrides that is carried out: they are stored, the lamps follow at once, and nothing else changes but that the request
has been answered (R75, R77). -/
theorem serve_storeOverrides {r : Request} {rest : List Request} {h : List Byte → State → Answer} {k : RequestKind} {n : Nat}
    {l : List (Option Lamp)} (settled : s.Settled) (serving : Serving s k r rest)
    (answer : h r.payload (dequeued s rest) = accept (recomputeLamps (storeOverrides n l (dequeued s rest)))) :
    Replied .nothing (replyTo s.config r .ok []) (serve k h s) ∧
      (serve k h s).tally.override = writeFrom n l s.tally.override ∧
      (∀ i : Fin 48, (serve k h s).tally.lamps[i] = lampOf (serve k h s) i) ∧
      serve k h s = { s with
        tally := (serve k h s).tally
        management := { s.management with requests := rest }
        ports := (serve k h s).ports } := by
  have lamps := recomputeLamps_lamps (s := storeOverrides n l (dequeued s rest)) serving.awake
  have lampOf_kept (i : Fin 48) := recomputeLamps_lampOf i (storeOverrides n l (dequeued s rest))
  obtain ⟨x, q, d, frame⟩ := recomputeLamps_spec (storeOverrides n l (dequeued s rest))
  generalize recomputeLamps (storeOverrides n l (dequeued s rest)) = u at answer lamps lampOf_kept frame
  obtain ⟨p, w, served, replied, quiet⟩ := serve_accepted_spec settled serving answer (by rw [frame]; rfl)
    ⟨by rw [frame]; rfl, fun st => by rw [frame]; rfl⟩
  have waiting : w = s.engine.waiting := by
    rw [quiet (by rw [frame]; rfl) (by rw [frame]; rfl), frame]
    rfl
  rw [served]
  refine ⟨replied, by rw [frame]; rfl, fun i => Eq.trans ?_ (lampOf_kept i).symm, by rw [waiting, frame]; rfl⟩
  simp only [lamps, Fin.getElem_fin, Vector.getElem_ofFn, Fin.eta]

/-- Settles O47: the cases of a track's lamp, and the write that stores its overrides and recomputes the lamps. -/
theorem overrideWriteActsAtOnce : Obligations.OverrideWriteActsAtOnce := by
  refine ⟨fun s k => ?_, fun s r rest settled serving => ?_⟩
  · intro e d recorded
    have recording : s.recording = true ↔ recorded := recording_iff s
    refine ⟨fun dark => lampOf_dark (dark.imp_left fun h => ?_), fun h mapped => ⟨fun x named => ?_, fun free => ?_⟩⟩
    · exact Bool.eq_false_iff.mpr fun on => h (recording.mp on)
    · rw [lampOf_recorded (recording.mpr h) mapped, named]
      rfl
    · rw [lampOf_recorded (recording.mpr h) mapped, free, Option.getD_none]
      refine ⟨lampByMode_withheld, fun g kept group requested permit => ?_, fun unasked => ?_⟩
      · exact lampByMode_flash ((flashes_iff s e).mpr ⟨g, group, requested, permit⟩) kept
      · have steady : ¬ flashes s e = true := fun flash => by
          obtain ⟨g, group, requested, permit⟩ := (flashes_iff s e).mp flash
          rcases unasked g group with off | off
          · exact Bool.noConfusion (requested.symm.trans off)
          · exact Bool.noConfusion (permit.symm.trans off)
        exact ⟨fun opens => lampByMode_open opens steady, fun seals => lampByMode_sealed seals steady⟩
  · intro first count some_named fits
    have range := rangeOk_override some_named fits
    refine ⟨fun good => ?_, fun ⟨e, he, bad⟩ => ?_⟩
    · obtain ⟨l, read, length, entries⟩ := overridesOf_some (p := r.payload) good
      obtain ⟨replied, override, lamps, frame⟩ := serve_storeOverrides settled serving
        (answerWriteOverride_accepted range read (dequeued s rest))
      have named : l.length = count := length
      refine ⟨_, rfl, replied, fun k low high => ?_, fun k out => ?_, lamps, frame⟩
      · have index : k.val = first + (k.val - first) := by omega
        have listed : k.val - first < l.length := by omega
        rw [← show _ = overrideOf (fieldAt r.payload (8 + (k.val - first)) 1) from entries _ listed,
          ← writeFrom_inside (v := s.tally.override) index listed]
        exact congrArg (fun v : Vector (Option Lamp) 48 => some v[k]) override
      · refine (congrArg (fun v : Vector (Option Lamp) 48 => v[k]) override).trans (writeFrom_outside ?_)
        rw [named]
        exact out
    · exact congrArg Host.Outcome.next (serve_refused settled serving
        (answerWriteOverride_refused range (overridesOf_none he bad) (dequeued s rest)))

end Sys2Proof.Machine
end

section
/-! PROOFS. The mode requests (R64 to R68, R75, R152). -/

namespace Sys2Proof.Machine

variable {s : State}

/-! ## A mode operation taken (R66, R68, R75, R152) -/

/-- A Mode Unit's pair written, with the flags that go with it (R66, R68). -/
def writeMode (overflow : Bool) (p : ModePair) (s : State) : State :=
  let t := { s with mode := { s.mode with current := p.current, stack := p.stack } }
  let u := if p = s.modePair then t else raise .modeChanged t
  if overflow then raise .modeStackOverflow u else u

theorem applyMode_eq (overflow : Bool) (p : ModePair) (s : State) : applyMode overflow p s =
    if p.current = s.mode.current then writeMode overflow p s
    else reexamineTest (recomputeLamps (writeMode overflow p s)) := rfl

theorem raise_if_frame (b : Prop) [Decidable b] (f : EventFlag) (s : State) : ∃ q m, (if b then s else raise f s) =
    { s with ports := q, management := m } := by
  split
  · exact ⟨_, _, rfl⟩
  · obtain ⟨q, h, p, e⟩ := raise_spec f s
    exact ⟨_, _, e⟩

/-- The writing of a mode changes the mode and what its flags change. -/
theorem writeMode_frame (overflow : Bool) (p : ModePair) (s : State) : ∃ q m, writeMode overflow p s =
    { s with mode := { s.mode with current := p.current, stack := p.stack }, ports := q, management := m } := by
  obtain ⟨q, m, changed⟩ := raise_if_frame (p = s.modePair) .modeChanged
    { s with mode := { s.mode with current := p.current, stack := p.stack } }
  unfold writeMode
  simp only
  rw [changed]
  cases overflow with
  | false => exact ⟨_, _, rfl⟩
  | true =>
    obtain ⟨q', h, a, e⟩ := raise_spec .modeStackOverflow
      { s with mode := { s.mode with current := p.current, stack := p.stack }, ports := q, management := m }
    exact ⟨_, _, e⟩

/-- A changed mode or stack sets MODE_CHANGED (R68). -/
theorem writeMode_changed (overflow : Bool) {p : ModePair} (h : p ≠ s.modePair) :
    flagSet (writeMode overflow p s) .modeChanged = true := by
  unfold writeMode
  simp only
  rw [if_neg h]
  split
  · exact raise_keeps _ _ _ (raise_sets _ _)
  · exact raise_sets _ _

/-- An overflow sets MODE_STACK_OVERFLOW (R66). -/
theorem writeMode_overflow (p : ModePair) (s : State) : flagSet (writeMode true p s) .modeStackOverflow = true :=
  raise_sets _ _

/-- A flag that the writing of a mode sets stays set while the lamps and a line test follow. -/
theorem applyMode_flags {overflow : Bool} {p : ModePair} {f : EventFlag}
    (h : flagSet (writeMode overflow p s) f = true) : flagSet (applyMode overflow p s) f = true := by
  rw [applyMode_eq]
  split
  · exact h
  · exact (Leaves.refl [] _).after_recomputeLamps.after_reexamineTest.flags f h

/-- What a mode operation may change: the mode, the flags, the lamps and a line test with its station (R66, R68, R75, R152). -/
theorem applyMode_frame (overflow : Bool) (p : ModePair) (s : State) : ∃ x q m l e, applyMode overflow p s =
    { s with mode := { s.mode with current := p.current, stack := p.stack }
             stations := x, ports := q, management := m, tally := l, engine := e } := by
  obtain ⟨q, m, written⟩ := writeMode_frame overflow p s
  rw [applyMode_eq, written]
  split
  · exact ⟨_, _, _, _, _, rfl⟩
  · obtain ⟨l, c, d, lamps⟩ := recomputeLamps_spec
      { s with mode := { s.mode with current := p.current, stack := p.stack }, ports := q, management := m }
    rw [(reexamineTest_ends _).frame, lamps]
    exact ⟨_, _, _, _, _, rfl⟩

/-! ## The requests (R65 to R67) -/

/-- A request's mode operation is taken with its REPLY on the way: the mode, the flags and what stands (R65 to R68, R169). -/
structure ModeTaken (s : State) (r : Request) (overflow : Bool) (p : ModePair) (t : State) : Prop where
  mode : t.mode = { s.mode with current := p.current, stack := p.stack }
  replied : Replied .nothing (replyTo s.config r .ok []) t
  changed : p.current ≠ s.mode.current ∨ p.stack ≠ s.mode.stack → flagSet t .modeChanged = true
  overflowed : overflow = true → flagSet t .modeStackOverflow = true
  frame : t = { s with mode := t.mode, management := t.management, ports := t.ports, tally := t.tally, engine := t.engine,
                       stations := t.stations }

theorem serve_applyMode {k : RequestKind} {r : Request} {rest : List Request} {h : List Byte → State → Answer}
    {overflow : Bool} {p : ModePair} (settled : s.Settled) (serving : Serving s k r rest)
    (answer : h r.payload (dequeued s rest) = accept (applyMode overflow p (dequeued s rest))) :
    ModeTaken s r overflow p (serve k h s) := by
  obtain ⟨x, q, m, l, e, frame⟩ := applyMode_frame overflow p (dequeued s rest)
  obtain ⟨q', w, served, replied, -⟩ := serve_accepted_spec settled serving answer (by rw [frame]; rfl)
    ⟨by rw [frame]; rfl, fun st => by rw [frame]; rfl⟩
  rw [served]
  refine ⟨by rw [frame]; rfl, replied, fun differs => ?_, fun overflows => ?_, by rw [frame]; rfl⟩
  · refine applyMode_flags (s := dequeued s rest) (writeMode_changed overflow fun same => ?_)
    rcases differs with current | stack
    · exact current (congrArg ModePair.current same)
    · exact stack (congrArg ModePair.stack same)
  · subst overflows
    exact applyMode_flags (writeMode_overflow p (dequeued s rest))

theorem courtModeOf_none {n : Nat} (h : 5 ≤ n) : courtModeOf n = none := by
  obtain ⟨m, rfl⟩ := Nat.exists_eq_add_of_le' h
  rfl

/-- Settles O50: each request takes its mode operation, whose pair is that of R65 to R67, or is refused. -/
theorem modeRequests : Obligations.ModeRequests := by
  intro s r rest settled done refused
  have taken {c : Instr} {k : RequestKind} {h : List Byte → State → Answer} {overflow : Bool} {p : ModePair}
      (run : exec c s = .next (serve k h s)) (serving : Serving s k r rest)
      (overflows : 4 ≤ s.mode.stack.length → c = .pushMode → overflow = true)
      (answer : h r.payload (dequeued s rest) = accept (applyMode overflow p (dequeued s rest))) :
      done c p.current p.stack := by
    obtain ⟨mode, replied, changed, overflowed, frame⟩ := serve_applyMode settled serving answer
    exact ⟨_, run, mode, replied, changed, fun full push => overflowed (overflows full push), frame⟩
  have rejected {c : Instr} {k : RequestKind} {h : List Byte → State → Answer} {x : ResultCode}
      (run : exec c s = .next (serve k h s)) (serving : Serving s k r rest)
      (answer : h r.payload (dequeued s rest) = refuse x (dequeued s rest)) : refused c x :=
    run.trans (congrArg Host.Outcome.next (serve_refused settled serving answer))
  refine ⟨fun serving => ⟨fun m named => ?_, fun beyond => ?_⟩,
    fun serving => ⟨fun m named => ?_, fun beyond => ?_⟩, fun serving => ⟨fun m stack held => ?_, fun empty => ?_⟩⟩
  · refine taken (p := replacePair m) (overflow := false) rfl serving (fun _ push => by cases push) ?_
    unfold answerSetMode
    rw [named]
    rfl
  · refine rejected rfl serving ?_
    unfold answerSetMode
    rw [courtModeOf_none beyond]
  · have pushed := taken (p := pushPair m s.modePair) (overflow := pushOverflows s.modePair) (c := .pushMode)
      (h := answerPushMode) rfl serving
      (fun full _ => decide_eq_true full) (by unfold answerPushMode; rw [named]; rfl)
    refine ⟨fun room => ?_, fun full => ?_⟩
    · have stack : (pushPair m s.modePair).stack = s.mode.stack ++ [s.mode.current] := by
        unfold pushPair
        exact congrArg (· ++ [s.mode.current]) (if_pos room)
      rwa [stack] at pushed
    · have stack : (pushPair m s.modePair).stack = s.mode.stack.drop 1 ++ [s.mode.current] := by
        have length : s.modePair.stack.length = 4 := full
        simp only [pushPair, stackSize, length]
        rfl
      rwa [stack] at pushed
  · refine rejected rfl serving ?_
    unfold answerPushMode
    rw [courtModeOf_none beyond]
  · refine taken (p := { current := m, stack := stack }) (overflow := false) rfl serving (fun _ push => by cases push) ?_
    have popped : popPair (dequeued s rest).modePair = some { current := m, stack := stack } := by
      rw [show (dequeued s rest).modePair = { current := s.mode.current, stack := stack ++ [m] } by rw [← held]; rfl]
      simp [popPair]
    unfold answerPopMode
    rw [popped]
  · refine rejected rfl serving ?_
    have none_saved : popPair (dequeued s rest).modePair = none := by
      rw [show (dequeued s rest).modePair = { current := s.mode.current, stack := [] } by rw [← empty]; rfl]
      rfl
    unfold answerPopMode
    rw [none_saved]

end Sys2Proof.Machine
end

section
/-! PROOFS. CLOSE_PROCEEDING by proceeding state (R73, R89, R131, R132, R137). -/

namespace Sys2Proof.Machine

variable {s t : State}

/-! ## What applied tables leave -/

/-- The parts of the state that an application of staged tables leaves alone. -/
def State.unapplied (s : State) :=
  (s.config, s.part, s.timebase, s.mode, s.assembler, s.output, s.proceeding, s.pending)

theorem EndsTest.unapplied (h : EndsTest s t) : t.unapplied = s.unapplied := by
  rw [h.frame]
  rfl

theorem enterIdleState_unapplied (i : Fin 16) (x : StationState) (s : State) :
    (enterIdleState i x s).unapplied = s.unapplied := by
  simp [enterIdleState, State.unapplied]

theorem applyEntryState_unapplied (i : Fin 16) (old new : StationEntry) (s : State) :
    (applyEntryState i old new s).unapplied = s.unapplied := by
  unfold applyEntryState
  split
  · split
    · rfl
    · exact enterIdleState_unapplied i .disabled s
  · split
    · exact enterIdleState_unapplied i .absent s
    · split
      · rfl
      · exact enterIdleState_unapplied i .absent s

theorem abortTestOf_unapplied (i : Fin 16) (s : State) : (abortTestOf i s).unapplied = s.unapplied := by
  unfold abortTestOf
  split
  · split
    · exact (endTest_ends _ s).unapplied
    · rfl
  · rfl
  · rfl

theorem applyEntry_unapplied (i : Fin 16) (old new : StationEntry) (s : State) :
    (applyEntry i old new s).unapplied = s.unapplied := by
  have moved := applyEntryState_unapplied i old new s
  unfold applyEntry
  simp only
  split
  · exact (abortTestOf_unapplied i _).trans moved
  · exact moved

theorem applyEntries_unapplied (w : Vector Bool 16) (before after : Tables) (s : State) :
    (applyEntries w before after s).unapplied = s.unapplied := by
  refine forEach_keeps 16 _ (fun t => t.unapplied = s.unapplied) (fun i t ht => ?_) s rfl
  split
  · exact (applyEntry_unapplied i _ _ t).trans ht
  · exact ht

theorem recomputeLamps_unapplied (s : State) : (recomputeLamps s).unapplied = s.unapplied := by
  simp [State.unapplied]

theorem applyStaged_unapplied (s : State) : (applyStaged s).unapplied = s.unapplied := by
  have raised (f : EventFlag) (t : State) : (raise f t).unapplied = t.unapplied := by simp [State.unapplied]
  unfold applyStaged
  split
  · rw [raised]
    unfold activate
    exact (recomputeLamps_unapplied _).trans (applyEntries_unapplied _ _ _ _)
  · rfl

theorem applyStaged_unstaged (h : s.tables.staged = false) : applyStaged s = s :=
  if_neg (by simp [h])

/-! ## A change of proceeding state (R75, R129) -/

/-- A change of proceeding state is seen in the state, the lamps and what raising PROCEEDING_STATE changes. -/
theorem setProceedingState_frame (x : ProceedingState) (s : State) : ∃ l q m, setProceedingState x s =
    { s with proceeding := { s.proceeding with state := x }, tally := l, ports := q, management := m } := by
  obtain ⟨q, h, p, raised⟩ := raise_spec .proceedingState { s with proceeding := { s.proceeding with state := x } }
  obtain ⟨l, c, d, lamps⟩ := recomputeLamps_spec
    (raise .proceedingState { s with proceeding := { s.proceeding with state := x } })
  unfold setProceedingState
  rw [lamps, raised]
  exact ⟨_, _, _, rfl⟩

theorem setProceedingState_flag (x : ProceedingState) (s : State) :
    flagSet (setProceedingState x s) .proceedingState = true :=
  (Leaves.refl [] _).after_recomputeLamps.flags _ (raise_sets _ _)

theorem setProceedingState_portA (x : ProceedingState) (s : State) : (setProceedingState x s).ports.a = s.ports.a := by
  obtain ⟨l, c, d, lamps⟩ := recomputeLamps_spec
    (raise .proceedingState { s with proceeding := { s.proceeding with state := x } })
  unfold setProceedingState
  rw [lamps]
  exact raise_ports_a _ _

/-! ## The return to IDLE (R73, R89, R126, R137) -/

/-- The streams left and the proceeding in IDLE, before staged tables are applied. -/
def leaveProceeding (s : State) : State :=
  setProceedingState .idle
    { s with output := { s.output with openS := s.output.openS.leave, sealedS := s.output.sealedS.leave } }

theorem returnToIdle_eq (s : State) : returnToIdle s = flushAll (applyStaged (leaveProceeding s)) := rfl

/-- Of what staged tables leave alone, the return to IDLE changes the proceeding and the streams (R126, R137). -/
theorem returnToIdle_unapplied (s : State) : (returnToIdle s).unapplied =
    (s.config, s.part, s.timebase, s.mode, s.assembler,
      { s.output with openS := s.output.openS.leave, sealedS := s.output.sealedS.leave },
      { s.proceeding with state := .idle }, s.pending) := by
  obtain ⟨l, q, m, left⟩ := setProceedingState_frame .idle
    { s with output := { s.output with openS := s.output.openS.leave, sealedS := s.output.sealedS.leave } }
  rw [show (returnToIdle s).unapplied = (applyStaged (leaveProceeding s)).unapplied from rfl, applyStaged_unapplied,
    leaveProceeding, left]
  rfl

theorem leaveProceeding_tables (s : State) : (leaveProceeding s).tables = s.tables := by
  obtain ⟨l, q, m, left⟩ := setProceedingState_frame .idle
    { s with output := { s.output with openS := s.output.openS.leave, sealedS := s.output.sealedS.leave } }
  rw [leaveProceeding, left]

theorem returnToIdle_flag (s : State) : flagSet (returnToIdle s) .proceedingState = true :=
  ((Leaves.refl [.tables, .stations] (leaveProceeding s)).after_applyStaged (by simp) (by simp)).flags _
    (setProceedingState_flag _ _)

theorem returnToIdle_staged (h : s.tables.staged = true) :
    (returnToIdle s).tables = s.tables.applied ∧ flagSet (returnToIdle s) .tableApplied = true := by
  have applied := applyStaged_tables (s := leaveProceeding s) (by rw [leaveProceeding_tables]; exact h)
  rw [leaveProceeding_tables] at applied
  exact applied

theorem returnToIdle_unstaged (h : s.tables.staged = false) : (returnToIdle s).tables = s.tables := by
  rw [returnToIdle_eq, applyStaged_unstaged (by rw [leaveProceeding_tables]; exact h)]
  exact leaveProceeding_tables s

/-- Every group is flushed at the return to IDLE (R89). -/
theorem returnToIdle_group (g : Fin 8) (s : State) : ∃ x : ConferGroup, (returnToIdle s).groups[g] = x.flush :=
  ⟨_, getElem_mapTable ConferGroup.flush (applyStaged (leaveProceeding s)).groups g⟩

/-! ## The request -/

theorem answerClose_refused (p : List Byte) (h : s.proceeding.state = .idle ∨ s.proceeding.state = .draining ∨
    s.proceeding.state = .confirming) : answerClose p s = refuse .state s := by
  unfold answerClose
  rcases h with h | h | h <;> rw [h]

theorem answerClose_armed (p : List Byte) (h : s.proceeding.state = .armed) : answerClose p s = accept (returnToIdle s) := by
  unfold answerClose
  rw [h]

theorem answerClose_opened (p : List Byte) (h : s.proceeding.state = .opened) :
    answerClose p s = accept (startDraining s) := by
  unfold answerClose
  rw [h]

/-- Settles O52: the return to IDLE from ARMED, the start of DRAINING from OPEN, and the refusal in the other states. -/
theorem closeProceedingByState : Obligations.CloseProceedingByState := by
  intro s r rest settled serving
  refine ⟨fun armed => ?_, fun opened => ?_, fun other => ?_⟩
  · have answer := answerClose_armed (s := dequeued s rest) r.payload armed
    have left := returnToIdle_unapplied (dequeued s rest)
    have flag := returnToIdle_flag (dequeued s rest)
    have staged := returnToIdle_staged (s := dequeued s rest)
    have unstaged := returnToIdle_unstaged (s := dequeued s rest)
    have flushed (g : Fin 8) := returnToIdle_group g (dequeued s rest)
    generalize returnToIdle (dequeued s rest) = u at answer left flag staged unstaged flushed
    simp only [State.unapplied, Prod.mk.injEq] at left
    obtain ⟨config, -, timebase, mode, -, output, proceeding, -⟩ := left
    have stream (st : Stream) : u.stream st = (s.stream st).leave := by
      unfold State.stream
      rw [output]
      cases st <;> rfl
    obtain ⟨p, w, served, replied, -⟩ := serve_accepted_spec settled serving answer config
      ⟨by rw [output]; rfl, fun st => by rw [stream]; rfl⟩
    refine ⟨_, congrArg Host.Outcome.next served, replied, proceeding, flag, fun st => ?_, fun g => ?_, fun h => ?_,
      fun h => unstaged h, mode, timebase⟩
    · have kept : ({ u with ports := p, engine := { u.engine with waiting := w } } : State).stream st =
          (s.stream st).leave := stream st
      rw [kept]
      exact ⟨rfl, rfl, rfl, rfl⟩
    · obtain ⟨x, flush⟩ := flushed g
      simp only [flush]
      exact ⟨rfl, rfl, rfl⟩
    · obtain ⟨applied, raised⟩ := staged h
      exact ⟨congrArg TableSet.active applied, raised, congrArg TableSet.mapGeneration applied⟩
  · have answer := answerClose_opened (s := dequeued s rest) r.payload opened
    have flag : flagSet (startDraining (dequeued s rest)) .proceedingState = true := setProceedingState_flag _ _
    have portA : (startDraining (dequeued s rest)).ports.a = s.ports.a := setProceedingState_portA _ _
    obtain ⟨l, q, m, frame⟩ := setProceedingState_frame .draining
      { dequeued s rest with proceeding := { s.proceeding with last := some s.timebase.blockNumber } }
    have frame : startDraining (dequeued s rest) = _ := frame
    generalize startDraining (dequeued s rest) = u at answer flag portA frame
    obtain ⟨p, w, served, replied, quiet⟩ := serve_accepted_spec settled serving answer (by rw [frame]; rfl)
      ⟨by rw [frame]; rfl, fun st => by rw [frame]; rfl⟩
    have waiting : w = s.engine.waiting := by
      rw [quiet (by rw [frame]; rfl) portA, frame]
      rfl
    exact ⟨_, congrArg Host.Outcome.next served, replied, by rw [frame], flag, by rw [waiting, frame]; rfl⟩
  · exact congrArg Host.Outcome.next (serve_refused settled serving (answerClose_refused (s := dequeued s rest) _ other))

end Sys2Proof.Machine
end

section
/-! PROOFS. What a confer group hands over for a timed block: the entries it takes, its privileged intervals, and the end of FORCED
(R85, R86, R88). -/

namespace Sys2Proof.Machine

/-! ## Taken entries and their offsets -/

theorem isBefore_iff (a b : Counter) : isBefore a b = true ↔ counterDiff a b < 0 := decide_eq_true_iff

theorem isStale_iff (blockEnd p : Counter) : isStale blockEnd p = true ↔ 1048576 < counterDiff p blockEnd := decide_eq_true_iff

theorem isTaken_iff (blockEnd : Counter) (e : Toggle) :
    isTaken blockEnd e = true ↔ counterDiff e.point blockEnd < 0 ∨ 1048576 < counterDiff e.point blockEnd := by
  rw [isTaken, Bool.or_eq_true, isBefore_iff, isStale_iff]

/-- A counter before the block's end lies at most the block's length after its start: a length below 2^31 does not wrap (R1). -/
theorem counterDiff_start_le {x : Timing} {p : Counter} (short : x.length < 2 ^ 31) (before : counterDiff p x.blockEnd < 0) :
    counterDiff p x.start ≤ x.length := by
  obtain ⟨start, n⟩ := x
  simp only [counterDiff, Timing.blockEnd, BitVec.toInt_eq_toNat_cond, BitVec.toNat_sub, BitVec.toNat_add,
    BitVec.toNat_ofNat] at short before ⊢
  omega

theorem entryOffset_le {x : Timing} {e : Toggle} (short : x.length < 2 ^ 31) (taken : isTaken x.blockEnd e = true) :
    entryOffset x.start x.blockEnd e ≤ x.length := by
  unfold entryOffset
  split
  case isTrue => exact Nat.zero_le _
  case isFalse fresh =>
    have before := ((isTaken_iff _ _).mp taken).resolve_right (mt (isStale_iff _ _).mpr fresh)
    exact Int.toNat_le.mpr (counterDiff_start_le short before)

/-- An entry before the block's end is not stale: it acts where it stands. -/
theorem entryOffset_of_before {x : Timing} {e : Toggle} (before : counterDiff e.point x.blockEnd < 0) :
    entryOffset x.start x.blockEnd e = (counterDiff e.point x.start).toNat :=
  if_neg (mt (isStale_iff _ _).mp (by omega))

theorem isTaken_of_mem_takenEntries {x : Timing} {g : ConferGroup} {e : Toggle} (h : e ∈ takenEntries x g) :
    isTaken x.blockEnd e = true := (List.mem_filter.mp h).2

/-! ## The scan of the taken entries -/

theorem mem_closeInterval {l : List (Nat × Nat)} {a b : Nat} {p : Nat × Nat} (h : p ∈ closeInterval l a b) :
    p ∈ l ∨ p = (a, b) ∧ a < b := by
  unfold closeInterval at h
  split at h
  case isTrue forward => exact (List.mem_append.mp h).imp_right fun last => ⟨List.mem_singleton.mp last, forward⟩
  case isFalse => exact .inl h

theorem closeInterval_pairwise {l : List (Nat × Nat)} {a b : Nat} (ascends : l.Pairwise (fun p q => p.2 ≤ q.1))
    (below : ∀ p ∈ l, p.2 ≤ a) : (closeInterval l a b).Pairwise (fun p q => p.2 ≤ q.1) := by
  unfold closeInterval
  split
  case isTrue => exact List.pairwise_append.mpr ⟨ascends, List.pairwise_singleton _ _, by simpa using below⟩
  case isFalse => exact ascends

/-- Every interval closed so far is nonempty and ends within n samples. -/
def IntervalScan.Within (n : Nat) (x : IntervalScan) : Prop := ∀ p ∈ x.intervals, p.1 < p.2 ∧ p.2 ≤ n

theorem closeInterval_within {n a b : Nat} {l : List (Nat × Nat)} (h : ∀ p ∈ l, p.1 < p.2 ∧ p.2 ≤ n) (hb : b ≤ n) :
    ∀ p ∈ closeInterval l a b, p.1 < p.2 ∧ p.2 ≤ n := by
  intro p hp
  obtain old | ⟨rfl, forward⟩ := mem_closeInterval hp
  · exact h p old
  · exact ⟨forward, hb⟩

theorem scanEntry_within {n : Nat} {start blockEnd : Counter} {x : IntervalScan} {e : Toggle} (h : x.Within n)
    (he : entryOffset start blockEnd e ≤ n) : (scanEntry start blockEnd x e).Within n := by
  unfold scanEntry
  split <;> split
  case h_2.isFalse => exact closeInterval_within h he
  all_goals exact h

theorem scanEntries_within {n : Nat} {start blockEnd : Counter} {l : List Toggle} (engaged : Bool)
    (h : ∀ e ∈ l, entryOffset start blockEnd e ≤ n) : (scanEntries engaged start blockEnd l).Within n :=
  List.foldlRecOn l _ (motive := IntervalScan.Within n) (fun _ hp => nomatch hp) fun _ hx e he => scanEntry_within hx (h e he)

theorem finish_within {n : Nat} {x : IntervalScan} (h : x.Within n) : ∀ p ∈ x.finish n, p.1 < p.2 ∧ p.2 ≤ n := by
  unfold IntervalScan.finish
  split
  · exact closeInterval_within h le_rfl
  · exact h

/-- The intervals closed so far ascend and end at or before offset m, and at or before the start of the open interval, which does
not lie after m either. -/
structure IntervalScan.AscendsTo (m : Nat) (x : IntervalScan) : Prop where
  ascends : x.intervals.Pairwise (fun p q => p.2 ≤ q.1)
  ended : ∀ p ∈ x.intervals, p.2 ≤ m
  opened : ∀ a, x.openAt = some a → a ≤ m ∧ ∀ p ∈ x.intervals, p.2 ≤ a

/-- An entry that acts at or after offset m keeps the intervals ascending, up to its own offset. -/
theorem scanEntry_ascendsTo {m : Nat} {start blockEnd : Counter} {x : IntervalScan} {e : Toggle} (h : x.AscendsTo m)
    (he : m ≤ entryOffset start blockEnd e) :
    (scanEntry start blockEnd x e).AscendsTo (entryOffset start blockEnd e) := by
  obtain ⟨ascends, ended, opened⟩ := h
  have later : ∀ p ∈ x.intervals, p.2 ≤ entryOffset start blockEnd e := fun p hp => (ended p hp).trans he
  unfold scanEntry
  split
  case h_1 closed =>
    split
    · exact ⟨ascends, later, fun a ha => Option.some.inj ha ▸ ⟨le_rfl, later⟩⟩
    · exact ⟨ascends, later, fun a ha => by simp [closed] at ha⟩
  case h_2 a ha =>
    obtain ⟨reached, before⟩ := opened a ha
    split
    · exact ⟨ascends, later, fun b hb => ⟨(opened b hb).1.trans he, (opened b hb).2⟩⟩
    · refine ⟨closeInterval_pairwise ascends before, fun p hp => ?_, fun b hb => nomatch hb⟩
      obtain old | ⟨rfl, -⟩ := mem_closeInterval hp
      · exact later p old
      · exact le_rfl

theorem foldl_scanEntry_ascendsTo {start blockEnd : Counter} (l : List Toggle) (m : Nat) (x : IntervalScan)
    (h : x.AscendsTo m) (reached : ∀ e ∈ l, m ≤ entryOffset start blockEnd e)
    (ordered : l.Pairwise (fun a b => entryOffset start blockEnd a ≤ entryOffset start blockEnd b)) :
    ∃ n, (l.foldl (scanEntry start blockEnd) x).AscendsTo n := by
  induction l generalizing m x with
  | nil => exact ⟨m, h⟩
  | cons e l ih =>
    obtain ⟨first, rest⟩ := List.pairwise_cons.mp ordered
    exact ih _ _ (scanEntry_ascendsTo h (reached e List.mem_cons_self)) first rest

theorem finish_pairwise {m n : Nat} {x : IntervalScan} (h : x.AscendsTo m) :
    (x.finish n).Pairwise (fun p q => p.2 ≤ q.1) := by
  unfold IntervalScan.finish
  split
  case h_1 a ha => exact closeInterval_pairwise h.ascends (h.opened a ha).2
  case h_2 => exact h.ascends

/-- After an entry the scan is ENGAGED exactly when the entry is DOWN. -/
theorem scanEntry_engaged (start blockEnd : Counter) (x : IntervalScan) (e : Toggle) :
    (scanEntry start blockEnd x e).openAt.isSome = e.down := by
  unfold scanEntry
  split <;> split <;> simp_all

theorem scanEntries_engaged {engaged : Bool} {start blockEnd : Counter} {l : List Toggle} {e : Toggle}
    (last : l.getLast? = some e) : (scanEntries engaged start blockEnd l).openAt.isSome = e.down := by
  obtain ⟨before, rfl⟩ := List.getLast?_eq_some_iff.mp last
  rw [scanEntries, List.foldl_append]
  exact scanEntry_engaged _ _ _ e

/-! ## What a group hands over and keeps -/

theorem handGroup_within {x : Timing} (g : ConferGroup) (short : x.length < 2 ^ 31) :
    ∀ p ∈ (handGroup x g).intervals, p.1 < p.2 ∧ p.2 ≤ x.length :=
  finish_within (scanEntries_within _ fun _ he => entryOffset_le short (isTaken_of_mem_takenEntries he))

theorem handGroup_ascends {x : Timing} {g : ConferGroup}
    (fresh : ∀ e ∈ takenEntries x g, counterDiff e.point x.blockEnd < 0)
    (ordered : (takenEntries x g).Pairwise fun a b =>
      (counterDiff a.point x.start).toNat ≤ (counterDiff b.point x.start).toNat) :
    (handGroup x g).intervals.Pairwise (fun a b => a.2 ≤ b.1) := by
  have offsets : (takenEntries x g).Pairwise
      (fun a b => entryOffset x.start x.blockEnd a ≤ entryOffset x.start x.blockEnd b) :=
    ordered.imp_of_mem fun ha hb le => by
      rwa [entryOffset_of_before (fresh _ ha), entryOffset_of_before (fresh _ hb)]
  have initial : IntervalScan.AscendsTo 0 { intervals := [], openAt := if g.engaged then some 0 else none } :=
    ⟨.nil, (fun _ hp => nomatch hp), fun a ha => ⟨by simp_all, fun _ hp => nomatch hp⟩⟩
  obtain ⟨m, ascends⟩ := foldl_scanEntry_ascendsTo _ 0 _ initial (fun _ _ => Nat.zero_le _) offsets
  exact finish_pairwise ascends

/-- Without a taken entry the engaged state stays, and an engaged group has the whole block. -/
theorem handGroup_untaken {x : Timing} {g : ConferGroup} (untaken : takenEntries x g = []) :
    (g.consume x).engaged = g.engaged ∧
      (handGroup x g).intervals = if g.engaged ∧ 0 < x.length then [(0, x.length)] else [] := by
  have scan : groupScan x g = { intervals := [], openAt := if g.engaged then some 0 else none } := by
    rw [groupScan, untaken]
    rfl
  simp only [ConferGroup.consume, handGroup, scan]
  cases g.engaged
  · exact ⟨rfl, rfl⟩
  · exact ⟨rfl, by simp [IntervalScan.finish, closeInterval]⟩

theorem handGroup_late_iff (x : Timing) (g : ConferGroup) : (handGroup x g).late = true ↔
    ∃ e ∈ takenEntries x g, e.late = true ∨ 1048576 < counterDiff e.point x.blockEnd := by
  simp only [handGroup, List.any_eq_true, Bool.or_eq_true, isStale_iff]

theorem leavesForced_iff (x : Timing) (g : ConferGroup) : g.leavesForced x = true ↔
    g.forced = true ∧ g.toggles = [] ∧ ∀ p, g.forcedPoint = some p →
      counterDiff p x.blockEnd < 0 ∨ 1048576 < counterDiff p x.blockEnd := by
  unfold ConferGroup.leavesForced
  cases g.forcedPoint <;> simp [isBefore_iff, isStale_iff, and_assoc]

/-- Settles O37: the scan keeps its intervals within the block and ascending, entry by entry. -/
theorem conferIntervalsLieInBlock : Obligations.ConferIntervalsLieInBlock := by
  intro x g short passed
  refine ⟨handGroup_within g short, isTaken_iff _, rfl, rfl, fun e => scanEntries_engaged, handGroup_untaken, rfl, rfl, rfl, rfl,
    handGroup_late_iff x g, handGroup_ascends, fun forced empty point => if_pos ?_, fun stays => if_neg fun leaves => ?_⟩
  · exact (leavesForced_iff x g).mpr ⟨forced, empty, point⟩
  · obtain ⟨forced, empty, point⟩ := (leavesForced_iff x g).mp leaves
    rcases stays with unforced | waiting | ⟨p, hp, ahead⟩
    · simp [forced] at unforced
    · exact waiting empty
    · exact ahead (point p hp)

end Sys2Proof.Machine
end

section
/-! PROOFS. Segments and folds, the samples of a track entry, and its TRACK payload (R87, R94, R96 to R102, R184). -/

namespace Sys2Proof.Machine

/-! ## Segments (R99) -/

@[simp] theorem segmentsOf_nil : segmentsOf [] = [] := rfl

@[simp] theorem segmentsOf_cons (c : Cell) (cells : List Cell) :
    segmentsOf (c :: cells) = joinCell c.kind c.cause (segmentsOf cells) := rfl

@[simp] theorem segmentSum_nil : segmentSum [] = 0 := rfl

@[simp] theorem segmentSum_cons (g : Segment) (l : List Segment) : segmentSum (g :: l) = g.length + segmentSum l := by
  simp [segmentSum]

theorem segmentSum_append (l r : List Segment) : segmentSum (l ++ r) = segmentSum l + segmentSum r := by
  simp [segmentSum]

/-- A cell in front either lengthens the first segment, which has its kind and cause, or makes a segment of its own. -/
theorem joinCell_cases (k : SegKind) (c : SegCause) (l : List Segment) :
    (∃ n rest, l = { kind := k, cause := c, length := n } :: rest ∧
      joinCell k c l = { kind := k, cause := c, length := n + 1 } :: rest) ∨
    ((∀ g ∈ l.head?, g.kind ≠ k ∨ g.cause ≠ c) ∧ joinCell k c l = { kind := k, cause := c, length := 1 } :: l) := by
  cases l with
  | nil => exact .inr ⟨(fun g hg => nomatch hg), rfl⟩
  | cons g rest =>
    by_cases same : g.kind = k ∧ g.cause = c
    · obtain ⟨rfl, rfl⟩ := same
      exact .inl ⟨g.length, rest, rfl, if_pos ⟨rfl, rfl⟩⟩
    · exact .inr ⟨fun _ hg => Option.some.inj hg ▸ not_and_or.mp same, if_neg same⟩

theorem segmentSum_joinCell (k : SegKind) (c : SegCause) (l : List Segment) :
    segmentSum (joinCell k c l) = segmentSum l + 1 := by
  obtain ⟨n, rest, rfl, join⟩ | ⟨-, join⟩ := joinCell_cases k c l
  all_goals
    rw [join]
    simp only [segmentSum_cons]
    omega

theorem segmentSum_segmentsOf (cells : List Cell) : segmentSum (segmentsOf cells) = cells.length := by
  induction cells with
  | nil => rfl
  | cons c cells ih => rw [segmentsOf_cons, segmentSum_joinCell, ih, List.length_cons]

theorem segmentsAlternate_cons (g : Segment) (l : List Segment) : SegmentsAlternate (g :: l) ↔
    (∀ h ∈ l.head?, g.kind ≠ h.kind ∨ g.cause ≠ h.cause) ∧ SegmentsAlternate l := by
  cases l <;> simp [SegmentsAlternate]

theorem joinCell_alternates (k : SegKind) (c : SegCause) {l : List Segment} (h : SegmentsAlternate l) :
    SegmentsAlternate (joinCell k c l) := by
  obtain ⟨n, rest, rfl, join⟩ | ⟨differs, join⟩ := joinCell_cases k c l
  · rw [segmentsAlternate_cons] at h
    rwa [join, segmentsAlternate_cons]
  · rw [join, segmentsAlternate_cons]
    exact ⟨fun g hg => (differs g hg).imp Ne.symm Ne.symm, h⟩

theorem segmentsOf_alternate (cells : List Cell) : SegmentsAlternate (segmentsOf cells) := by
  induction cells with
  | nil => trivial
  | cons c cells ih => exact joinCell_alternates _ _ ih

/-- The first segments after a cell in front are that cell in front of first segments. -/
theorem take_joinCell (k : SegKind) (c : SegCause) (l : List Segment) (j : Nat) :
    ∃ i, (joinCell k c l).take (j + 1) = joinCell k c (l.take i) := by
  obtain ⟨n, rest, rfl, join⟩ | ⟨differs, join⟩ := joinCell_cases k c l
  · exact ⟨j + 1, by simp [joinCell]⟩
  · refine ⟨j, ?_⟩
    have apart : ∀ g ∈ (l.take j).head?, g.kind ≠ k ∨ g.cause ≠ c := by
      cases j with
      | zero => exact fun g hg => nomatch hg
      | succ j => simpa [List.head?_take] using differs
    obtain ⟨n, rest, joined, -⟩ | ⟨-, join'⟩ := joinCell_cases k c (l.take j)
    · simp [joined] at apart
    · rw [join, join', List.take_succ_cons]

/-- The samples that the first j segments cover have exactly these segments. -/
theorem segmentsOf_take (cells : List Cell) (j : Nat) :
    segmentsOf (cells.take (segmentSum ((segmentsOf cells).take j))) = (segmentsOf cells).take j := by
  induction cells generalizing j with
  | nil => simp
  | cons c cells ih =>
    cases j with
    | zero => rfl
    | succ j =>
      obtain ⟨i, first⟩ := take_joinCell c.kind c.cause (segmentsOf cells) j
      rw [segmentsOf_cons, first, segmentSum_joinCell, List.take_succ_cons, segmentsOf_cons, ih i]

/-- The first segment has the kind and cause of the cell in front. -/
theorem joinCell_head (k : SegKind) (c : SegCause) (l : List Segment) :
    ∃ n rest, joinCell k c l = { kind := k, cause := c, length := n } :: rest := by
  obtain ⟨n, rest, -, join⟩ | ⟨-, join⟩ := joinCell_cases k c l
  · exact ⟨_, _, join⟩
  · exact ⟨_, _, join⟩

theorem length_joinCell_le (k : SegKind) (c : SegCause) (l : List Segment) : (joinCell k c l).length ≤ 1 + l.length := by
  obtain ⟨n, rest, rfl, join⟩ | ⟨-, join⟩ := joinCell_cases k c l
  all_goals
    rw [join]
    simp only [List.length_cons]
    omega

/-- Two series end to end yield no more segments than both apart. -/
theorem length_segmentsOf_append (a b : List Cell) :
    (segmentsOf (a ++ b)).length ≤ (segmentsOf a).length + (segmentsOf b).length := by
  induction a with
  | nil => simp
  | cons c a ih =>
    rw [List.cons_append, segmentsOf_cons, segmentsOf_cons]
    cases a with
    | nil => exact length_joinCell_le _ _ _
    | cons d a =>
      rw [List.cons_append, segmentsOf_cons, segmentsOf_cons] at ih ⊢
      obtain ⟨n, rest, whole⟩ := joinCell_head d.kind d.cause (segmentsOf (a ++ b))
      obtain ⟨m, rest', part⟩ := joinCell_head d.kind d.cause (segmentsOf a)
      rw [whole, part] at ih ⊢
      simp only [joinCell, List.length_cons] at ih ⊢
      split <;> simp only [List.length_cons] <;> omega

theorem length_segmentsOf_replicate (n : Nat) (c : Cell) : (segmentsOf (List.replicate n c)).length ≤ 1 := by
  have segs : ∀ n, segmentsOf (List.replicate (n + 1) c) = [{ kind := c.kind, cause := c.cause, length := n + 1 }] := by
    intro n
    induction n with
    | zero => rfl
    | succ n ih => rw [List.replicate_succ, segmentsOf_cons, ih, joinCell, if_pos ⟨rfl, rfl⟩]
  cases n with
  | zero => simp
  | succ n => simp [segs]

/-! ## Folds (R99) -/

theorem needsFold_iff (cells : List Cell) : needsFold cells = true ↔ 16 < (segmentsOf cells).length := decide_eq_true_iff

theorem foldCells_of_le {cells : List Cell} (few : (segmentsOf cells).length ≤ 16) : foldCells cells = cells :=
  if_neg fun fold => Nat.not_lt.mpr few ((needsFold_iff cells).mp fold)

theorem foldCells_of_lt {cells : List Cell} (many : 16 < (segmentsOf cells).length) :
    foldCells cells = cells.take (keptSamples cells) ++ List.replicate (cells.length - keptSamples cells) lostCell :=
  if_pos ((needsFold_iff cells).mpr many)

theorem keptSamples_le (cells : List Cell) : keptSamples cells ≤ cells.length := by
  have whole := segmentSum_append ((segmentsOf cells).take 15) ((segmentsOf cells).drop 15)
  rw [List.take_append_drop, segmentSum_segmentsOf] at whole
  exact Nat.le.intro whole.symm

theorem length_foldCells (cells : List Cell) : (foldCells cells).length = cells.length := by
  rcases Nat.lt_or_ge 16 (segmentsOf cells).length with many | few
  · have kept := keptSamples_le cells
    rw [foldCells_of_lt many, List.length_append, List.length_take, List.length_replicate]
    omega
  · rw [foldCells_of_le few]

/-- A fold leaves the first 15 segments, and its lost samples are at most one segment more. -/
theorem length_segmentsOf_foldCells (cells : List Cell) : (segmentsOf (foldCells cells)).length ≤ 16 := by
  rcases Nat.lt_or_ge 16 (segmentsOf cells).length with many | few
  · have kept : (segmentsOf (cells.take (keptSamples cells))).length ≤ 15 := by
      rw [keptSamples, segmentsOf_take]
      exact List.length_take_le _ _
    have lost := length_segmentsOf_replicate (cells.length - keptSamples cells) lostCell
    rw [foldCells_of_lt many]
    have both := length_segmentsOf_append (cells.take (keptSamples cells))
      (List.replicate (cells.length - keptSamples cells) lostCell)
    omega
  · rwa [foldCells_of_le few]

theorem mem_foldCells {cells : List Cell} {c : Cell} (h : c ∈ foldCells cells) : c ∈ cells ∨ c = lostCell := by
  unfold foldCells at h
  split at h
  · exact (List.mem_append.mp h).imp List.mem_of_mem_take List.eq_of_mem_replicate
  · exact .inl h

/-! ## The cell of a sample (R98) -/

theorem privilegeOf_eq_some (s : State) (gb : Vector GroupBlock 8) {e : TrackEntry} {g : Fin 8}
    (group : e.group.val = g.val + 1) (permit : s.tables.active.permit[e.role.column] = true) :
    privilegeOf s gb e = some gb[g] := by
  simp [privilegeOf, (groupIndex_eq_some_iff e g).mpr group, permit]

/-- What applies to a track is handed over by its group, and its role has confer-permit (R87). -/
theorem of_privilegeOf_eq_some {s : State} {gb : Vector GroupBlock 8} {e : TrackEntry} {b : GroupBlock}
    (h : privilegeOf s gb e = some b) : ∃ g : Fin 8, e.group.val = g.val + 1 ∧
      s.tables.active.permit[e.role.column] = true ∧ gb[g] = b := by
  unfold privilegeOf at h
  split at h
  case h_1 g group =>
    split at h
    case isTrue permit => exact ⟨g, (groupIndex_eq_some_iff e g).mp group, permit, Option.some.inj h⟩
    case isFalse => simp at h
  case h_2 => simp at h

theorem insideInterval_iff (l : List (Nat × Nat)) (o : Nat) : insideInterval l o = true ↔ ∃ p ∈ l, p.1 ≤ o ∧ o < p.2 := by
  simp [insideInterval]

theorem privilegedCell_forced {g : GroupBlock} (o : Nat) (forced : g.forced = true) :
    privilegedCell (some g) o = some { kind := .privileged, cause := .forced, value := none } := if_pos forced

theorem privilegedCell_inside {g : GroupBlock} {o : Nat} (unforced : g.forced = false)
    (inside : ∃ p ∈ g.intervals, p.1 ≤ o ∧ o < p.2) :
    privilegedCell (some g) o = some { kind := .privileged, cause := .confer, value := none } := by
  simp [privilegedCell, unforced, (insideInterval_iff _ _).mpr inside]

theorem privilegedCell_eq_none {p : Privilege} {o : Nat}
    (h : ∀ g, p = some g → g.forced = false ∧ ∀ i ∈ g.intervals, ¬ (i.1 ≤ o ∧ o < i.2)) : privilegedCell p o = none := by
  unfold privilegedCell
  split
  case h_1 => rfl
  case h_2 g =>
    obtain ⟨unforced, outside⟩ := h g rfl
    have off : insideInterval g.intervals o = false :=
      Bool.eq_false_iff.mpr fun inside =>
        let ⟨i, hi, within⟩ := (insideInterval_iff _ _).mp inside
        outside i hi within
    simp [unforced, off]

/-- A sample that no group with confer-permit has FORCED or inside an interval is not privileged. -/
theorem privilegedCell_privilegeOf_eq_none {s : State} {gb : Vector GroupBlock 8} {e : TrackEntry} {o : Nat}
    (h : ∀ g : Fin 8, e.group.val = g.val + 1 → s.tables.active.permit[e.role.column] = true →
      gb[g].forced = false ∧ ∀ p ∈ gb[g].intervals, ¬ (p.1 ≤ o ∧ o < p.2)) :
    privilegedCell (privilegeOf s gb e) o = none :=
  privilegedCell_eq_none fun y hy => by
    obtain ⟨g, group, permit, rfl⟩ := of_privilegeOf_eq_some hy
    exact h g group permit

theorem frameHolding_eq_none {w : List HeldFrame} {c : Counter} (h : ∀ f ∈ w, 48 ≤ (c - f.counter).toNat) :
    frameHolding w c = none :=
  List.find?_eq_none.mpr fun f hf holds => Nat.not_lt.mpr (h f hf) (of_decide_eq_true holds)

theorem frameHolding_eq_some {w : List HeldFrame} {c : Counter} {h : HeldFrame} (held : h ∈ w)
    (covers : (c - h.counter).toNat < 48) (alone : ∀ f ∈ w, f ≠ h → 48 ≤ (c - f.counter).toNat) :
    frameHolding w c = some h := by
  cases found : frameHolding w c with
  | none => exact absurd (decide_eq_true covers) (List.find?_eq_none.mp found h held)
  | some f =>
    have first : (c - f.counter).toNat < 48 :=
      of_decide_eq_true (List.find?_some (p := fun h : HeldFrame => decide ((c - h.counter).toNat < frameSamples)) found)
    by_contra other
    have := alone f (List.mem_of_find?_eq_some found) (fun same => other (congrArg some same))
    omega

theorem lostAt_overrun {below : Option Counter} {c : Counter} (h : ∃ y, below = some y ∧ counterDiff c y < 0) :
    lostAt below c = { kind := .lost, cause := .overrun, value := none } := by
  obtain ⟨y, rfl, before⟩ := h
  exact if_pos ((isBefore_iff c y).mpr before)

theorem lostAt_missing {below : Option Counter} {c : Counter} (h : ∀ y, below = some y → 0 ≤ counterDiff c y) :
    lostAt below c = { kind := .lost, cause := .missing, value := none } := by
  cases below with
  | none => rfl
  | some y => exact if_neg fun before => Int.not_lt.mpr (h y rfl) ((isBefore_iff c y).mp before)

theorem lostAt_kind (below : Option Counter) (c : Counter) : (lostAt below c).kind = .lost := by
  unfold lostAt
  split
  · split <;> rfl
  · rfl

theorem cellAt_privileged {x : TrackSource} {o : Nat} {c : Cell} (h : privilegedCell x.privilege o = some c) :
    cellAt x o = c := by
  simp only [cellAt, h]

theorem cellAt_unheld {x : TrackSource} {o : Nat} (unprivileged : privilegedCell x.privilege o = none)
    (unheld : frameHolding x.station.window (x.timing.start + BitVec.ofNat 32 o) = none) :
    cellAt x o = lostAt x.station.evictedBelow (x.timing.start + BitVec.ofNat 32 o) := by
  simp only [cellAt, unprivileged, unheld]

theorem cellAt_held {x : TrackSource} {o : Nat} {h : HeldFrame} (unprivileged : privilegedCell x.privilege o = none)
    (held : frameHolding x.station.window (x.timing.start + BitVec.ofNat 32 o) = some h) :
    cellAt x o = { kind := x.carried, cause := .none,
                   value := some (sampleOf h x.channels x.channel (x.timing.start + BitVec.ofNat 32 o)) } := by
  simp only [cellAt, unprivileged, held]

theorem getElem?_rawCells (x : TrackSource) {o : Nat} (h : o < x.timing.length) : (rawCells x)[o]? = some (cellAt x o) := by
  simp [rawCells, h]

/-! ## The values of an entry's samples (R101, R102) -/

/-- A cell that a stream may show as AUDIO has a value. -/
def Cell.Valued (c : Cell) : Prop := c.kind = .audio ∨ c.kind = .sealedK → c.value.isSome = true

theorem privilegedCell_kind {p : Privilege} {o : Nat} {c : Cell} (h : privilegedCell p o = some c) : c.kind = .privileged := by
  unfold privilegedCell at h
  split at h
  · simp at h
  · split at h
    · exact Option.some.inj h ▸ rfl
    · split at h
      · exact Option.some.inj h ▸ rfl
      · simp at h

theorem cellAt_valued (x : TrackSource) (o : Nat) : (cellAt x o).Valued := by
  cases privileged : privilegedCell x.privilege o with
  | some c =>
    rw [cellAt_privileged privileged]
    simp [Cell.Valued, privilegedCell_kind privileged]
  | none =>
    cases held : frameHolding x.station.window (x.timing.start + BitVec.ofNat 32 o) with
    | none =>
      rw [cellAt_unheld privileged held]
      simp [Cell.Valued, lostAt_kind]
    | some h =>
      rw [cellAt_held privileged held]
      exact fun _ => rfl

theorem timedCells_valued {s : State} {gb : Vector GroupBlock 8} {e : TrackEntry} {d : Disposition} {x : Timing} {c : Cell}
    (h : c ∈ timedCells s gb e d x) : c.Valued := by
  have raw (y : TrackSource) (h : c ∈ rawCells y) : c.Valued := by
    obtain ⟨o, -, rfl⟩ := List.mem_map.mp h
    exact cellAt_valued y o
  cases d with
  | withheldD =>
    obtain rfl := List.eq_of_mem_replicate h
    simp [Cell.Valued]
  | openD => exact raw _ h
  | sealedD => exact raw _ h

theorem foldCells_valued {cells : List Cell} (h : ∀ c ∈ cells, c.Valued) : ∀ c ∈ foldCells cells, c.Valued := by
  intro c hc
  obtain old | rfl := mem_foldCells hc
  · exact h c old
  · simp [Cell.Valued, lostCell]

/-! ## Track entries (R94, R96 to R99) -/

theorem entryCause_eq_none_iff (z : StationState) (t : Option Timing) :
    entryCause z t = .none ↔ (z = .track ∨ z = .coast) ∧ t.isSome = true := by
  cases z <;> cases t <;> simp [entryCause]

theorem entryCause_noStation {z : StationState} (t : Option Timing) (h : z = .disabled ∨ z = .absent) :
    entryCause z t = .noStation := by
  rcases h with rfl | rfl <;> rfl

theorem entryCause_timing {z : StationState} {t : Option Timing}
    (h : z = .acquire ∨ (z = .track ∨ z = .coast) ∧ t = none) : entryCause z t = .timing := by
  rcases h with rfl | ⟨rfl | rfl, rfl⟩ <;> rfl

section
variable (s : State) (m : CourtMode) (ts : Timings) (gb : Vector GroupBlock 8) (k : Fin 48)

/-- A track with cause none holds the cells of its timed block. -/
theorem trackEntry_timed {e : TrackEntry} {x : Timing} (track : s.tables.active.tracks[k] = e)
    (state : s.stations[e.station].state = .track ∨ s.stations[e.station].state = .coast)
    (timing : timingOf ts e.station = some x) :
    trackEntry s m ts gb k = buildEntry k e .none (dispositionIn s.tables.active m e.role)
      (timedCells s gb e (dispositionIn s.tables.active m e.role) x) := by
  have cause := (entryCause_eq_none_iff _ (some x)).mpr ⟨state, rfl⟩
  subst track
  simp only [trackEntry, timing, cause]

/-- A track with another cause holds no cells. -/
theorem trackEntry_untimed {e : TrackEntry} (track : s.tables.active.tracks[k] = e)
    (cause : entryCause s.stations[e.station].state (timingOf ts e.station) ≠ .none) :
    trackEntry s m ts gb k = buildEntry k e (entryCause s.stations[e.station].state (timingOf ts e.station))
      (dispositionIn s.tables.active m e.role) [] := by
  subst track
  dsimp only [trackEntry]
  split
  case h_1 timed _ => exact absurd timed cause
  case h_2 => rfl

/-- The two forms of an entry: timed with cause none, or without cells and with another cause. -/
theorem trackEntry_cases {e : TrackEntry} (track : s.tables.active.tracks[k] = e) :
    (∃ x, ((s.stations[e.station].state = .track ∨ s.stations[e.station].state = .coast) ∧
        timingOf ts e.station = some x) ∧
      trackEntry s m ts gb k = buildEntry k e .none (dispositionIn s.tables.active m e.role)
        (timedCells s gb e (dispositionIn s.tables.active m e.role) x)) ∨
    (entryCause s.stations[e.station].state (timingOf ts e.station) ≠ .none ∧
      trackEntry s m ts gb k = buildEntry k e (entryCause s.stations[e.station].state (timingOf ts e.station))
        (dispositionIn s.tables.active m e.role) []) := by
  by_cases cause : entryCause s.stations[e.station].state (timingOf ts e.station) = .none
  · obtain ⟨state, timed⟩ := (entryCause_eq_none_iff _ _).mp cause
    obtain ⟨x, timing⟩ := Option.isSome_iff_exists.mp timed
    exact .inl ⟨x, ⟨state, timing⟩, trackEntry_timed s m ts gb k track state timing⟩
  · exact .inr ⟨cause, trackEntry_untimed s m ts gb k track cause⟩

theorem trackEntry_cause {e : TrackEntry} (track : s.tables.active.tracks[k] = e) :
    (trackEntry s m ts gb k).cause = entryCause s.stations[e.station].state (timingOf ts e.station) := by
  obtain ⟨x, ⟨state, timing⟩, entry⟩ | ⟨-, entry⟩ := trackEntry_cases s m ts gb k track
  · rw [entry, timing]
    exact ((entryCause_eq_none_iff _ _).mpr ⟨state, rfl⟩).symm
  · rw [entry]
    rfl

theorem trackEntry_fields {e : TrackEntry} (track : s.tables.active.tracks[k] = e) :
    (trackEntry s m ts gb k).track = k ∧ (trackEntry s m ts gb k).station = e.station ∧
      (trackEntry s m ts gb k).channel = e.channel ∧ (trackEntry s m ts gb k).role = e.role ∧
      (trackEntry s m ts gb k).group = e.group ∧
      (trackEntry s m ts gb k).disposition = dispositionIn s.tables.active m e.role := by
  obtain ⟨x, -, entry⟩ | ⟨-, entry⟩ := trackEntry_cases s m ts gb k track
  all_goals
    rw [entry]
    exact ⟨rfl, rfl, rfl, rfl, rfl, rfl⟩

theorem trackEntry_empty (other : (trackEntry s m ts gb k).cause ≠ .none) :
    (trackEntry s m ts gb k).cells = [] ∧ (trackEntry s m ts gb k).folded = false := by
  obtain ⟨x, -, entry⟩ | ⟨-, entry⟩ := trackEntry_cases s m ts gb k rfl
  · exact absurd (congrArg TrackBuild.cause entry) other
  · rw [entry]
    exact ⟨rfl, rfl⟩

theorem trackEntry_valued : ∀ c ∈ (trackEntry s m ts gb k).cells, c.Valued := by
  obtain ⟨x, -, entry⟩ | ⟨-, entry⟩ := trackEntry_cases s m ts gb k rfl
  · rw [entry]
    exact foldCells_valued fun _ => timedCells_valued
  · rw [entry]
    exact fun c hc => nomatch hc

theorem buildEntries_tracks : (buildEntries s m ts gb).map (·.track) =
    (List.finRange 48).filter (fun k => s.tables.active.tracks[k].mapped) := by
  have tracks : (fun b : TrackBuild => b.track) ∘ trackEntry s m ts gb = id :=
    funext fun k => (trackEntry_fields s m ts gb k rfl).1
  rw [buildEntries, List.map_map, tracks, List.map_id]

theorem eq_trackEntry_of_mem_buildEntries {b : TrackBuild} (h : b ∈ buildEntries s m ts gb) :
    b = trackEntry s m ts gb b.track := by
  obtain ⟨k, -, rfl⟩ := List.mem_map.mp h
  rw [(trackEntry_fields s m ts gb k rfl).1]

end

/-- An OPEN or SEALED track in a timed block has the cell of each offset. -/
theorem getElem?_timedCells (s : State) (gb : Vector GroupBlock 8) (e : TrackEntry) {d : Disposition} {x : Timing} {o : Nat}
    (recorded : d ≠ .withheldD) (ho : o < x.length) : (timedCells s gb e d x)[o]? =
      some (cellAt (trackSource s gb e x (if d = .openD then .audio else .sealedK)) o) := by
  cases d with
  | withheldD => exact absurd rfl recorded
  | openD => exact getElem?_rawCells _ ho
  | sealedD => exact getElem?_rawCells _ ho

theorem length_timedCells (s : State) (gb : Vector GroupBlock 8) (e : TrackEntry) (d : Disposition) (x : Timing) :
    (timedCells s gb e d x).length = x.length := by
  cases d <;> simp [timedCells, withheldCells, rawCells, trackSource]

/-! ## The TRACK payload (R101, R102, R184) -/

theorem shownCells_eq (st : Stream) (b : TrackBuild) : shownCells st b =
    b.cells.map (fun c => if st = .sealedS ∧ c.kind = .sealedK then { c with kind := .audio } else c) := by
  cases st <;> simp [shownCells, Cell.unseal]

/-- A cell that a stream shows as AUDIO is one that stands as AUDIO or SEALED in the entry, so it has a value. -/
theorem shownCells_audio {st : Stream} {b : TrackBuild} (valued : ∀ c ∈ b.cells, c.Valued) {c : Cell}
    (hc : c ∈ shownCells st b) (audio : c.kind = .audio) : c.value.isSome = true := by
  cases st with
  | openS => exact valued c hc (.inl audio)
  | sealedS =>
    obtain ⟨y, hy, rfl⟩ := List.mem_map.mp hc
    unfold Cell.unseal at audio ⊢
    split
    case isTrue hidden => exact valued y hy (.inr hidden)
    case isFalse plain => exact valued y hy (.inl (by rwa [if_neg plain] at audio))

/-- The audio bytes of cells are the values of those shown as AUDIO, where each of these has a value. -/
theorem flatMap_audioBytes {cells : List Cell} (h : ∀ c ∈ cells, c.kind = .audio → c.value.isSome = true) :
    cells.flatMap Cell.audioBytes =
      (cells.filterMap (fun c => if c.kind = .audio then c.value else none)).flatMap sampleBytes := by
  induction cells with
  | nil => rfl
  | cons c cells ih =>
    obtain ⟨first, rest⟩ := List.forall_mem_cons.mp h
    rw [List.flatMap_cons, ih rest, Cell.audioBytes]
    by_cases audio : c.kind = .audio
    · obtain ⟨v, value⟩ := Option.isSome_iff_exists.mp (first audio)
      rw [List.filterMap_cons_some (by rw [if_pos audio, value]), List.flatMap_cons, if_pos audio, value]
      rfl
    · rw [List.filterMap_cons, if_neg audio, if_neg audio, List.nil_append]

theorem trackPayload_eq (st : Stream) {b : TrackBuild} (valued : ∀ c ∈ b.cells, c.Valued) : trackPayload st b =
    byte b.track.val ++ byte b.station.val ++ byte b.channel.val ++ byte b.cause.code ++ half b.cells.length ++
      byte (segmentsOf (shownCells st b)).length ++ zeros 1 ++ (segmentsOf (shownCells st b)).flatMap Segment.bytes ++
      ((shownCells st b).filterMap (fun c => if c.kind = .audio then c.value else none)).flatMap sampleBytes := by
  have length : (shownCells st b).length = b.cells.length := by rw [shownCells_eq, List.length_map]
  rw [trackPayload, flatMap_audioBytes fun c => shownCells_audio valued, length]

/-- Settles O9: joining keeps the sums and the alternation, a fold keeps the first 15 segments, and an entry's cells are those of its
offsets. -/
theorem segmentsCoverTheBlock : Obligations.SegmentsCoverTheBlock := by
  refine ⟨fun cells => ?_, fun s m ts gb => ?_, ?_⟩
  · exact ⟨length_foldCells cells, (segmentSum_segmentsOf _).trans (length_foldCells cells), segmentsOf_alternate _,
      length_segmentsOf_foldCells cells, foldCells_of_le, foldCells_of_lt⟩
  · exact ⟨buildEntries_tracks s m ts gb, fun b => eq_trackEntry_of_mem_buildEntries s m ts gb⟩
  · intro s m ts gb k e z d b timed
    have cause : b.cause = entryCause z.state (timingOf ts e.station) := trackEntry_cause s m ts gb k rfl
    refine ⟨trackEntry_fields s m ts gb k rfl, fun test => cause.trans (by rw [test]; rfl),
      fun off => cause.trans (entryCause_noStation _ off), fun untimed => cause.trans (entryCause_timing untimed),
      trackEntry_empty s m ts gb k, fun x state timing => ?_, fun st => ?_⟩
    · have entry : b = buildEntry k e .none d (timedCells s gb e d x) := trackEntry_timed s m ts gb k rfl state timing
      refine ⟨congrArg TrackBuild.cause entry, timedCells s gb e d x, length_timedCells s gb e d x,
        congrArg TrackBuild.cells entry, ?_, fun withheld c hc => ?_, ?_⟩
      · rw [entry]
        exact needsFold_iff _
      · rw [withheld] at hc
        exact List.eq_of_mem_replicate hc
      · intro recorded o ho c unprivileged
        have cell := getElem?_timedCells s gb e recorded ho
        have plain (h : unprivileged) : privilegedCell (privilegeOf s gb e) o = none :=
          privilegedCell_privilegeOf_eq_none h
        refine ⟨fun g group permit => ?_, fun h unheld => ?_, fun h f held covers alone => ?_⟩
        · have privilege := privilegeOf_eq_some s gb group permit
          have privileged {y : Cell} (h : privilegedCell (some gb[g]) o = some y) :
              (timedCells s gb e d x)[o]? = some y :=
            cell.trans (congrArg some (cellAt_privileged (by rw [trackSource, privilege, h])))
          exact ⟨fun forced => privileged (privilegedCell_forced o forced),
            fun unforced inside => privileged (privilegedCell_inside unforced inside)⟩
        · have lost := cell.trans (congrArg some (cellAt_unheld (plain h) (frameHolding_eq_none unheld)))
          exact ⟨fun overrun => lost.trans (congrArg some (lostAt_overrun overrun)),
            fun missing => lost.trans (congrArg some (lostAt_missing missing))⟩
        · exact cell.trans (congrArg some (cellAt_held (plain h) (frameHolding_eq_some held covers alone)))
    · obtain ⟨track, station, channel, -⟩ := trackEntry_fields s m ts gb k (e := e) rfl
      have payload := trackPayload_eq st (trackEntry_valued s m ts gb k)
      rw [track, station, channel, shownCells_eq] at payload
      exact payload

end Sys2Proof.Machine
end

section
/-! PROOFS. A write of the Device Configuration: what it is refused for, and what an accepted one does to D and to the forwarding
queues (R91, R155, R159, R165, R181). -/

namespace Sys2Proof.Machine

variable {s : State}

/-! ## The entry as read (R165, R181) -/

/-- The table has one entry, so a write names it whole or is out of range (R171). -/
theorem rangeOk_deviceConfig_iff (p : List Byte) :
    rangeOk .deviceConfig (pFirst p) (pCount p) = true ↔ fieldAt p 5 1 = 0 ∧ fieldAt p 6 1 = 1 := by
  change (decide (0 < fieldAt p 6 1) && decide (fieldAt p 5 1 + fieldAt p 6 1 ≤ 1)) = true ↔ _
  rw [Bool.and_eq_true, decide_eq_true_iff, decide_eq_true_iff]
  omega

/-- A field within a slice of the bytes is the field of the bytes at the slice's start more. -/
theorem fieldAt_slice (bs : List Byte) {start size off k : Nat} (inside : off + k ≤ size) :
    fieldAt ((bs.drop start).take size) off k = fieldAt bs (start + off) k := by
  unfold fieldAt
  rw [List.drop_take, List.take_take, List.drop_drop, Nat.min_eq_left (Nat.le_sub_of_add_le' inside)]

theorem portRoleOf_none {n : Nat} (h : 1 < n) : portRoleOf n = none := by
  obtain ⟨m, rfl⟩ := Nat.exists_eq_add_of_le' h
  rfl

/-- An entry out of range is not read. -/
theorem readDeviceConfig_none (c : DeviceConfig) {bs : List Byte}
    (bad : fieldAt bs 12 2 < 0x600 ∨ 1 < fieldAt bs 14 1 ∨ (macAt bs 16).getLsbD 40 = true ∨ 2 ^ 20 ≤ fieldAt bs 24 4) :
    readDeviceConfig c bs = none := by
  unfold readDeviceConfig
  rcases bad with etherType | role | group | mask
  · split
    · rfl
    · exact if_pos (.inl etherType)
  · rw [portRoleOf_none role]
  · split
    · rfl
    · exact if_pos (.inr (.inl group))
  · split
    · rfl
    · exact if_pos (.inr (.inr mask))

/-- An entry that is read keeps both addresses, and its close delay is clamped. -/
theorem readDeviceConfig_kept {c d : DeviceConfig} {bs : List Byte} (read : readDeviceConfig c bs = some d) :
    d.ownAddress = c.ownAddress ∧ d.controller = c.controller ∧ d.closeDelay = min (max (fieldAt bs 15 1) 1) 8 := by
  unfold readDeviceConfig at read
  split at read
  · cases read
  · split at read
    · cases read
    · cases read
      exact ⟨rfl, rfl, rfl⟩

/-! ## The write (R155, R165) -/

theorem answerWriteConfig_refused {p : List Byte}
    (bad : ¬ (fieldAt p 5 1 = 0 ∧ fieldAt p 6 1 = 1) ∨ readDeviceConfig s.config (entrySlice p 28 0) = none) :
    answerWriteConfig p s = refuse .range s := by
  unfold answerWriteConfig
  split
  · rfl
  · next range =>
    rcases bad with elsewhere | unread
    · exact absurd ((rangeOk_deviceConfig_iff p).mp (Bool.not_eq_false _ ▸ range)) elsewhere
    · rw [unread]

theorem answerWriteConfig_accepted {p : List Byte} {c : DeviceConfig}
    (whole : fieldAt p 5 1 = 0 ∧ fieldAt p 6 1 = 1) (read : readDeviceConfig s.config (entrySlice p 28 0) = some c) :
    answerWriteConfig p s = accept (writeConfig c s) := by
  unfold answerWriteConfig
  rw [if_neg (by simp [(rangeOk_deviceConfig_iff p).mpr whole]), read]

/-- Every field of a configuration in effect, its close delay loaded into D, before the change of role acts (R91, R165). -/
def loadConfig (c : DeviceConfig) (s : State) : State :=
  { s with config := c, assembler := { s.assembler with closeDelay := c.closeDelay } }

theorem writeConfig_stays {c : DeviceConfig} (h : ¬ (s.config.role = .inlineRole ∧ c.role = .terminalRole)) :
    writeConfig c s = loadConfig c s := if_neg h

theorem writeConfig_terminal {c : DeviceConfig} (h : s.config.role = .inlineRole) (k : c.role = .terminalRole) :
    writeConfig c s = emptyForwarding (loadConfig c s) := if_pos ⟨h, k⟩

/-- Emptied forwarding queues leave nothing that could go waiting. -/
theorem emptyForwarding_settled (h : s.Settled) : (emptyForwarding s).Settled := by
  obtain ⟨sender, portA, portB⟩ := h
  refine ⟨sender, fun ready => ?_, fun ready => ?_⟩
  · obtain ⟨control, monitor, -⟩ := portA (by simpa [portReady, State.port, emptyForwarding] using ready)
    exact ⟨control, monitor, rfl⟩
  · obtain ⟨management, monitor, offered, -⟩ := portB (by simpa [portReady, State.port, emptyForwarding] using ready)
    exact ⟨management, monitor, offered, rfl⟩

/-- The one frame of a forwarding queue that is in transmission, if any. -/
def forwardedInFlight : Option InTransmission → Nat
  | some x => if x.origin = .forwarded then 1 else 0
  | none => 0

/-- A change to TERMINAL discards all of a forwarding queue but the frame in transmission (log entry 52). -/
theorem discarded_eq (q : List Frame) (x : Option InTransmission) : discarded q x = q.length - forwardedInFlight x := by
  cases x with
  | none => rfl
  | some y =>
    simp only [discarded, forwardedInFlight]
    split <;> rfl

/-- A REPLY placed in a settled state is on its way, and of the state only port B's status and the management transmit queue with its
hold change (R162). -/
theorem withReply_spec (a : AfterReply) (f : Frame) (s : State) : Replied a f (withReply a f s) ∧ ∃ b m h,
    withReply a f s = { s with ports := { s.ports with b := b, management := m, repliesFull := h } } := by
  unfold withReply
  split
  · exact ⟨.inl rfl, _, _, _, rfl⟩
  · exact ⟨.inr (by simp), _, _, _, rfl⟩

/-- Settles O49: the handler refuses what R165 names, and an accepted write is the model's `writeConfig`, by the change of role. -/
theorem configWriteLoadsDelay : Obligations.ConfigWriteLoadsDelay := by
  intro s r rest settled serving entry whole inFlight
  refine ⟨fun bad => congrArg _ (serve_refused settled serving (answerWriteConfig_refused ?_)), fun c named read => ?_⟩
  · exact bad.imp_right fun bytes => readDeviceConfig_none _ bytes
  · obtain ⟨own, controller, delay⟩ := readDeviceConfig_kept read
    have answer := answerWriteConfig_accepted (s := dequeued s rest) named read
    have loaded : (loadConfig c (dequeued s rest)).Settled := dequeued_settled s rest settled
    refine ⟨own, controller, by rw [delay, fieldAt_slice _ (by decide)], fun stays => ?_, fun inline terminal => ?_⟩
    · rw [writeConfig_stays (s := dequeued s rest) stays] at answer
      exact congrArg Host.Outcome.next (serve_accepted serving answer loaded)
    · rw [writeConfig_terminal (s := dequeued s rest) inline terminal] at answer
      obtain ⟨replied, b, m, h, frame⟩ := withReply_spec .nothing (replyTo c r .ok [])
        (emptyForwarding (loadConfig c (dequeued s rest)))
      have run := (serve_accepted serving answer (emptyForwarding_settled loaded)).trans frame
      rw [frame] at replied
      exact ⟨_, congrArg Host.Outcome.next run, rfl, rfl, rfl, rfl, replied,
        congrArg (satAdd 65535 s.ports.dropAB) (discarded_eq s.ports.forwardAB s.ports.b.transmitting),
        congrArg (satAdd 65535 s.ports.dropBA) (discarded_eq s.ports.forwardBA s.ports.a.transmitting)⟩

end Sys2Proof.Machine
end

section
/-! PROOFS. What the sender does with a stream and its head record, and the grant that releases one (R108, R109, R121 to R124). -/

namespace Sys2Proof.Machine

variable {s : State}

/-! ## Streams under the sender and the stall timer -/

/-- The stall timer and its report are all that follow the starved condition (R125). -/
theorem followStall_frame (x : StreamState) :
    ∃ n b, x.followStall = { x with stallTimer := n, stallReported := b } := by
  unfold StreamState.followStall
  split
  · split
    · exact ⟨_, _, rfl⟩
    · exact ⟨_, _, rfl⟩
  · exact ⟨_, _, rfl⟩

/-- The arbiters leave Record Output to the sender (R160). -/
theorem settle_output (s : State) : (settle s).output = (runSender s).output := by
  obtain ⟨p, w, portA⟩ := arbiterA_spec (runSender s)
  obtain ⟨p', w', portB⟩ := arbiterB_spec (arbiterA (runSender s))
  unfold settle
  rw [portB, portA]

theorem runSender_sending {x : Sending} (h : s.output.sending = some x) : runSender s = s := by
  unfold runSender
  rw [h]

/-- A free sender takes the head record of the one stream that is eligible (R123). -/
theorem runSender_takes {st : Stream} {q : QueuedRecord} {rest : List QueuedRecord} (free : s.output.sending = none)
    (head : (s.stream st).fifo = q :: rest) (eligible : (s.stream st).eligible = true)
    (other : (s.stream (otherStream st)).eligible = false) : runSender s = takeRecord st q s := by
  have chosen : senderChoice s.output = some st := by
    unfold State.stream at eligible other
    unfold senderChoice
    by_cases turn : s.output.turn = st
    · rw [turn, if_pos eligible]
    · have later : s.output.turn = otherStream st := by
        revert turn
        cases s.output.turn <;> cases st <;> simp [otherStream]
      rw [later, if_neg (by simp [other]), otherStream_otherStream, if_pos eligible]
  unfold runSender
  rw [free, chosen]
  simp only [head, List.head?_cons]

/-- The record taken from a stream: it is being sent, the turn passes on, and the other stream stands (R123). -/
theorem takeRecord_stream (st : Stream) (q : QueuedRecord) (s : State) :
    (takeRecord st q s).stream st = ((s.stream st).take q).followStall ∧
    (takeRecord st q s).stream (otherStream st) = s.stream (otherStream st) ∧
    (takeRecord st q s).output.turn = otherStream st ∧
    (takeRecord st q s).output.sending = some { stream := st, frames := recordFrames s st q.record } := by
  cases st <;> exact ⟨rfl, rfl, rfl, rfl⟩

/-- The frames of a block or run record hold nothing of its stream but the destination and the sequence (R123, R124). -/
theorem recordFrames_congr {t : State} {st : Stream} {r : Record} {c : BitVec 32} (checked : r.check = some c)
    (config : t.config = s.config) (entry : (t.stream st).entry = (s.stream st).entry)
    (sequence : (t.stream st).sequence = (s.stream st).sequence) : recordFrames t st r = recordFrames s st r := by
  have frame : ownFrame t = ownFrame s := by
    funext dst kind payload
    simp only [ownFrame, config]
  cases r with
  | block b => simp only [recordFrames, frame, entry, sequence]
  | run b => simp only [recordFrames, frame, entry, sequence]
  | close => cases checked

/-! ## The grant (R121 to R123) -/

theorem satAdd_eq_min (limit n k : Nat) : satAdd limit n k = min limit (n + k) := by
  unfold satAdd
  split <;> omega

@[simp] theorem streamOf_streamCode (st : Stream) : streamOf (streamCode st) = some st := by
  cases st <;> rfl

/-- A grant that a stream takes adds to its credit, and its stall timer follows (R121, R122). -/
theorem exec_credit_granted {f : Frame} {st : Stream} {g : Nat} (arrives : ArrivesAwake s f .credit)
    (formed : wellFormed f.body 4 = true) (named : fieldAt (payloadOf f.body) 0 1 = streamCode st)
    (grant : fieldAt (payloadOf f.body) 1 1 = g) (some_granted : 0 < g) (busy : s.proceeding.state ≠ .idle)
    (part : (s.stream st).takesPart = true) (source : f.src = (s.stream st).entry.destination) :
    exec (.credit f) s = .next (settle (modStream st (fun x => (x.addCredit g).followStall) s)) := by
  obtain ⟨arrives, awake⟩ := arrives
  have woken : wakeByFrame f s = s := if_pos awake
  have taken : takeCredit f s = creditStream st f s := by
    unfold takeCredit
    rw [if_neg (by simp [formed]), named, streamOf_streamCode]
  have granted : creditStream st f s = modStream st (fun x => (x.addCredit g).followStall) s := by
    unfold creditStream grantCredit
    rw [if_neg busy, if_pos (by simp [part, source]), grant, if_neg (by omega)]
  change Host.Outcome.next (if arrivesAs s .B f .credit then settle (takeCredit f (wakeByFrame f s)) else s) = _
  rw [if_pos arrives, woken, taken, granted]

/-- Settles O39: the grant makes the stream eligible, the other one is not, and the sender takes the head record. -/
theorem grantReleasesRecord : Obligations.GrantReleasesRecord := by
  intro s f st g q rest c settled arrives formed named grant some_granted busy part source free head stored credit checked
  obtain ⟨n, b, granted⟩ := followStall_frame ((s.stream st).addCredit g)
  have run := exec_credit_granted arrives formed named grant some_granted busy part source
  have self := modStream_stream_self s st (fun x => (x.addCredit g).followStall)
  have other := modStream_stream_other s st (fun x => (x.addCredit g).followStall)
  have sending := modStream_sending s st (fun x => (x.addCredit g).followStall)
  have config := modStream_config s st (fun x => (x.addCredit g).followStall)
  generalize modStream st (fun x => (x.addCredit g).followStall) s = u at run self other sending config
  rw [granted] at self
  have funds : (u.stream st).credit = min 255 g := by
    rw [self]
    refine (congrArg (satAdd creditLimit · g) credit).trans ?_
    rw [satAdd_eq_min, Nat.zero_add]
    rfl
  have fifo : (u.stream st).fifo = q :: rest := by rw [self]; exact head
  have eligible : (u.stream st).eligible = true := by
    unfold StreamState.eligible
    rw [fifo, funds]
    simp [some_granted]
  have waiting : (s.stream (otherStream st)).eligible = false := by
    obtain ⟨openS, sealedS⟩ := settled.1 free
    cases st
    · exact sealedS
    · exact openS
  have taken := runSender_takes (sending.trans free) fifo eligible (by rw [other]; exact waiting)
  obtain ⟨after, kept, turn, sent⟩ := takeRecord_stream st q u
  obtain ⟨n', b', spent⟩ := followStall_frame ((u.stream st).take q)
  have output : (settle u).output = (takeRecord st q u).output := by rw [settle_output, taken]
  have stream (x : Stream) : (settle u).stream x = (takeRecord st q u).stream x := congrArg (·.stream x) output
  refine ⟨settle u, run, ⟨_, by rw [output, sent], rfl, ?_⟩, by rw [output, turn], ?_⟩
  · exact recordFrames_congr checked config (by rw [self]; rfl) (by rw [self]; rfl)
  · rw [stream, stream, after, kept, spent, other]
    refine ⟨by rw [self]; rfl, ?_, ?_, by rw [self]; rfl, rfl⟩
    · simp only [StreamState.take, checked]
      rw [self]
      rfl
    · simp only [StreamState.take, stored, if_true, funds]

end Sys2Proof.Machine
end

section
/-! PROOFS. The part's reflected CRC-32 is the register of R187 in the manual's words. -/

namespace Sys2Proof.Machine

/-! ## Bits reflected -/

theorem foldl_reflect_getLsbD (r : BitVec 32) (n i : Nat) (hn : n ≤ 32) :
    ((List.range n).foldl (fun (acc : BitVec 32) i => (acc <<< 1) ||| (if r.getLsbD i then 1 else 0)) 0).getLsbD i =
      (decide (i < n) && r.getLsbD (n - 1 - i)) := by
  induction n generalizing i with
  | zero => simp
  | succ n ih =>
    have bit : (if r.getLsbD n then (1 : BitVec 32) else 0).getLsbD i = (decide (i = 0) && r.getLsbD n) := by
      cases r.getLsbD n <;> simp [BitVec.getLsbD_one]
    rw [List.range_succ, List.foldl_append, List.foldl_cons, List.foldl_nil, BitVec.getLsbD_or, BitVec.getLsbD_shiftLeft,
      ih _ (by omega), bit]
    cases i with
    | zero => simp
    | succ i =>
      have index : n - (i + 1) = n - 1 - i := by omega
      by_cases inside : i < n
      · simp [inside, index, show i + 1 < 32 by omega]
      · simp [inside]

/-- Bit i of a reflected register is its bit 31 − i. -/
theorem reflect_getLsbD (r : BitVec 32) {i : Nat} (h : i < 32) : (reflect r).getLsbD i = r.getLsbD (31 - i) := by
  rw [reflect, foldl_reflect_getLsbD r 32 i le_rfl]
  simp [h]

theorem reflect_xor (a b : BitVec 32) : reflect (a ^^^ b) = reflect a ^^^ reflect b := by
  refine BitVec.eq_of_getLsbD_eq fun i hi => ?_
  rw [BitVec.getLsbD_xor, reflect_getLsbD _ hi, reflect_getLsbD _ hi, reflect_getLsbD _ hi, BitVec.getLsbD_xor]

/-- A shift toward the most significant bit is one toward the least significant bit of the reflected register. -/
theorem reflect_shiftLeft (a : BitVec 32) : reflect (a <<< 1) = reflect a >>> 1 := by
  refine BitVec.eq_of_getLsbD_eq fun i hi => ?_
  rw [reflect_getLsbD _ hi, BitVec.getLsbD_shiftLeft, BitVec.getLsbD_ushiftRight]
  by_cases last : i = 31
  · subst last
    simp
  · rw [reflect_getLsbD _ (by omega)]
    have index : 31 - i - 1 = 31 - (1 + i) := by omega
    simp [index, show ¬ 31 - i < 1 by omega, show 31 - i < 32 by omega]

/-! ## One bit and one byte (R187) -/

/-- One bit entering the reflected register. -/
def reflectedStep (r : BitVec 32) (b : Bool) : BitVec 32 := crcShift (r ^^^ (if b then 1 else 0))

/-- The division step of R187 on the reflected register. -/
theorem reflect_divideStep (r : BitVec 32) (b : Bool) : reflect (divideStep r b) = reflectedStep (reflect r) b := by
  have low : (reflect r).getLsbD 0 = r.getLsbD 31 := reflect_getLsbD r (by decide)
  have shifted : (reflect r ^^^ (if b then 1 else 0)) >>> 1 = reflect r >>> 1 := by
    cases b
    · simp
    · rw [BitVec.ushiftRight_xor_distrib]
      simp
  have entering : (reflect r ^^^ (if b then 1 else 0)).getLsbD 0 = (r.getLsbD 31 != b) := by
    rw [BitVec.getLsbD_xor, low]
    cases b <;> simp
  have polynomial : reflect 0x04C11DB7 = crcPolynomial := by decide
  unfold divideStep reflectedStep crcShift
  rw [entering, shifted]
  split
  · rw [reflect_xor, reflect_shiftLeft, polynomial]
  · exact reflect_shiftLeft r

/-- Bits above the lowest only move down as the register shifts. -/
theorem crcShift_xor (r z : BitVec 32) (h : z.getLsbD 0 = false) : crcShift (r ^^^ z) = crcShift r ^^^ (z >>> 1) := by
  unfold crcShift
  rw [BitVec.getLsbD_xor, h, Bool.xor_false, BitVec.ushiftRight_xor_distrib]
  split
  · rw [BitVec.xor_assoc, BitVec.xor_comm (z >>> 1), BitVec.xor_assoc]
  · rfl

/-- Bits entered together and shifted in are bits entered one by one, the lowest first. -/
theorem crcShift_iterate (n : Nat) (r z : BitVec 32) (short : ∀ i, n ≤ i → z.getLsbD i = false) :
    crcShift^[n] (r ^^^ z) = ((List.range n).map z.getLsbD).foldl reflectedStep r := by
  induction n generalizing r z with
  | zero =>
    have zero : z = 0 := BitVec.eq_of_getLsbD_eq fun i _ => by simp [short i (Nat.zero_le i)]
    simp [zero]
  | succ n ih =>
    have parts : r ^^^ z = (r ^^^ (if z.getLsbD 0 then 1 else 0)) ^^^ (z ^^^ (if z.getLsbD 0 then 1 else 0)) := by
      rw [BitVec.xor_assoc, BitVec.xor_comm z, ← BitVec.xor_assoc _ _ z]
      simp
    have high : (z ^^^ (if z.getLsbD 0 then 1 else 0)).getLsbD 0 = false := by
      rw [BitVec.getLsbD_xor]
      cases z.getLsbD 0 <;> simp
    have moved : (z ^^^ (if z.getLsbD 0 then 1 else 0)) >>> 1 = z >>> 1 := by
      rw [BitVec.ushiftRight_xor_distrib]
      cases z.getLsbD 0 <;> simp
    have later : (z >>> 1).getLsbD = z.getLsbD ∘ Nat.succ := by
      funext i
      rw [BitVec.getLsbD_ushiftRight, Function.comp_apply, Nat.succ_eq_one_add]
    rw [Function.iterate_succ_apply, parts, crcShift_xor _ _ high, moved, ih _ _ fun i hi => by
      rw [BitVec.getLsbD_ushiftRight]; exact short _ (by omega), List.range_succ_eq_map, List.map_cons, List.map_map,
      List.foldl_cons, later]
    rfl

/-- A byte enters the register as its bits do, the lowest first. -/
theorem crcByte_eq (r : BitVec 32) (b : Byte) : crcByte r b = (bitsLowFirst b).foldl reflectedStep r := by
  have bits : bitsLowFirst b = (List.range 8).map (b.setWidth 32).getLsbD := by
    refine List.map_congr_left fun i hi => ?_
    have := List.mem_range.mp hi
    simp [show i < 32 by omega]
  rw [bits, ← crcShift_iterate 8 r (b.setWidth 32) fun i hi => by simp [BitVec.getLsbD_setWidth, BitVec.getLsbD_of_ge b i hi]]
  rfl

/-- The part's CRC-32 is the manual's (R187). -/
theorem crc32_eq_manualCrc (bs : List Byte) : crc32 bs = manualCrc bs := by
  have start : reflect 0xFFFFFFFF = 0xFFFFFFFF := by decide
  have reflected (l : List Bool) (r : BitVec 32) : reflect (l.foldl divideStep r) = l.foldl reflectedStep (reflect r) := by
    induction l generalizing r with
    | nil => rfl
    | cons b l ih => rw [List.foldl_cons, ih, reflect_divideStep, List.foldl_cons]
  unfold crc32 manualCrc
  rw [reflected, start, List.foldl_flatMap]
  exact congrArg (fun f => bs.foldl f 0xFFFFFFFF ^^^ 0xFFFFFFFF) (funext₂ crcByte_eq)

end Sys2Proof.Machine
end

section
/-! PROOFS. The records of a block close: their summaries and checks, the SEALED record, and the WITHHELD run (R95, R100 to R107,
R183, R184). -/

namespace Sys2Proof.Machine

variable {s : State} {k : BlockNo} {m : CourtMode} {gb : Vector GroupBlock 8} {l : List TrackBuild}

/-! ## Lengths of fields (R181) -/

@[simp] theorem length_beBytes (k n : Nat) : (beBytes k n).length = k := by
  induction k with
  | zero => rfl
  | succ k ih => rw [beBytes, List.length_cons, ih]

@[simp] theorem length_wordBytes (w : BitVec 32) : (wordBytes w).length = 4 := rfl
@[simp] theorem length_half (n : Nat) : (half n).length = 2 := rfl
@[simp] theorem length_byte (n : Nat) : (byte n).length = 1 := rfl
@[simp] theorem length_zeros (n : Nat) : (zeros n).length = n := List.length_replicate
@[simp] theorem length_recordTime (t : RecordTime) : t.bytes.length = 5 := rfl

/-- A field between what stands before and after it. -/
theorem take_drop_field {a b : List Byte} {n w : Nat} (c : List Byte) (before : a.length = n) (field : b.length = w) :
    ((a ++ (b ++ c)).drop n).take w = b := by
  rw [List.drop_left' before, List.take_left' field]

/-! ## Summaries (R95, R100 to R103, R183) -/

theorem length_itemBytes (items : List SummaryItem) : (items.flatMap SummaryItem.bytes).length = 4 * items.length := by
  induction items with
  | nil => rfl
  | cons x items ih =>
    rw [List.flatMap_cons, List.length_append, ih, List.length_cons]
    have four : x.bytes.length = 4 := rfl
    omega

/-- The 28 bytes of a summary before its check. -/
def BlockRecord.head (r : BlockRecord) (sequence : BitVec 32) : List Byte :=
  beBytes 8 r.proceeding.toNat ++ wordBytes sequence ++ wordBytes r.block ++ byte (streamCode r.stream)
    ++ byte r.mode.code ++ byte r.quality.code
    ++ byte ((if r.first then 1 else 0) + (if r.last then 2 else 0) + (if r.lateConfer then 4 else 0))
    ++ r.time.bytes ++ zeros 1 ++ half r.mapGeneration.toNat

theorem summaryPayload_eq (r : BlockRecord) (sequence : BitVec 32) : r.summaryPayload sequence =
    r.head sequence ++ (wordBytes r.check ++ (byte r.items.length ++ zeros 3 ++ r.items.flatMap SummaryItem.bytes)) := by
  simp only [BlockRecord.summaryPayload, BlockRecord.head, List.append_assoc]

theorem length_head (r : BlockRecord) (sequence : BitVec 32) : (r.head sequence).length = 28 := by
  simp [BlockRecord.head]

/-- The check stands at offset 28 of a summary (R183). -/
theorem summaryPayload_check (r : BlockRecord) (sequence : BitVec 32) :
    ((r.summaryPayload sequence).drop 28).take 4 = wordBytes r.check := by
  rw [summaryPayload_eq]
  exact take_drop_field _ (length_head r sequence) rfl

theorem length_summaryPayload (r : BlockRecord) (sequence : BitVec 32) :
    (r.summaryPayload sequence).length = 36 + 4 * r.items.length := by
  rw [summaryPayload_eq]
  simp only [List.length_append, length_head, length_itemBytes, length_wordBytes, length_byte, length_zeros]
  omega

theorem qualityOf_holdover_iff : qualityOf s k = .holdover ↔
    ∃ e ∈ s.assembler.kinds, (e.block = k ∨ e.block = k + 1) ∧ e.kind = .synthesised := by
  have any : (s.assembler.kinds.any fun e => (e.block == k || e.block == k + 1) && e.kind == .synthesised) = true ↔
      ∃ e ∈ s.assembler.kinds, (e.block = k ∨ e.block = k + 1) ∧ e.kind = .synthesised := by
    simp
  rw [← any]
  unfold qualityOf
  split <;> simp_all

/-- A late toggle could act on a track's samples (R103). -/
theorem lateMarks_iff {b : TrackBuild} : lateMarks s gb b = true ↔ ∃ g : Fin 8, b.group.val = g.val + 1 ∧ gb[g].late = true ∧
    b.cells ≠ [] ∧ s.tables.active.permit[b.role.column] = true ∧ b.disposition ≠ .withheldD := by
  have small : b.group.val - 1 < 8 := by omega
  have found : finOf? 8 (b.group.val - 1) = some ⟨b.group.val - 1, small⟩ := dif_pos small
  unfold lateMarks
  rw [found]
  simp only [Bool.and_eq_true, decide_eq_true_iff, bne_iff_ne, ne_eq, List.length_eq_zero_iff]
  constructor
  · rintro ⟨⟨⟨⟨grouped, late⟩, held⟩, permit⟩, carried⟩
    exact ⟨_, (Nat.succ_pred_eq_of_ne_zero grouped).symm, late, held, permit, carried⟩
  · rintro ⟨g, group, late, held, permit, carried⟩
    have same : (⟨b.group.val - 1, small⟩ : Fin 8) = g := Fin.ext (by simp [group])
    rw [same]
    exact ⟨⟨⟨⟨by omega, late⟩, held⟩, permit⟩, carried⟩

theorem item_eq (b : TrackBuild) : b.item = {
    track := b.track, n := b.cells.length, cause := b.cause, disposition := b.disposition
    privileged := decide (∃ c ∈ b.cells, c.kind = .privileged)
    lost := decide (∃ c ∈ b.cells, c.kind = .lost)
    folded := b.folded } := by
  have any (x : SegKind) : (b.cells.any fun c => c.kind == x) = decide (∃ c ∈ b.cells, c.kind = x) := by
    rw [Bool.eq_iff_iff]
    simp
  rw [TrackBuild.item, any, any]

/-! ## The SEALED record (R102) -/

theorem sealedEntries_eq (l : List TrackBuild) : sealedEntries l = l.filter fun b => decide (b.disposition = .sealedD) := rfl

theorem sealedRecords_none (h : s.output.sealedS.takesPart = false ∨ ∀ b ∈ l, b.disposition ≠ .sealedD) :
    sealedRecords s k m gb l = [] := by
  refine if_pos (h.imp_right fun unsealed => ?_)
  rw [List.isEmpty_iff, sealedEntries_eq, List.filter_eq_nil_iff]
  exact fun b hb => by simp [unsealed b hb]

theorem sealedRecords_one (part : s.output.sealedS.takesPart = true) (h : ∃ b ∈ l, b.disposition = .sealedD) :
    sealedRecords s k m gb l = [.block (blockRecord s k m gb .sealedS (sealedEntries l))] := by
  obtain ⟨b, hb, seals⟩ := h
  have listed : b ∈ sealedEntries l := List.mem_filter.mpr ⟨hb, by simp [seals]⟩
  refine if_neg ?_
  rintro (out | empty)
  · rw [part] at out
    cases out
  · rw [List.isEmpty_iff.mp empty] at listed
    cases listed

/-! ## RUN payloads (R107, R183) -/

/-- A RUN payload's fields at their offsets: the proceeding, the sequence, the fields under the check, and the check. -/
theorem runPayload_fields (id : BitVec 64) (st : Stream) (c : RunCause) (x : RunRegister) (sequence : BitVec 32) :
    ((buildRun id st c x).payload sequence).length = 40 ∧
    ((buildRun id st c x).payload sequence).take 8 = beBytes 8 id.toNat ∧
    (((buildRun id st c x).payload sequence).drop 8).take 4 = wordBytes sequence ∧
    (((buildRun id st c x).payload sequence).drop 12).take 24 = runFields st c x ∧
    (((buildRun id st c x).payload sequence).drop 36).take 4 = wordBytes (runCheck id st c x) := by
  have parts : (buildRun id st c x).payload sequence =
      beBytes 8 id.toNat ++ (wordBytes sequence ++ (runFields st c x ++ wordBytes (runCheck id st c x))) := by
    simp only [RunRecord.payload, buildRun, List.append_assoc]
  have fields : (runFields st c x).length = 24 := rfl
  rw [parts]
  refine ⟨by simp [fields], List.take_left' (length_beBytes 8 _), take_drop_field _ (length_beBytes 8 _) rfl, ?_, ?_⟩
  · rw [← List.append_assoc]
    exact take_drop_field _ (by simp) fields
  · rw [← List.append_assoc, ← List.append_assoc, ← List.append_nil (wordBytes (runCheck id st c x))]
    exact take_drop_field [] (by simp [fields]) rfl

/-! ## The WITHHELD run (R105, R106) -/

theorem qualifies_iff : qualifies s k l = true ↔ s.proceeding.first ≠ some k ∧ s.proceeding.last ≠ some k ∧ l ≠ [] ∧
    (∀ b ∈ l, b.disposition = .withheldD) ∧ s.output.openS.takesPart = true := by
  simp [qualifies, and_assoc]

/-- A WITHHELD run as the OPEN stream is handed it (R106, R107). -/
def withheldRun (s : State) (r : RunRegister) : Record := .run (buildRun s.proceeding.id .openS .withheld r)

/-- The close of a block that does not qualify hands on the run held and then the block's record (R106, R110). -/
theorem openRecords_recorded (part : s.output.openS.takesPart = true) (h : qualifies s k l = false) :
    openRecords s k m gb l = (none, s.assembler.run.toList.map (withheldRun s) ++ [.block (blockRecord s k m gb .openS l)]) := by
  unfold openRecords
  rw [if_neg (by simp [part]), if_neg (by simp [h])]
  rfl

/-- The close of a block that qualifies joins it to the run register (R106). -/
theorem openRecords_joined (h : qualifies s k l = true) : openRecords s k m gb l =
    ((joinRun s.assembler.run (runOfBlock s k m)).1,
      (joinRun s.assembler.run (runOfBlock s k m)).2.map (withheldRun s)) := by
  obtain ⟨-, -, -, -, part⟩ := qualifies_iff.mp h
  unfold openRecords
  rw [if_neg (by simp [part]), if_pos h]
  rfl

section
variable {new r : RunRegister}

theorem joinRun_none (short : new.span < 12000) : joinRun none new = (some new, []) :=
  if_neg (Nat.not_le.mpr short)

/-- A change of mode or map generation hands on the run and starts another (R106). -/
theorem joinRun_changed (short : new.span < 12000) (h : r.mode ≠ new.mode ∨ r.mapGeneration ≠ new.mapGeneration) :
    joinRun (some r) new = (some new, [r]) := by
  have differs : ¬ (r.mode = new.mode ∧ r.mapGeneration = new.mapGeneration) := by tauto
  unfold joinRun
  simp only
  rw [if_neg differs]
  exact if_neg (Nat.not_le.mpr short)

/-- Within one mode and map generation the run grows by the block (R106). -/
theorem joinRun_grows (h : r.mode = new.mode ∧ r.mapGeneration = new.mapGeneration)
    (short : (r.extend new.last new.quality).span < 12000) :
    joinRun (some r) new = (some (r.extend new.last new.quality), []) := by
  unfold joinRun
  simp only
  rw [if_pos h]
  exact if_neg (Nat.not_le.mpr short)

/-- A run that has grown to 12,000 blocks is handed on (R106). -/
theorem joinRun_full (h : r.mode = new.mode ∧ r.mapGeneration = new.mapGeneration)
    (long : 12000 ≤ (r.extend new.last new.quality).span) :
    joinRun (some r) new = (none, [r.extend new.last new.quality]) := by
  unfold joinRun
  simp only
  rw [if_pos h]
  exact if_pos long

end

theorem span_runOfBlock (s : State) (k : BlockNo) (m : CourtMode) : (runOfBlock s k m).span = 1 := by
  simp [RunRegister.span, runOfBlock]

/-- Settles O10: the fields and checks of the payloads, the SEALED record, and the run register at a block close. -/
theorem recordChecksCoverPayloads : Obligations.RecordChecksCoverPayloads := by
  refine ⟨fun s k m gb st l seq => ?_, fun s k m gb l => ⟨sealedRecords_none, sealedRecords_one⟩,
    fun id st c x seq => ?_, fun s k m gb l => ⟨qualifies_iff, openRecords_recorded, fun joins => ⟨fun idle => ?_, ?_, ?_⟩⟩⟩
  · refine ⟨rfl, crc32_eq_manualCrc _, ?_, summaryPayload_check _ _, ?_, rfl, ⟨rfl, rfl, rfl, rfl, rfl⟩, beq_iff_eq, beq_iff_eq,
      qualityOf_holdover_iff, ?_, ?_⟩
    · rintro rfl
      exact (by decide : crc32 [] = 0)
    · rw [length_summaryPayload]
      simp [blockRecord]
    · exact List.any_eq_true.trans (exists_congr fun b => and_congr_right fun _ => lateMarks_iff)
    · exact List.map_congr_left fun b _ => item_eq b
  · obtain ⟨length, start, sequence, fields, check⟩ := runPayload_fields id st c x seq
    refine ⟨length, sequence, ?_⟩
    rw [check, start, fields]
    rfl
  · rw [openRecords_joined joins, idle, joinRun_none (by rw [span_runOfBlock]; decide)]
    rfl
  · intro x held differs
    rw [openRecords_joined joins, held, joinRun_changed (by rw [span_runOfBlock]; decide) differs]
    rfl
  · intro x held mode generation y
    rw [openRecords_joined joins, held]
    refine ⟨fun short => ?_, fun long => ?_⟩
    · rw [joinRun_grows (new := runOfBlock s k m) ⟨mode, generation⟩ short]
      rfl
    · rw [joinRun_full (new := runOfBlock s k m) ⟨mode, generation⟩ long]
      rfl

end Sys2Proof.Machine
end

section
/-! PROOFS. The records handed to a stream at a block close: stored in order, the start of a stall run, and what a stall run held
absorbs (R115 to R118). -/

namespace Sys2Proof.Machine

variable {s t : State} {st : Stream} {l : List Record}

/-! ## Series that a stall run covers (R117) -/

theorem covers_self (r : RunRegister) : r.Covers [r] := by
  refine ⟨r, r, rfl, rfl, rfl, rfl, rfl, rfl, rfl, ?_⟩
  simp

theorem RunRegister.Covers.absorb {r : RunRegister} {c : List RunRegister} (h : r.Covers c) (x : RunRegister) :
    (r.absorb x).Covers (c ++ [x]) := by
  obtain ⟨a, z, head, -, first, mode, generation, time, -, quality⟩ := h
  have worse : worseQuality r.quality x.quality = .holdover ↔ r.quality = .holdover ∨ x.quality = .holdover := by
    unfold worseQuality
    split <;> simp_all
  refine ⟨a, x, by simp [head], by simp, first, mode, generation, time, rfl, worse.trans ?_⟩
  rw [quality]
  simp [or_and_right, exists_or]

/-- A run that absorbs series one by one covers them all, in order. -/
theorem RunRegister.Covers.absorb_all {r : RunRegister} {c : List RunRegister} (h : r.Covers c) (xs : List RunRegister) :
    (xs.foldl RunRegister.absorb r).Covers (c ++ xs) := by
  induction xs generalizing r c with
  | nil => simpa using h
  | cons x xs ih => simpa using ih (h.absorb x)

theorem series_isSome {r : Record} (h : r ≠ .close) : ∃ x, r.series = some x := by
  cases r with
  | block b => exact ⟨_, rfl⟩
  | run b => exact ⟨_, rfl⟩
  | close => exact absurd rfl h

/-! ## Storing in order (R115, R116) -/

/-- Records in the Record Store. -/
def stored (l : List Record) : List QueuedRecord := l.map fun r => { record := r, stored := true }

/-- Records put at the tail of a stream's FIFO. -/
def StreamState.store (l : List Record) (x : StreamState) : StreamState := { x with fifo := x.fifo ++ stored l }

theorem held_store (l : List Record) (x : StreamState) : (x.store l).held = x.held + l.length := by
  have all : (stored l).filter (·.stored) = stored l := List.filter_eq_self.mpr fun q hq => by
    obtain ⟨r, -, rfl⟩ := List.mem_map.mp hq
    rfl
  rw [StreamState.held, StreamState.store, List.filter_append, List.length_append, all, stored, List.length_map]
  rfl

theorem freeSlots_store (l : List Record) (s : State) :
    (modStream st (StreamState.store l) s).output.freeSlots st = s.output.freeSlots st - l.length := by
  cases st with
  | openS =>
    change 2048 - ((s.output.openS.store l).held + s.output.sealedS.held) =
      2048 - (s.output.openS.held + s.output.sealedS.held) - l.length
    rw [held_store]
    omega
  | sealedS =>
    change min (2048 - (s.output.openS.held + (s.output.sealedS.store l).held)) (1024 - (s.output.sealedS.store l).held) =
      min (2048 - (s.output.openS.held + s.output.sealedS.held)) (1024 - s.output.sealedS.held) - l.length
    rw [held_store]
    omega

theorem modStream_id {f : StreamState → StreamState} (h : f (s.stream st) = s.stream st) : modStream st f s = s := by
  cases st with
  | openS => exact congrArg (fun x => { s with output := { s.output with openS := x } }) h
  | sealedS => exact congrArg (fun x => { s with output := { s.output with sealedS := x } }) h

theorem modStream_modStream (f g : StreamState → StreamState) (s : State) :
    modStream st g (modStream st f s) = modStream st (fun x => g (f x)) s := by
  cases st <;> rfl

/-- Records handed while a slot is free for each are stored in order (R116). -/
theorem storeRecord_all (none_open : (s.stream st).stallRun = none) (records : ∀ r ∈ l, r ≠ .close)
    (room : l.length ≤ s.output.freeSlots st) : l.foldl (storeRecord st) s = modStream st (StreamState.store l) s := by
  induction l generalizing s with
  | nil => exact (modStream_id (by simp [StreamState.store, stored])).symm
  | cons r l ih =>
    obtain ⟨x, series⟩ := series_isSome (records r List.mem_cons_self)
    rw [List.length_cons] at room
    have first : storeRecord st s r = modStream st (StreamState.store [r]) s := by
      unfold storeRecord
      simp only [none_open, series]
      exact if_pos (by omega)
    have later := ih (s := modStream st (StreamState.store [r]) s) (by rw [modStream_stream_self]; exact none_open)
      (fun q hq => records q (List.mem_cons_of_mem r hq)) (by rw [freeSlots_store, List.length_singleton]; omega)
    rw [List.foldl_cons, first, later, modStream_modStream]
    congr 1
    funext y
    simp [StreamState.store, stored]

/-! ## A stall run (R116, R117) -/

/-- A stall run held by a stream. -/
def StreamState.stall (x : RunRegister) (y : StreamState) : StreamState := { y with stallRun := some x }

/-- Records handed while a stall run is held are absorbed into it (R117). -/
theorem storeRecord_absorbed {run : RunRegister} (held : (s.stream st).stallRun = some run) (records : ∀ r ∈ l, r ≠ .close) :
    l.foldl (storeRecord st) s =
      modStream st (StreamState.stall ((l.filterMap Record.series).foldl RunRegister.absorb run)) s := by
  induction l generalizing s run with
  | nil =>
    have same : (s.stream st).stall run = s.stream st := by rw [StreamState.stall, ← held]
    exact (modStream_id same).symm
  | cons r l ih =>
    obtain ⟨x, series⟩ := series_isSome (records r List.mem_cons_self)
    have first : storeRecord st s r = modStream st (StreamState.stall (run.absorb x)) s := by
      unfold storeRecord
      simp only [held, series]
      rfl
    have later := ih (s := modStream st (StreamState.stall (run.absorb x)) s) (run := run.absorb x)
      (by rw [modStream_stream_self]; rfl) fun q hq => records q (List.mem_cons_of_mem r hq)
    rw [List.foldl_cons, first, later, modStream_modStream, List.filterMap_cons_some series, List.foldl_cons]
    rfl

/-- A stall run that starts is counted (R116). -/
theorem startStallRun_stream (st : Stream) (x : RunRegister) (s : State) : (startStallRun st x s).stream st =
    { s.stream st with stallRun := some x, stallCount := satInc16 (s.stream st).stallCount } := by
  unfold startStallRun State.stream
  rw [raise_output]
  cases st <;> rfl

/-- The first record that finds no slot free starts a stall run, counted and flagged, that absorbs the later ones (R116, R117). -/
theorem storeRecord_overflow (none_open : (s.stream st).stallRun = none) (records : ∀ r ∈ l, r ≠ .close)
    (full : s.output.freeSlots st < l.length) : ∃ run u, l.foldl (storeRecord st) s = modStream st (StreamState.stall run) u ∧
      run.Covers ((l.drop (s.output.freeSlots st)).filterMap Record.series) ∧ flagSet u .outputStall = true ∧
      (u.stream st).fifo = (s.stream st).fifo ++ stored (l.take (s.output.freeSlots st)) ∧
      (u.stream st).stallCount = satInc16 (s.stream st).stallCount := by
  generalize hn : s.output.freeSlots st = n at full ⊢
  obtain ⟨r, later, split⟩ : ∃ r later, l.drop n = r :: later := List.exists_cons_of_ne_nil (by simp [full])
  have listed (q : Record) (hq : q ∈ r :: later) : q ≠ .close := records q (List.mem_of_mem_drop (split ▸ hq))
  obtain ⟨x, series⟩ := series_isSome (listed r List.mem_cons_self)
  have kept := storeRecord_all (l := l.take n) none_open (fun q hq => records q (List.mem_of_mem_take hq))
    (by rw [hn]; exact List.length_take_le _ _)
  have no_slot := freeSlots_store (st := st) (l.take n) s
  have stream := modStream_stream_self s st (StreamState.store (l.take n))
  generalize modStream st (StreamState.store (l.take n)) s = u at kept no_slot stream
  have open_none : (u.stream st).stallRun = none := by
    rw [stream]
    exact none_open
  have started : storeRecord st u r = startStallRun st x u := by
    rw [hn, List.length_take, Nat.min_eq_left full.le, Nat.sub_self] at no_slot
    unfold storeRecord
    simp only [open_none, series]
    exact if_neg (by omega)
  have run := startStallRun_stream st x u
  rw [stream] at run
  have absorbed := storeRecord_absorbed (l := later) (congrArg StreamState.stallRun run)
    fun q hq => listed q (List.mem_cons_of_mem r hq)
  refine ⟨(later.filterMap Record.series).foldl RunRegister.absorb x, startStallRun st x u, ?_, ?_, raise_sets _ _,
    by rw [run]; rfl, by rw [run]; rfl⟩
  · conv_lhs => rw [← List.take_append_drop n l, split]
    rw [List.foldl_append, kept, List.foldl_cons, started, absorbed]
  · rw [split, List.filterMap_cons_some series]
    exact (covers_self x).absorb_all _

/-! ## A block close (R116 to R118) -/

/-- Nothing but a stream, the flags and what a flag's rise puts out has changed. -/
def OnlyHands (st : Stream) (s t : State) : Prop :=
  t.stream (otherStream st) = s.stream (otherStream st) ∧
    t = { s with output := t.output, management := t.management, ports := t.ports }

theorem OnlyHands.refl (st : Stream) (s : State) : OnlyHands st s s := ⟨rfl, rfl⟩

theorem OnlyHands.after_modStream (h : OnlyHands st s t) {f : StreamState → StreamState} :
    OnlyHands st s (modStream st f t) := by
  obtain ⟨other, frame⟩ := h
  refine ⟨(modStream_stream_other t st f).trans other, ?_⟩
  rw [frame]
  cases st <;> rfl

theorem OnlyHands.after_raise (h : OnlyHands st s t) {f : EventFlag} : OnlyHands st s (raise f t) := by
  obtain ⟨other, frame⟩ := h
  obtain ⟨q, a, p, raised⟩ := raise_spec f t
  refine ⟨?_, ?_⟩
  · rw [raised]
    exact other
  · rw [raised, frame]

theorem OnlyHands.after_storeRecord (h : OnlyHands st s t) (r : Record) : OnlyHands st s (storeRecord st t r) := by
  unfold storeRecord
  split
  · exact h.after_modStream
  · split
    · exact h.after_modStream
    · exact OnlyHands.after_raise h.after_modStream
  · exact h.after_modStream

theorem handRecords_only (st : Stream) (l : List Record) (s : State) : OnlyHands st s (handRecords st l s) := by
  have begun : OnlyHands st s (storeStallRun st s) := by
    unfold storeStallRun
    split
    · exact (OnlyHands.refl st s).after_modStream
    · exact OnlyHands.refl st s
  unfold handRecords
  split
  · refine OnlyHands.after_modStream (List.foldlRecOn l _ ?_ fun u hu r _ => hu.after_storeRecord r)
    split
    · exact begun
    · exact OnlyHands.refl st s
  · exact OnlyHands.refl st s

/-- What the hand-off of records shows in a stream: its FIFO, its stall run and its stall count. -/
def StreamState.handing (x : StreamState) := (x.fifo, x.stallRun, x.stallCount)

theorem followStall_handing (x : StreamState) : x.followStall.handing = x.handing := by
  obtain ⟨n, b, frame⟩ := followStall_frame x
  rw [frame]
  rfl

/-- A stream that takes no part is handed nothing (R110). -/
theorem handRecords_out (out : (s.stream st).takesPart = false) : handRecords st l s = s := if_neg (by simp [out])

/-- What a stream with no stall run shows once it has been handed records. -/
theorem handRecords_direct (part : (s.stream st).takesPart = true) (none_open : (s.stream st).stallRun = none) :
    handRecords st l s = modStream st StreamState.followStall (l.foldl (storeRecord st) s) := by
  unfold handRecords
  rw [if_pos part, none_open]
  rfl

/-- A stall run stored at the tail of its stream's FIFO (R118). -/
def stallRecord (s : State) (st : Stream) (run : RunRegister) : Record :=
  .run (buildRun s.proceeding.id st .outputStall run)

theorem storeStallRun_held {run : RunRegister} (held : (s.stream st).stallRun = some run) : storeStallRun st s =
    modStream st (fun y => { y.store [stallRecord s st run] with stallRun := none }) s := by
  unfold storeStallRun
  rw [held]
  rfl

/-- A stall run held is stored ahead of the records where two slots and a slot for each are free (R118). -/
theorem handRecords_closes {run : RunRegister} (part : (s.stream st).takesPart = true)
    (held : (s.stream st).stallRun = some run) (records : ∀ r ∈ l, r ≠ .close) (two : 2 ≤ s.output.freeSlots st)
    (room : l.length + 1 ≤ s.output.freeSlots st) : ((handRecords st l s).stream st).handing =
      ((s.stream st).fifo ++ stored (stallRecord s st run :: l), none, (s.stream st).stallCount) := by
  have closes : ((s.stream st).stallRun.isSome && closesStallRun s st l.length) = true := by
    simp [held, closesStallRun, two, room]
  have free : (storeStallRun st s).output.freeSlots st = s.output.freeSlots st - 1 := by
    rw [storeStallRun_held held]
    refine Eq.trans ?_ (freeSlots_store [stallRecord s st run] s)
    cases st <;> rfl
  have stream : (storeStallRun st s).stream st = { (s.stream st).store [stallRecord s st run] with stallRun := none } := by
    rw [storeStallRun_held held, modStream_stream_self]
  unfold handRecords
  rw [if_pos part, if_pos closes, modStream_stream_self, followStall_handing,
    storeRecord_all (by rw [stream]) records (by rw [free]; omega), modStream_stream_self, stream]
  simp [StreamState.handing, StreamState.store, stored]

/-- A stall run held absorbs the records where it is not closed (R117, R118). -/
theorem handRecords_absorbs {run : RunRegister} (part : (s.stream st).takesPart = true)
    (held : (s.stream st).stallRun = some run) (records : ∀ r ∈ l, r ≠ .close)
    (short : s.output.freeSlots st < 2 ∨ s.output.freeSlots st < l.length + 1) : ((handRecords st l s).stream st).handing =
      ((s.stream st).fifo, some ((l.filterMap Record.series).foldl RunRegister.absorb run), (s.stream st).stallCount) := by
  have stays : ¬ ((s.stream st).stallRun.isSome && closesStallRun s st l.length) = true := by
    simp only [held, closesStallRun, Option.isSome_some, Bool.true_and, Bool.and_eq_true, decide_eq_true_iff]
    omega
  unfold handRecords
  rw [if_pos part, if_neg stays, modStream_stream_self, followStall_handing, storeRecord_absorbed held records,
    modStream_stream_self]
  rfl

/-- Records handed to a stream with no stall run while a slot is free for each are stored in order (R116). -/
theorem handRecords_stores (part : (s.stream st).takesPart = true) (none_open : (s.stream st).stallRun = none)
    (records : ∀ r ∈ l, r ≠ .close) (room : l.length ≤ s.output.freeSlots st) :
    ((handRecords st l s).stream st).handing = ((s.stream st).fifo ++ stored l, none, (s.stream st).stallCount) := by
  rw [handRecords_direct part none_open, modStream_stream_self, followStall_handing,
    storeRecord_all none_open records room, modStream_stream_self, ← none_open]
  rfl

/-- The hand-off of records at a block close, by the stall run held and the slots free. -/
theorem recordsHanded (s : State) (st : Stream) (l : List Record) (part : (s.stream st).takesPart = true)
    (records : ∀ r ∈ l, r ≠ .close) :
    let t := handRecords st l s
    let free := s.output.freeSlots st
    let counts := (t.stream st).stallCount = (s.stream st).stallCount
    ((s.stream st).stallRun = none → l.length ≤ free →
      (t.stream st).fifo = (s.stream st).fifo ++ stored l ∧ (t.stream st).stallRun = none ∧ counts) ∧
    ((s.stream st).stallRun = none → free < l.length →
      (t.stream st).fifo = (s.stream st).fifo ++ stored (l.take free) ∧
      (t.stream st).stallCount = satInc16 (s.stream st).stallCount ∧ flagSet t .outputStall = true ∧
      ∃ run, (t.stream st).stallRun = some run ∧ run.Covers ((l.drop free).filterMap Record.series)) ∧
    (∀ run, (s.stream st).stallRun = some run → 2 ≤ free → l.length + 1 ≤ free →
      (t.stream st).fifo = (s.stream st).fifo ++ stored (stallRecord s st run :: l) ∧ (t.stream st).stallRun = none ∧ counts) ∧
    (∀ run, (s.stream st).stallRun = some run → (free < 2 ∨ free < l.length + 1) →
      (t.stream st).fifo = (s.stream st).fifo ∧ counts ∧
      ∃ x, (t.stream st).stallRun = some x ∧ x.Covers (run :: l.filterMap Record.series)) := by
  intro t free counts
  refine ⟨fun none_open room => ?_, fun none_open full => ?_, fun run held two room => ?_, fun run held short => ?_⟩
  · have handed := handRecords_stores part none_open records room
    simp only [StreamState.handing, Prod.mk.injEq] at handed
    exact handed
  · obtain ⟨run, u, folded, covers, flag, fifo, count⟩ := storeRecord_overflow none_open records full
    have handed : t = modStream st StreamState.followStall (modStream st (StreamState.stall run) u) := by
      rw [← folded]
      exact handRecords_direct part none_open
    have shown : (t.stream st).handing = ((u.stream st).fifo, some run, (u.stream st).stallCount) := by
      rw [handed, modStream_stream_self, followStall_handing, modStream_stream_self]
      rfl
    simp only [StreamState.handing, Prod.mk.injEq] at shown
    obtain ⟨fifo', open_run, count'⟩ := shown
    refine ⟨fifo'.trans fifo, count'.trans count, ?_, run, open_run, covers⟩
    rw [handed]
    unfold flagSet
    rwa [modStream_management, modStream_management]
  · have handed := handRecords_closes part held records two room
    simp only [StreamState.handing, Prod.mk.injEq] at handed
    exact handed
  · have handed := handRecords_absorbs part held records short
    simp only [StreamState.handing, Prod.mk.injEq] at handed
    obtain ⟨fifo, absorbed, count⟩ := handed
    exact ⟨fifo, count, _, absorbed, (covers_self run).absorb_all _⟩

end Sys2Proof.Machine
end

section
/-! PROOFS. The last frame of a stored record frees its slot, which in DRAINING takes the stream's stall run (R115, R119, R124). -/

namespace Sys2Proof.Machine

variable {s : State} {st : Stream}

/-! ## What the sender leaves of a stream -/

theorem runSender_handing (s : State) (x : Stream) : ((runSender s).stream x).handing = (s.stream x).handing := by
  unfold runSender
  split
  · next st _ _ =>
    split
    · next q _ =>
      obtain ⟨self, other, -, -⟩ := takeRecord_stream st q s
      by_cases same : x = st
      · rw [same, self, followStall_handing]
        rfl
      · have elsewhere : x = otherStream st := by
          revert same
          cases x <;> cases st <;> simp [otherStream]
        rw [elsewhere, other]
    · rfl
  · rfl

/-- A record that the sender takes stays at the head of its FIFO, and stall runs stand (R115; log entry 13). -/
theorem settle_handing (s : State) (x : Stream) : ((settle s).stream x).handing = (s.stream x).handing := by
  exact (congrArg (fun o : RecordOutput => (o.stream x).handing) (settle_output s)).trans (runSender_handing s x)

/-! ## A record sent whole (R115, R124) -/

/-- The head record of a stream gone from its FIFO, with none being sent. -/
def freeHead (st : Stream) (s : State) : State :=
  modStream st (fun x => { x with fifo := x.fifo.drop 1 }.followStall) { s with output := { s.output with sending := none } }

theorem freeHead_stream (st : Stream) (s : State) :
    (freeHead st s).stream st = { s.stream st with fifo := (s.stream st).fifo.drop 1 }.followStall ∧
    (freeHead st s).stream (otherStream st) = s.stream (otherStream st) := by
  cases st <;> exact ⟨rfl, rfl⟩

theorem completeRecord_freed {q : QueuedRecord} {rest : List QueuedRecord} (head : (s.stream st).fifo = q :: rest)
    (record : q.record ≠ .close) : completeRecord st s = examineDrained (storeLateRuns (freeHead st s)) := by
  unfold completeRecord
  simp only [head, List.head?_cons, if_neg record]
  rfl

/-- While a proceeding is OPEN nothing follows a record sent (R119, R133). -/
theorem afterRecord_opened (opened : s.proceeding.state = .opened) : examineDrained (storeLateRuns s) = s := by
  have late : storeLateRuns s = s := if_neg (by simp [opened])
  rw [late]
  exact if_neg (by simp [opened])

theorem held_cons {q : QueuedRecord} {rest : List QueuedRecord} {x : StreamState} (head : x.fifo = q :: rest)
    (kept : q.stored = true) : x.held = (rest.filter (·.stored)).length + 1 := by
  simp [StreamState.held, head, kept]

/-- The end of a record frame's transmission (R124). -/
theorem exec_recordTransmitted {f : Frame} (sends : s.ports.b.transmitting = some { origin := .record, frame := f }) :
    exec (.frameTransmitted .B) s =
      .next (settle (recordFrameSent (modPort .B (fun y => { y with transmitting := none }) s))) := by
  have complete : completeTransmission .B s = recordFrameSent (modPort .B (fun y => { y with transmitting := none }) s) := by
    unfold completeTransmission
    rw [show (s.port .B).transmitting = some { origin := .record, frame := f } from sends]
    rfl
  exact congrArg (fun t => Host.Outcome.next (settle t)) complete

theorem recordFrameSent_last {f : Frame} (sending : s.output.sending = some { stream := st, frames := [f] }) :
    recordFrameSent s = completeRecord st s := by
  unfold recordFrameSent
  rw [sending]
  rfl

theorem recordFrameSent_earlier {f : Frame} {l : List Frame} (more : l ≠ [])
    (sending : s.output.sending = some { stream := st, frames := f :: l }) :
    recordFrameSent s = { s with output := { s.output with sending := some { stream := st, frames := l } } } := by
  have length : 0 < l.length := List.length_pos_iff.mpr more
  unfold recordFrameSent
  rw [sending]
  exact if_neg (by simp only [List.length_cons]; omega)

/-! ## The late runs (R119) -/

/-- A stream with no stall run held shows no late run. -/
theorem storeLateRun_rests (none_held : (s.stream st).stallRun = none) :
    storeLateRun st s = s ∨ storeLateRun st s = modStream st StreamState.followStall s := by
  have kept : storeStallRun st s = s := by
    unfold storeStallRun
    rw [none_held]
  unfold storeLateRun
  rw [kept]
  split
  · exact .inr rfl
  · exact .inl rfl

/-- With a slot free a stream's stall run is stored at the tail of its FIFO (R119). -/
theorem storeLateRun_stores {run : RunRegister} (part : (s.stream st).takesPart = true)
    (slot : 0 < s.output.freeSlots st) (held : (s.stream st).stallRun = some run) : (storeLateRun st s).stream st =
      { (s.stream st).store [stallRecord s st run] with stallRun := none }.followStall := by
  unfold storeLateRun
  rw [if_pos (by simp [part, slot]), modStream_stream_self, storeStallRun_held held, modStream_stream_self]

/-- After the last block in DRAINING the one stall run held is stored (R119). -/
theorem storeLateRuns_stores {run : RunRegister} (draining : s.proceeding.state = .draining) (last : lastClosed s = true)
    (part : (s.stream st).takesPart = true) (slot : 0 < s.output.freeSlots st) (held : (s.stream st).stallRun = some run)
    (other : (s.stream (otherStream st)).stallRun = none) : (storeLateRuns s).stream st =
      { (s.stream st).store [stallRecord s st run] with stallRun := none }.followStall := by
  have due : storeLateRuns s = storeLateRun .sealedS (storeLateRun .openS s) := if_pos ⟨draining, last⟩
  have proceeding := ((Leaves.refl [] s).after_storeLateRun (st := .openS)).proceeding (by simp)
  rw [due]
  cases st with
  | openS =>
    have stored := storeLateRun_stores part slot held
    have apart : (storeLateRun .openS s).stream .sealedS = s.stream .sealedS := by
      unfold storeLateRun storeStallRun
      rw [held]
      split <;> rfl
    rw [← stored]
    rcases storeLateRun_rests (s := storeLateRun .openS s) (st := .sealedS) (by rw [apart]; exact other) with e | e <;> rw [e]
    rfl
  | sealedS =>
    rcases storeLateRun_rests (s := s) (st := .openS) other with e | e <;> rw [e]
    · exact storeLateRun_stores part slot held
    · have same : (modStream .openS StreamState.followStall s).output.freeSlots .sealedS = s.output.freeSlots .sealedS := by
        change min (2048 - ((s.output.openS.followStall).held + s.output.sealedS.held)) _ = _
        rw [held_followStall]
        rfl
      exact storeLateRun_stores (s := modStream .openS StreamState.followStall s) part (by rw [same]; exact slot) held

/-- A stream that takes part with a record left is not drained (R133). -/
theorem examineDrained_undrained (part : (s.stream st).takesPart = true) (left : (s.stream st).fifo ≠ []) :
    examineDrained s = s := by
  have undrained : (s.stream st).drained = false := by
    simp [StreamState.drained, part, left]
  refine if_neg fun ⟨_, _, openS, sealedS⟩ => ?_
  cases st
  · exact Bool.noConfusion (openS.symm.trans undrained)
  · exact Bool.noConfusion (sealedS.symm.trans undrained)

/-! ## A stored record's frames (R115, R119, R124) -/

section
variable {f : Frame} {l : List Frame} {q : QueuedRecord} {rest : List QueuedRecord}

/-- In OPEN the last frame of a stored record frees its slot, and an earlier one leaves the next to be offered. -/
theorem recordFrame_opened (sends : s.ports.b.transmitting = some { origin := .record, frame := f })
    (sending : s.output.sending = some { stream := st, frames := f :: l }) (head : (s.stream st).fifo = q :: rest)
    (kept : q.stored = true) (record : q.record ≠ .close) (opened : s.proceeding.state = .opened) :
    ∃ t, exec (.frameTransmitted .B) s = .next t ∧ t.proceeding = s.proceeding ∧
      t.tables = s.tables ∧ t.stations = s.stations ∧
      (l = [] → (t.stream st).fifo = rest ∧ (t.stream st).held + 1 = (s.stream st).held) ∧
      (l ≠ [] → t.output = { s.output with sending := some { stream := st, frames := l } }) := by
  refine ⟨_, exec_recordTransmitted sends, ?_⟩
  generalize hv : modPort .B (fun y => { y with transmitting := none }) s = v
  have output : v.output = s.output := by rw [← hv, modPort_output]
  have proceeding : v.proceeding = s.proceeding := by rw [← hv, modPort_proceeding]
  have tables : v.tables = s.tables := by rw [← hv, modPort_tables]
  have stations : v.stations = s.stations := by rw [← hv, modPort_stations]
  have stream : v.stream st = s.stream st := congrArg (·.stream st) output
  rw [settle_proceeding, settle_tables, settle_stations]
  by_cases last : l = []
  · subst last
    have sent : recordFrameSent v = freeHead st v := by
      rw [recordFrameSent_last (output ▸ sending), completeRecord_freed (stream ▸ head) record]
      refine afterRecord_opened ?_
      rw [freeHead, modStream_proceeding]
      exact proceeding ▸ opened
    have handing := settle_handing (freeHead st v) st
    rw [(freeHead_stream st v).1, followStall_handing, stream, head] at handing
    have fifo : ((settle (freeHead st v)).stream st).fifo = rest := congrArg Prod.fst handing
    rw [sent]
    refine ⟨?_, ?_, ?_, fun _ => ⟨fifo, ?_⟩, fun more => absurd rfl more⟩
    · rw [freeHead, modStream_proceeding]
      exact proceeding
    · rw [freeHead, modStream_tables]
      exact tables
    · rw [freeHead, modStream_stations]
      exact stations
    · rw [held_cons head kept, StreamState.held, fifo]
  · rw [recordFrameSent_earlier last (output ▸ sending)]
    refine ⟨proceeding, tables, stations, fun none_left => absurd none_left last, fun _ => ?_⟩
    rw [settle_output, runSender_sending rfl]
    simp only [output]

/-- The slot that a record frees (R115). -/
theorem freeHead_slot (bounded : s.StoreBounded) (head : (s.stream st).fifo = q :: rest) (kept : q.stored = true) :
    0 < (freeHead st s).output.freeSlots st := by
  obtain ⟨store, sealedOnes⟩ := bounded
  have before := held_cons head kept
  have after : ((freeHead st s).stream st).held = (rest.filter (·.stored)).length := by
    rw [(freeHead_stream st s).1, held_followStall, head]
    rfl
  have other := congrArg StreamState.held (freeHead_stream st s).2
  generalize freeHead st s = t at after other
  cases st with
  | openS =>
    change s.output.openS.held = _ at before
    change t.output.openS.held = _ at after
    change t.output.sealedS.held = s.output.sealedS.held at other
    change 0 < 2048 - (t.output.openS.held + t.output.sealedS.held)
    omega
  | sealedS =>
    change s.output.sealedS.held = _ at before
    change t.output.sealedS.held = _ at after
    change t.output.openS.held = s.output.openS.held at other
    change 0 < min (2048 - (t.output.openS.held + t.output.sealedS.held)) (1024 - t.output.sealedS.held)
    omega

/-- In DRAINING after the last block the slot freed takes the stream's stall run (R119). -/
theorem recordFrame_draining {run : RunRegister} (sends : s.ports.b.transmitting = some { origin := .record, frame := f })
    (sending : s.output.sending = some { stream := st, frames := [f] }) (head : (s.stream st).fifo = q :: rest)
    (kept : q.stored = true) (record : q.record ≠ .close) (draining : s.proceeding.state = .draining)
    (last : lastClosed s = true) (bounded : s.StoreBounded) (part : (s.stream st).takesPart = true)
    (held : (s.stream st).stallRun = some run) (other : (s.stream (otherStream st)).stallRun = none) :
    ∃ t, exec (.frameTransmitted .B) s = .next t ∧ t.proceeding = s.proceeding ∧ (t.stream st).stallRun = none ∧
      (t.stream st).fifo = rest ++ stored [stallRecord s st run] := by
  refine ⟨_, exec_recordTransmitted sends, ?_⟩
  generalize hv : modPort .B (fun y => { y with transmitting := none }) s = v
  have output : v.output = s.output := by rw [← hv, modPort_output]
  have proceeding : v.proceeding = s.proceeding := by rw [← hv, modPort_proceeding]
  have assembler : v.assembler = s.assembler := by rw [← hv, modPort_assembler]
  have stream (x : Stream) : v.stream x = s.stream x := congrArg (·.stream x) output
  have slot : 0 < (freeHead st v).output.freeSlots st :=
    freeHead_slot (by unfold State.StoreBounded; rw [output]; exact bounded) (stream st ▸ head) kept
  obtain ⟨self, apart⟩ := freeHead_stream st v
  obtain ⟨n, b, frame⟩ := followStall_frame { v.stream st with fifo := (v.stream st).fifo.drop 1 }
  rw [frame, stream, head] at self
  have freed : (freeHead st v).proceeding = s.proceeding := by
    rw [freeHead, modStream_proceeding]
    exact proceeding
  have closed : lastClosed (freeHead st v) = true := by
    rw [← last]
    unfold lastClosed
    rw [freed, freeHead, modStream_assembler]
    simp only [assembler]
  rw [recordFrameSent_last (output ▸ sending), completeRecord_freed (stream st ▸ head) record]
  generalize freeHead st v = u at slot self apart freed closed
  have late := storeLateRuns_stores (freed ▸ draining) closed (by rw [self]; exact part) slot (by rw [self]; exact held)
    (by rw [apart, stream]; exact other)
  have kept_proceeding := ((Leaves.refl [] u).after_storeLateRuns).proceeding (by simp)
  have handing : ((storeLateRuns u).stream st).handing =
      (rest ++ stored [stallRecord s st run], none, (s.stream st).stallCount) := by
    rw [late, followStall_handing, self, stallRecord, freed]
    rfl
  have takes : ((storeLateRuns u).stream st).takesPart = true := by
    rw [late]
    obtain ⟨n', b', frame'⟩ := followStall_frame { (u.stream st).store [stallRecord u st run] with stallRun := none }
    rw [frame', self]
    exact part
  have waits : ((storeLateRuns u).stream st).fifo ≠ [] := by
    rw [show ((storeLateRuns u).stream st).fifo = _ from congrArg Prod.fst handing]
    simp [stored]
  rw [examineDrained_undrained takes waits]
  have shown := (settle_handing (storeLateRuns u) st).trans handing
  simp only [StreamState.handing, Prod.mk.injEq] at shown
  obtain ⟨fifo, none_left, -⟩ := shown
  exact ⟨by rw [settle_proceeding, kept_proceeding, freed], none_left, fifo⟩

end

end Sys2Proof.Machine
end

section
/-! PROOFS. What the close point of a block in OPEN hands to the streams (R92, R94, R101, R102, R110). -/

namespace Sys2Proof.Machine

variable {s t : State} {k : BlockNo}

/-! ## A hand-off sees Record Output and the proceeding alone -/

theorem modStream_output_congr (st : Stream) (f : StreamState → StreamState) (h : s.output = t.output) :
    (modStream st f s).output = (modStream st f t).output := by
  cases st <;> simp only [modStream, h]

theorem storeRecord_output_congr (st : Stream) (r : Record) (h : s.output = t.output) :
    (storeRecord st s r).output = (storeRecord st t r).output := by
  have stream : s.stream st = t.stream st := congrArg (·.stream st) h
  unfold storeRecord
  rw [stream, h]
  split
  · exact modStream_output_congr st _ h
  · split
    · exact modStream_output_congr st _ h
    · unfold startStallRun
      rw [raise_output, raise_output]
      exact modStream_output_congr st _ h
  · exact modStream_output_congr st _ h

theorem foldl_storeRecord_output_congr (st : Stream) (l : List Record) (h : s.output = t.output) :
    (l.foldl (storeRecord st) s).output = (l.foldl (storeRecord st) t).output := by
  induction l generalizing s t with
  | nil => exact h
  | cons r l ih => exact ih (storeRecord_output_congr st r h)

theorem handRecords_output_congr (st : Stream) (l : List Record) (h : s.output = t.output)
    (proceeding : s.proceeding = t.proceeding) : (handRecords st l s).output = (handRecords st l t).output := by
  have stream : s.stream st = t.stream st := congrArg (·.stream st) h
  have begun : (storeStallRun st s).output = (storeStallRun st t).output := by
    unfold storeStallRun
    rw [stream, proceeding]
    split
    · exact modStream_output_congr st _ h
    · exact h
  unfold handRecords closesStallRun
  rw [stream, h]
  split
  · refine modStream_output_congr st _ (foldl_storeRecord_output_congr st l ?_)
    split
    · exact begun
    · exact h
  · exact h

theorem handRecords_proceeding (st : Stream) (l : List Record) (s : State) :
    (handRecords st l s).proceeding = s.proceeding := by
  rw [(handRecords_only st l s).2]

theorem handRecords_assembler (st : Stream) (l : List Record) (s : State) :
    (handRecords st l s).assembler = s.assembler := by
  rw [(handRecords_only st l s).2]

/-! ## The close of a block (R94, R110) -/

theorem runTap_frame (k : BlockNo) (l : List TrackBuild) (s : State) :
    (runTap k l s).output = s.output ∧ (runTap k l s).assembler = s.assembler := by
  unfold runTap
  split
  · simp only
    split
    · exact ⟨raise_output _ _, raise_assembler _ _⟩
    · exact ⟨rfl, rfl⟩
  · exact ⟨rfl, rfl⟩
  · exact ⟨rfl, rfl⟩

theorem advanceRecordTime_frame (m : CourtMode) (s : State) : (advanceRecordTime m s).output = s.output ∧
    (advanceRecordTime m s).assembler = s.assembler ∧ (advanceRecordTime m s).proceeding = s.proceeding := by
  unfold advanceRecordTime
  split
  · split
    · exact ⟨rfl, rfl, rfl⟩
    · split
      · exact ⟨rfl, rfl, rfl⟩
      · exact ⟨raise_output _ _, raise_assembler _ _, raise_proceeding _ _⟩
  · exact ⟨rfl, rfl, rfl⟩

/-- The close of a block hands each stream its records, and writes the run register and the folded count (R94, R99, R106). -/
theorem closeBlock_hands (k : BlockNo) (ts : Timings) (gb : Vector GroupBlock 8) (s : State) :
    let m := latchedMode s k
    let l := buildEntries s m ts gb
    (closeBlock k ts gb s).output =
      (handRecords .sealedS (sealedRecords s k m gb l) (handRecords .openS (openRecords s k m gb l).2 s)).output ∧
    (closeBlock k ts gb s).assembler.run = (openRecords s k m gb l).1 ∧
    (closeBlock k ts gb s).assembler.folds = satAdd 65535 s.assembler.folds (l.filter (fun b => b.folded)).length := by
  intro m l
  obtain ⟨output, assembler, proceeding⟩ := advanceRecordTime_frame m (setRun (openRecords s k m gb l).1 (countFolds l s))
  obtain ⟨tapped, tapped_assembler⟩ := runTap_frame k l (handRecords .sealedS (sealedRecords s k m gb l)
    (handRecords .openS (openRecords s k m gb l).2 (advanceRecordTime m (setRun (openRecords s k m gb l).1 (countFolds l s)))))
  rw [handRecords_assembler, handRecords_assembler, assembler] at tapped_assembler
  refine ⟨tapped.trans (handRecords_output_congr _ _ (handRecords_output_congr _ _ output proceeding) ?_),
    congrArg Assembler.run tapped_assembler, congrArg Assembler.folds tapped_assembler⟩
  rw [handRecords_proceeding, handRecords_proceeding]
  exact proceeding

/-! ## What stations and groups leave at a close point (R56, R85) -/

theorem raise_unapplied (f : EventFlag) (s : State) : (raise f s).unapplied = s.unapplied := by
  simp [State.unapplied]

theorem setStationState_unapplied (i : Fin 16) (x : StationState) (s : State) :
    (setStationState i x s).unapplied = s.unapplied := by
  simp [State.unapplied]

theorem enterAcquire_unapplied (i : Fin 16) (s : State) : (enterAcquire i s).unapplied = s.unapplied :=
  setStationState_unapplied i .acquire _

theorem resolveByPrediction_unapplied (i : Fin 16) (j : BlockNo) (s : State) :
    (resolveByPrediction i j s).unapplied = s.unapplied := by
  unfold resolveByPrediction
  simp only
  split
  · split
    · exact (enterAcquire_unapplied i _).trans (setStationState_unapplied i .coast _)
    · exact setStationState_unapplied i .coast _
  · rfl
  · rfl

theorem resolveDeadline_unapplied (i : Fin 16) (j : BlockNo) (s : State) :
    (resolveDeadline i j s).unapplied = s.unapplied := by
  unfold resolveDeadline
  split
  · split
    · exact resolveByPrediction_unapplied i j s
    · rfl
  · rfl

theorem timingFault_unapplied (i : Fin 16) (k : BlockNo) (b e : Counter) (s : State) :
    (timingFault i k b e s).unapplied = s.unapplied :=
  (raise_unapplied .timingFault (enterAcquire i s)).trans (enterAcquire_unapplied i s)

theorem closeTiming_unapplied (i : Fin 16) (k : BlockNo) (s : State) : (closeTiming i k s).1.unapplied = s.unapplied := by
  have resolved := resolveDeadline_unapplied i (k + 1) s
  unfold closeTiming
  split
  · simp only
    split
    · split
      · exact resolved
      · exact (timingFault_unapplied i k _ _ _).trans resolved
    · exact resolved
  · rfl

/-- The stations' part of a close point leaves what staged tables leave (R56, R57). -/
theorem closeTimings_unapplied (k : BlockNo) (s : State) : (closeTimings k s).1.unapplied = s.unapplied :=
  closeTimings_keeps (t := s) (fun u => u.unapplied = s.unapplied) k (fun i u hu => (closeTiming_unapplied i k u).trans hu) rfl

/-! ## A close point in OPEN (R94) -/

/-- The state that block k's records are built from: the stations timed and the groups consumed. -/
def consumedAt (k : BlockNo) (s : State) : State := consumeGroups (closeTimings k s).2 (closeTimings k s).1

/-- What the confer groups hand over for block k (R85, R86). -/
def blocksAt (k : BlockNo) (s : State) : Vector GroupBlock 8 := groupBlocks (closeTimings k s).1 (closeTimings k s).2

/-- The track entries of block k (R94). -/
def entriesAt (k : BlockNo) (s : State) : List TrackBuild :=
  buildEntries (consumedAt k s) (latchedMode s k) (closeTimings k s).2 (blocksAt k s)

/-- The run register after block k, and the records that it hands to the OPEN stream (R106, R110). -/
def openAt (k : BlockNo) (s : State) : Option RunRegister × List Record :=
  openRecords (consumedAt k s) k (latchedMode s k) (blocksAt k s) (entriesAt k s)

/-- The records that block k hands to the SEALED stream (R102, R110). -/
def sealedAt (k : BlockNo) (s : State) : List Record :=
  sealedRecords (consumedAt k s) k (latchedMode s k) (blocksAt k s) (entriesAt k s)

theorem consumeGroups_unapplied (ts : Timings) (s : State) : (consumeGroups ts s).unapplied = s.unapplied := rfl

theorem consumedAt_unapplied (k : BlockNo) (s : State) : (consumedAt k s).unapplied = s.unapplied := by
  rw [consumedAt, consumeGroups_unapplied, closeTimings_unapplied]

theorem consumedAt_tables (k : BlockNo) (s : State) : (consumedAt k s).tables = s.tables := by
  have consumed : Leaves [] s (consumedAt k s) := Leaves.after_groups (Leaves.refl [] s).after_closeTimings
  exact consumed.tables (by simp)

/-- Finishing a close point moves the next block on and leaves what was handed (R92, R94). -/
theorem finishClose_frame (k : BlockNo) (ts : Timings) (s : State) : (finishClose k ts s).output = s.output ∧
    (finishClose k ts s).proceeding = s.proceeding ∧ (finishClose k ts s).assembler.run = s.assembler.run ∧
    (finishClose k ts s).assembler.folds = s.assembler.folds := by
  unfold finishClose removeKind removeLatch removeBoundary reexamineForced releaseAll
  exact ⟨rfl, rfl, rfl, rfl⟩

theorem closeRecords_eq (k : BlockNo) (s : State) : closeRecords k s =
    if isBlockClose (consumedAt k s) k then closeBlock k (closeTimings k s).2 (blocksAt k s) (consumedAt k s)
    else consumedAt k s := by
  rw [closeRecords, consumedAt, blocksAt]

/-- A close point in OPEN hands each stream the records built of its entries, and moves on to the next block (R92, R94). -/
theorem closeRest_hands (closes : isBlockClose s k = true) (opened : s.proceeding.state = .opened) :
    (closeRest k s).output =
      (handRecords .sealedS (sealedAt k s) (handRecords .openS (openAt k s).2 (consumedAt k s))).output ∧
    (closeRest k s).assembler.run = (openAt k s).1 ∧
    (closeRest k s).assembler.folds = satAdd 65535 s.assembler.folds ((entriesAt k s).filter (fun b => b.folded)).length ∧
    (closeRest k s).assembler.next = some (k + 1) := by
  have consumed := consumedAt_unapplied k s
  simp only [State.unapplied, Prod.mk.injEq] at consumed
  obtain ⟨-, -, -, mode, assembler, output, proceeding, -⟩ := consumed
  have latched : latchedMode (consumedAt k s) k = latchedMode s k := by
    unfold latchedMode
    rw [mode]
  have closed : closeRecords k s = closeBlock k (closeTimings k s).2 (blocksAt k s) (consumedAt k s) := by
    have same : isBlockClose (consumedAt k s) k = isBlockClose s k := by
      unfold isBlockClose State.recording
      rw [proceeding]
    rw [closeRecords_eq, same, if_pos closes]
  obtain ⟨hands, register, folded⟩ := closeBlock_hands k (closeTimings k s).2 (blocksAt k s) (consumedAt k s)
  rw [latched, ← closed] at hands register folded
  rw [assembler] at folded
  have stays : (closeRecords k s).proceeding = s.proceeding :=
    ((Leaves.refl [.recordTime] s).after_closeRecords (k := k) (by simp)).proceeding (by simp)
  obtain ⟨output', proceeding', run, folds⟩ := finishClose_frame k (closeTimings k s).2 (closeRecords k s)
  have rests : closeRest k s = finishClose k (closeTimings k s).2 (closeRecords k s) := by
    rw [closeRest, afterLastBlock, if_neg (by rw [proceeding', stays, opened]; simp)]
  rw [rests]
  unfold openAt sealedAt entriesAt
  exact ⟨output'.trans hands, run.trans register, folds.trans folded, finishClose_next k _ _⟩

end Sys2Proof.Machine
end

section
/-! PROOFS. A boundary that closes one block of an OPEN proceeding, from the timer's command to the streams' FIFOs (R7, R8, R92, R94,
R101, R102). -/

namespace Sys2Proof.Machine

variable {s t a : State} {k p : BlockNo}

/-! ## The track entries of a block (R94, R102) -/

section
variable {m : CourtMode} {ts : Timings} {gb : Vector GroupBlock 8}

/-- A track is recorded with a disposition in mode m. -/
def Listed (x : Tables) (m : CourtMode) (d : Disposition) (q : Fin 48) : Prop :=
  x.tracks[q].mapped = true ∧ dispositionIn x m x.tracks[q].role = d

theorem mem_buildEntries {b : TrackBuild} : b ∈ buildEntries s m ts gb ↔
    ∃ q : Fin 48, s.tables.active.tracks[q].mapped = true ∧ trackEntry s m ts gb q = b := by
  simp [buildEntries]

theorem trackEntry_listed {q : Fin 48} (mapped : s.tables.active.tracks[q].mapped = true) :
    Listed s.tables.active m (trackEntry s m ts gb q).disposition (trackEntry s m ts gb q).track := by
  obtain ⟨track, -, -, -, -, disposition⟩ := trackEntry_fields s m ts gb q rfl
  rw [track, disposition]
  exact ⟨mapped, rfl⟩

theorem disposition_of_mem_buildEntries {b : TrackBuild} (h : b ∈ buildEntries s m ts gb) :
    Listed s.tables.active m b.disposition b.track := by
  obtain ⟨q, mapped, rfl⟩ := mem_buildEntries.mp h
  exact trackEntry_listed mapped

/-- A track has an entry of a disposition where it is mapped and the mode gives its role that disposition. -/
theorem exists_mem_buildEntries {d : Disposition} {q : Fin 48} (h : Listed s.tables.active m d q) :
    ∃ b ∈ buildEntries s m ts gb, b.track = q ∧ b.disposition = d := by
  obtain ⟨mapped, disposition⟩ := h
  obtain ⟨track, -, -, -, -, entry⟩ := trackEntry_fields s m ts gb q rfl
  exact ⟨_, mem_buildEntries.mpr ⟨q, mapped, rfl⟩, track, entry.trans disposition⟩

theorem mem_sealedEntries_track {q : Fin 48} : q ∈ (sealedEntries (buildEntries s m ts gb)).map (·.track) ↔
    Listed s.tables.active m .sealedD q := by
  rw [List.mem_map]
  constructor
  · rintro ⟨b, hb, rfl⟩
    obtain ⟨listed, seals⟩ := List.mem_filter.mp hb
    exact eq_of_beq seals ▸ disposition_of_mem_buildEntries listed
  · intro h
    obtain ⟨b, listed, track, seals⟩ := exists_mem_buildEntries (ts := ts) (gb := gb) h
    exact ⟨b, List.mem_filter.mpr ⟨listed, beq_iff_eq.mpr seals⟩, track⟩

end

theorem blockRecord_items (s : State) (k : BlockNo) (m : CourtMode) (gb : Vector GroupBlock 8) (st : Stream)
    (l : List TrackBuild) : (blockRecord s k m gb st l).items = l.map TrackBuild.item := rfl

theorem blockRecord_tracks (s : State) (k : BlockNo) (m : CourtMode) (gb : Vector GroupBlock 8) (st : Stream)
    (l : List TrackBuild) : (blockRecord s k m gb st l).items.map (·.track) = l.map (·.track) :=
  List.map_map

/-! ## A block of an OPEN proceeding whose record the OPEN stream stores -/

/-- Block k belongs to a proceeding in OPEN that began with block p, and the OPEN stream, with no run held, has a slot free. -/
structure ClosesInto (s : State) (k p : BlockNo) : Prop where
  opened : s.proceeding.state = .opened
  first : s.proceeding.first = some p
  begun : 0 ≤ counterDiff k p
  last : s.proceeding.last = none
  part : s.output.openS.takesPart = true
  unstalled : s.output.openS.stallRun = none
  run : s.assembler.run = none
  room : s.output.openS.held + s.output.sealedS.held < 2048

theorem ClosesInto.isBlockClose (h : ClosesInto s k p) : isBlockClose s k = true := by
  simp [Machine.isBlockClose, State.recording, belongs, h.opened, h.first, h.begun, h.last]

theorem ClosesInto.of_unapplied (h : ClosesInto s k p) (e : t.unapplied = s.unapplied) : ClosesInto t k p := by
  simp only [State.unapplied, Prod.mk.injEq] at e
  obtain ⟨-, -, -, -, assembler, output, proceeding, -⟩ := e
  refine ⟨?_, ?_, h.begun, ?_, ?_, ?_, ?_, ?_⟩
  · rw [proceeding, h.opened]
  · rw [proceeding, h.first]
  · rw [proceeding, h.last]
  · rw [output, h.part]
  · rw [output, h.unstalled]
  · rw [assembler, h.run]
  · rw [output]
    exact h.room

/-- The block record that the OPEN stream is handed at the close of block k (R101). -/
def openRecordAt (k : BlockNo) (s : State) : BlockRecord :=
  blockRecord (consumedAt k s) k (latchedMode s k) (blocksAt k s) .openS (entriesAt k s)

/-- The block record that the SEALED stream is handed at the close of block k, if any (R102). -/
def sealedRecordAt (k : BlockNo) (s : State) : BlockRecord :=
  blockRecord (consumedAt k s) k (latchedMode s k) (blocksAt k s) .sealedS (sealedEntries (entriesAt k s))

/-- A block that is the first, or has a track that is not WITHHELD, hands the OPEN stream its record alone (R105, R106). -/
theorem ClosesInto.openAt_eq (h : ClosesInto s k p)
    (recorded : k = p ∨ ∃ q d, Listed s.tables.active (latchedMode s k) d q ∧ d ≠ .withheldD) :
    openAt k s = (none, [.block (openRecordAt k s)]) := by
  have consumed := h.of_unapplied (consumedAt_unapplied k s)
  have unqualified : qualifies (consumedAt k s) k (entriesAt k s) = false := by
    refine Bool.eq_false_iff.mpr fun qualified => ?_
    obtain ⟨later, -, -, withheld, -⟩ := qualifies_iff.mp qualified
    rcases recorded with first | ⟨q, d, listed, carried⟩
    · exact later (consumed.first.trans (by rw [first]))
    · rw [← consumedAt_tables k s] at listed
      obtain ⟨b, hb, -, disposition⟩ := exists_mem_buildEntries (ts := (closeTimings k s).2) (gb := blocksAt k s) listed
      exact carried (disposition.symm.trans (withheld b hb))
  rw [openAt, openRecords_recorded consumed.part unqualified, consumed.run]
  rfl

/-! ## The two hand-offs of a block close (R101, R102, R116) -/

/-- The hand-offs of a block close, OPEN's first. -/
def handBoth (r : Record) (l : List Record) (s : State) : State := handRecords .sealedS l (handRecords .openS [r] s)

section
variable {r x : Record} {l : List Record}

/-- With a slot free and no stall run the OPEN stream stores its record. -/
theorem handOpen_stores (part : s.output.openS.takesPart = true) (unstalled : s.output.openS.stallRun = none)
    (record : r ≠ .close) (room : s.output.openS.held + s.output.sealedS.held < 2048) :
    (handRecords .openS [r] s).output.openS.fifo = s.output.openS.fifo ++ stored [r] := by
  have free : 1 ≤ s.output.freeSlots .openS := by
    change 1 ≤ 2048 - (s.output.openS.held + s.output.sealedS.held)
    omega
  exact congrArg Prod.fst
    (handRecords_stores (s := s) (st := .openS) (l := [r]) part unstalled (by simpa using record) free)

theorem handOpen_sealed (r : Record) (s : State) : (handRecords .openS [r] s).output.sealedS = s.output.sealedS :=
  (handRecords_only .openS [r] s).1

/-- What the SEALED stream is handed leaves the OPEN stream. -/
theorem handBoth_open (r : Record) (l : List Record) (s : State) :
    (handBoth r l s).output.openS = (handRecords .openS [r] s).output.openS :=
  (handRecords_only .sealedS l (handRecords .openS [r] s)).1

/-- A SEALED stream that takes no part, or is handed nothing and holds no stall run, keeps its FIFO. -/
theorem handBoth_unsealed
    (h : s.output.sealedS.takesPart = false ∨ s.output.sealedS.stallRun = none ∧ l = []) :
    (handBoth r l s).output.sealedS.fifo = s.output.sealedS.fifo := by
  have before := handOpen_sealed r s
  unfold handBoth
  by_cases part : s.output.sealedS.takesPart = true
  · obtain ⟨unstalled, rfl⟩ := h.resolve_left (by simp [part])
    have stores := handRecords_stores (s := handRecords .openS [r] s) (st := .sealedS) (l := [])
      (by rw [← part, ← before]; rfl) (by rw [← unstalled, ← before]; rfl) (by simp) (Nat.zero_le _)
    refine (congrArg Prod.fst stores).trans ?_
    rw [← before]
    exact List.append_nil _
  · rw [handRecords_out (by rw [← Bool.eq_false_iff.mpr part, ← before]; rfl), before]

/-- With a slot free beside OPEN's and no stall run the SEALED stream stores its record. -/
theorem handBoth_sealed (opens : (handRecords .openS [r] s).output.openS.fifo = s.output.openS.fifo ++ stored [r])
    (record : x ≠ .close) (part : s.output.sealedS.takesPart = true) (unstalled : s.output.sealedS.stallRun = none)
    (room : s.output.openS.held + s.output.sealedS.held < 2047) (sealedRoom : s.output.sealedS.held < 1024) :
    (handBoth r [x] s).output.sealedS.fifo = s.output.sealedS.fifo ++ stored [x] := by
  have before := handOpen_sealed r s
  have openHeld : (handRecords .openS [r] s).output.openS.held = s.output.openS.held + 1 := by
    refine Eq.trans ?_ (held_store [r] s.output.openS)
    unfold StreamState.held
    rw [opens]
    rfl
  have free : 1 ≤ (handRecords .openS [r] s).output.freeSlots .sealedS := by
    change 1 ≤ min (2048 - ((handRecords .openS [r] s).output.openS.held + (handRecords .openS [r] s).output.sealedS.held))
      (1024 - (handRecords .openS [r] s).output.sealedS.held)
    rw [openHeld, before]
    omega
  have stores := handRecords_stores (s := handRecords .openS [r] s) (st := .sealedS) (l := [x])
    (by rw [← part, ← before]; rfl) (by rw [← unstalled, ← before]; rfl) (by simpa using record) free
  refine (congrArg Prod.fst stores).trans ?_
  rw [← before]
  rfl

end

/-! ## The close point of a recorded block (R94, R101, R102) -/

theorem closeRest_tables (h : s.proceeding.state = .opened) : (closeRest k s).tables = s.tables :=
  ((Leaves.refl [.recordTime, .next] s).after_closeRest (k := k) (by simp) (by simp) (.inr (by simp [h]))).tables (by simp)

/-- The SEALED stream is handed the record of the SEALED tracks, and none where it takes no part or no track is SEALED. -/
theorem sealedAt_cases (k : BlockNo) (s : State) :
    (s.output.sealedS.takesPart = false ∨ (∀ q, ¬ Listed s.tables.active (latchedMode s k) .sealedD q) → sealedAt k s = []) ∧
    (s.output.sealedS.takesPart = true → (∃ q, Listed s.tables.active (latchedMode s k) .sealedD q) →
      sealedAt k s = [.block (sealedRecordAt k s)]) := by
  have consumed := consumedAt_unapplied k s
  simp only [State.unapplied, Prod.mk.injEq] at consumed
  obtain ⟨-, -, -, -, -, output, -, -⟩ := consumed
  rw [← output, ← consumedAt_tables k s]
  refine ⟨fun h => sealedRecords_none (h.imp_right fun unsealed b hb seals => ?_), fun part ⟨q, seals⟩ => ?_⟩
  · exact unsealed b.track (seals ▸ disposition_of_mem_buildEntries hb)
  · obtain ⟨b, hb, -, disposition⟩ := exists_mem_buildEntries (ts := (closeTimings k s).2) (gb := blocksAt k s) seals
    exact sealedRecords_one part ⟨b, hb, disposition⟩

/-- The close point of a recorded block stores its record, and one of its SEALED tracks where the SEALED stream has room. -/
theorem ClosesInto.closeRest_stores (h : ClosesInto s k p)
    (recorded : k = p ∨ ∃ q d, Listed s.tables.active (latchedMode s k) d q ∧ d ≠ .withheldD) :
    (closeRest k s).output.openS.fifo = s.output.openS.fifo ++ stored [.block (openRecordAt k s)] ∧
    (closeRest k s).assembler.run = none ∧
    (s.output.sealedS.takesPart = false ∨ s.output.sealedS.stallRun = none ∧
        (∀ q, ¬ Listed s.tables.active (latchedMode s k) .sealedD q) →
      (closeRest k s).output.sealedS.fifo = s.output.sealedS.fifo) ∧
    (s.output.sealedS.takesPart = true → s.output.sealedS.stallRun = none →
      s.output.openS.held + s.output.sealedS.held < 2047 → s.output.sealedS.held < 1024 →
      (∃ q, Listed s.tables.active (latchedMode s k) .sealedD q) →
      (closeRest k s).output.sealedS.fifo = s.output.sealedS.fifo ++ stored [.block (sealedRecordAt k s)]) := by
  obtain ⟨output, register, -, -⟩ := closeRest_hands h.isBlockClose h.opened
  obtain ⟨none_sealed, one_sealed⟩ := sealedAt_cases k s
  have ready := h.of_unapplied (consumedAt_unapplied k s)
  have consumed := consumedAt_unapplied k s
  simp only [State.unapplied, Prod.mk.injEq] at consumed
  obtain ⟨-, -, -, -, -, same, -, -⟩ := consumed
  have opens := handOpen_stores (r := .block (openRecordAt k s)) ready.part ready.unstalled (by simp) ready.room
  have handed : (closeRest k s).output = (handBoth (.block (openRecordAt k s)) (sealedAt k s) (consumedAt k s)).output := by
    rw [output, h.openAt_eq recorded, handBoth]
  rw [handed, register, h.openAt_eq recorded]
  refine ⟨?_, rfl, fun out => ?_, fun part unstalled room sealedRoom some_sealed => ?_⟩
  · rw [handBoth_open, opens, same]
  · rw [handBoth_unsealed (by rw [same]; exact out.imp_right fun quiet => ⟨quiet.1, none_sealed (.inr quiet.2)⟩), same]
  · rw [one_sealed part some_sealed, handBoth_sealed opens (by simp) (by rw [same]; exact part) (by rw [same]; exact unstalled)
      (by rw [same]; exact room) (by rw [same]; exact sealedRoom), same]

/-- The fields that a block record of stream st takes from the state at block k's close point (R101, R102, R104). -/
structure RecordOf (r : BlockRecord) (s : State) (k : BlockNo) (st : Stream) : Prop where
  proceeding : r.proceeding = s.proceeding.id
  stream : r.stream = st
  block : r.block = k
  mode : r.mode = latchedMode s k
  time : r.time = s.timebase.recordTime
  mapGeneration : r.mapGeneration = s.tables.mapGeneration
  first : r.first = (s.proceeding.first == some k)
  last : r.last = (s.proceeding.last == some k)
  check : r.check = manualCrc r.tracks.flatten

theorem blockRecord_of (k : BlockNo) (s : State) (st : Stream) (l : List TrackBuild) :
    RecordOf (blockRecord (consumedAt k s) k (latchedMode s k) (blocksAt k s) st l) s k st := by
  have consumed := consumedAt_unapplied k s
  have tables := consumedAt_tables k s
  simp only [State.unapplied, Prod.mk.injEq] at consumed
  obtain ⟨-, -, timebase, -, -, -, proceeding, -⟩ := consumed
  generalize consumedAt k s = u at timebase proceeding tables
  refine ⟨?_, rfl, rfl, rfl, ?_, ?_, ?_, ?_, crc32_eq_manualCrc _⟩
  · rw [← proceeding]
    rfl
  · rw [← timebase]
    rfl
  · rw [← tables]
    rfl
  · rw [← proceeding]
    rfl
  · rw [← proceeding]
    rfl

theorem openRecordAt_of (k : BlockNo) (s : State) : RecordOf (openRecordAt k s) s k .openS := by
  rw [openRecordAt]
  exact blockRecord_of k s .openS _

theorem sealedRecordAt_of (k : BlockNo) (s : State) : RecordOf (sealedRecordAt k s) s k .sealedS := by
  rw [sealedRecordAt]
  exact blockRecord_of k s .sealedS _

theorem openRecordAt_tracks (k : BlockNo) (s : State) : (openRecordAt k s).items.map (·.track) =
    (List.finRange 48).filter (fun q => s.tables.active.tracks[q].mapped) := by
  rw [openRecordAt, blockRecord_tracks, entriesAt, buildEntries_tracks, consumedAt_tables]

theorem sealedRecordAt_tracks (k : BlockNo) (s : State) (q : Fin 48) : q ∈ (sealedRecordAt k s).items.map (·.track) ↔
    Listed s.tables.active (latchedMode s k) .sealedD q := by
  rw [sealedRecordAt, blockRecord_tracks, entriesAt, mem_sealedEntries_track, consumedAt_tables]

/-- The SEALED record lists tracks that the OPEN record lists too, with the same summary fields (R102). -/
theorem sealedRecordAt_items (k : BlockNo) (s : State) : (sealedRecordAt k s).items ⊆ (openRecordAt k s).items := by
  have listed (l : List TrackBuild) : (sealedEntries l).map TrackBuild.item ⊆ l.map TrackBuild.item :=
    List.map_subset _ (List.filter_subset_self _)
  rw [sealedRecordAt, openRecordAt, blockRecord_items, blockRecord_items]
  exact listed (entriesAt k s)

end Sys2Proof.Machine
end

section
/-! PROOFS. The boundary of a timer's expiry that closes one block, and the records through the store (R7, R8, R92, R94, R115 to
R119, R124). -/

namespace Sys2Proof.Machine

variable {s a : State} {k p : BlockNo} {g : Tick}

/-! ## A boundary up to its close points (R24, R69, R76, R95, R125, R135) -/

/-- Record Output with the stall and confirm timers advanced by one boundary. -/
def RecordOutput.counted (o : RecordOutput) : RecordOutput :=
  { o with openS := o.openS.countStall.countConfirm, sealedS := o.sealedS.countStall.countConfirm }

theorem countBoundary_frame (s : State) : ∃ v x e, countBoundary s =
    { s with stations := v, tally := x, engine := e, output := s.output.counted } := by
  unfold countBoundary
  rw [countTest_frame]
  exact ⟨_, _, _, rfl⟩

/-- In OPEN a boundary, up to its close points, latches the mode, notes its kind, and moves stations and counts (R69, R95). -/
theorem beforeCloses_opened (kind : BoundaryKind) (j : BlockNo) (opened : s.proceeding.state = .opened) :
    ∃ v x e, beforeCloses kind j s = { s with
      stations := v, tally := x, engine := e, output := s.output.counted
      mode := { s.mode with latch := s.mode.latch ++ [{ block := j, mode := s.mode.current }] }
      assembler := { s.assembler with kinds := s.assembler.kinds ++ [{ block := j, kind := kind }] } } := by
  have stays : openAtBoundary j (appendPendingAll j (appendKind j kind (latchMode j s))) =
      appendPendingAll j (appendKind j kind (latchMode j s)) := by
    refine if_neg ?_
    change ¬ s.proceeding.state = .armed
    simp [opened]
  obtain ⟨v, x, e, counted⟩ := countBoundary_frame (appendPendingAll j (appendKind j kind (latchMode j s)))
  exact ⟨v, x, e, by rw [beforeCloses, stays, counted, appendPendingAll, appendKind, latchMode]⟩

/-- A mode latched for another block leaves block k's (R69). -/
theorem latchedMode_append {j : BlockNo} (other : j ≠ k) (h : a.mode =
    { s.mode with latch := s.mode.latch ++ [{ block := j, mode := s.mode.current }] }) : latchedMode a k = latchedMode s k := by
  unfold latchedMode
  rw [h, List.find?_append]
  cases s.mode.latch.find? fun e => e.block == k with
  | some e => rfl
  | none => simp [other]

theorem applyAtClose_unapplied (s : State) : (applyAtClose s).unapplied = s.unapplied := by
  unfold applyAtClose
  split
  · exact (reexamineTest_ends _).unapplied.trans (applyStaged_unapplied s)
  · rfl

/-! ## The timer's command (R7, R8) -/

/-- The command is the expiry of the timer that runs, set for an instant (R7, R8). -/
def TimerExpires (s : State) (c : Instr) (g : Tick) : Prop :=
  c = .guardExpiry ∧ s.timebase.state = .locked ∧ s.timebase.guardTimer = some g ∨
    c = .synthesisTimerExpiry ∧ s.timebase.state = .holdover ∧ s.timebase.synthesisTimer = some g

/-- The state at the synthesised boundary of a timer set for an instant, before its close points. -/
def boundaryAt (g : Tick) (s : State) : State :=
  beforeCloses .synthesised (s.timebase.blockNumber + 1)
    { s with timebase := (s.timebase.synthesising g).step .synthesised s.timebase.expected g }

theorem synthesise_eq (g : Tick) (s : State) :
    synthesise g s = closeAtBoundary (s.timebase.blockNumber + 1) (boundaryAt g s) := rfl

/-- A timer's expiry at which one close point falls handles it, and then takes what waits. -/
theorem exec_timer_closes {c : Instr} (timer : TimerExpires s c g) (next : s.assembler.next = some k)
    (due : counterDiff (s.timebase.blockNumber + 1) k = (s.assembler.closeDelay : Int) + 1) :
    ∃ w, exec c s = .next (settle w) ∧ w.output = (closePoint k (boundaryAt g s)).output ∧
      w.tables = (closePoint k (boundaryAt g s)).tables ∧ w.assembler = (closePoint k (boundaryAt g s)).assembler := by
  have before := beforeCloses_leaves .synthesised (s.timebase.blockNumber + 1)
    { s with timebase := (s.timebase.synthesising g).step .synthesised s.timebase.expected g }
  have closes : synthesise g s = closePoint k (boundaryAt g s) := by
    have at_k : (boundaryAt g s).assembler.next = some k := (before.next (by simp)).trans next
    have delay : (boundaryAt g s).assembler.closeDelay = s.assembler.closeDelay := before.closeDelay
    have one : (counterDiff (s.timebase.blockNumber + 1) k - (s.assembler.closeDelay : Int)).toNat = 1 := by omega
    rw [synthesise_eq, closeAtBoundary_later _ k at_k, delay, one]
    simp only [closePoints, at_k]
  rw [← closes]
  rcases timer with ⟨rfl, locked, timer⟩ | ⟨rfl, holdover, timer⟩
  · have expired : expireGuard s = raise .timebaseHoldover (synthesise g s) := by
      unfold expireGuard
      rw [locked, timer]
    exact ⟨expireGuard s, rfl, by rw [expired, raise_output], by rw [expired, raise_tables], by rw [expired, raise_assembler]⟩
  · have expired : expireSynthesis s = synthesise g s := by
      unfold expireSynthesis
      rw [holdover, timer]
    exact ⟨expireSynthesis s, rfl, by rw [expired], by rw [expired], by rw [expired]⟩

/-- What the close point at a timer's boundary in OPEN finds, once staged tables are applied. -/
theorem boundaryAt_finds (opened : s.proceeding.state = .opened) (other : s.timebase.blockNumber + 1 ≠ k)
    (ha : applyAtClose (boundaryAt g s) = a) : a.output = s.output.counted ∧ a.proceeding = s.proceeding ∧
      a.timebase.recordTime = s.timebase.recordTime ∧ a.assembler.run = s.assembler.run ∧
      latchedMode a k = latchedMode s k ∧ (s.tables.staged = false → a.tables = s.tables) := by
  obtain ⟨v, x, e, frame⟩ := beforeCloses_opened (s := { s with
    timebase := (s.timebase.synthesising g).step .synthesised s.timebase.expected g }) .synthesised
    (s.timebase.blockNumber + 1) opened
  have applied := applyAtClose_unapplied (boundaryAt g s)
  have unstaged (h : s.tables.staged = false) : a.tables = s.tables := by
    rw [← ha, applyAtClose, boundaryAt, frame]
    simp [h]
  rw [ha, boundaryAt, frame] at applied
  simp only [State.unapplied, Prod.mk.injEq] at applied
  obtain ⟨-, -, timebase, mode, assembler, output, proceeding, -⟩ := applied
  refine ⟨output, proceeding, by rw [timebase]; rfl, by rw [assembler], latchedMode_append other mode, unstaged⟩

/-! ## The block's record in its FIFO (R92, R94, R101, R102) -/

/-- A timer's boundary that closes one recorded block of an OPEN proceeding stores its records. -/
theorem exec_timer_stores {c : Instr} (timer : TimerExpires s c g) (next : s.assembler.next = some k)
    (due : counterDiff (s.timebase.blockNumber + 1) k = (s.assembler.closeDelay : Int) + 1) (closes : ClosesInto s k p)
    (recorded : k = p ∨ s.tables.staged = false ∧
      ∃ q d, Listed s.tables.active (latchedMode s k) d q ∧ d ≠ .withheldD) :
    ∃ t a, exec c s = .next t ∧ a.proceeding = s.proceeding ∧ a.timebase.recordTime = s.timebase.recordTime ∧
      latchedMode a k = latchedMode s k ∧ a.tables = t.tables ∧
      t.output.openS.fifo = s.output.openS.fifo ++ stored [.block (openRecordAt k a)] ∧ t.assembler.run = none ∧
      (s.output.sealedS.takesPart = false ∨ s.output.sealedS.stallRun = none ∧
          (∀ q, ¬ Listed t.tables.active (latchedMode s k) .sealedD q) →
        t.output.sealedS.fifo = s.output.sealedS.fifo) ∧
      (s.output.sealedS.takesPart = true → s.output.sealedS.stallRun = none →
        s.output.openS.held + s.output.sealedS.held < 2047 → s.output.sealedS.held < 1024 →
        (∃ q, Listed t.tables.active (latchedMode s k) .sealedD q) →
        t.output.sealedS.fifo = s.output.sealedS.fifo ++ stored [.block (sealedRecordAt k a)]) := by
  obtain ⟨w, run, output, tables, assembler⟩ := exec_timer_closes timer next due
  have other : s.timebase.blockNumber + 1 ≠ k := by
    intro same
    rw [same, counterDiff, BitVec.sub_self, BitVec.toInt_zero] at due
    omega
  rw [closePoint_eq] at output tables assembler
  generalize ha : applyAtClose (boundaryAt g s) = a at output tables assembler
  obtain ⟨counted, proceeding, time, register, latched, unstaged⟩ := boundaryAt_finds closes.opened other ha
  have ready : ClosesInto a k p := by
    obtain ⟨opened, first, begun, last, part, unstalled, none_held, room⟩ := closes
    refine ⟨?_, ?_, begun, ?_, ?_, ?_, register.trans none_held, ?_⟩
    · rw [proceeding, opened]
    · rw [proceeding, first]
    · rw [proceeding, last]
    · rw [counted]
      exact part
    · rw [counted]
      exact unstalled
    · rw [counted]
      exact room
  rw [closeRest_tables ready.opened] at tables
  have carries : k = p ∨ ∃ q d, Listed a.tables.active (latchedMode a k) d q ∧ d ≠ .withheldD :=
    recorded.imp_right fun ⟨plain, q, d, listed, carried⟩ => ⟨q, d, by rw [unstaged plain, latched]; exact listed, carried⟩
  obtain ⟨openFifo, none_left, unsealed, seals⟩ := ready.closeRest_stores carries
  have fifo (st : Stream) : ((settle w).stream st).fifo = (w.stream st).fifo := congrArg Prod.fst (settle_handing w st)
  rw [latched, counted, ← output] at unsealed seals
  rw [counted, ← output] at openFifo
  refine ⟨settle w, a, run, proceeding, time, latched, by rw [settle_tables, tables], (fifo .openS).trans openFifo,
    by rw [settle_assembler, assembler, none_left], fun out => (fifo .sealedS).trans (unsealed ?_),
    fun part unstalled room sealedRoom some_sealed => (fifo .sealedS).trans (seals part unstalled room sealedRoom ?_)⟩
  · rw [settle_tables, tables] at out
    exact out
  · rw [settle_tables, tables] at some_sealed
    exact some_sealed

theorem some_beq_some (k p : BlockNo) : (some p == some k) = decide (k = p) := by
  rw [Bool.eq_iff_iff, beq_iff_eq, decide_eq_true_iff, Option.some_inj, eq_comm]

theorem closePoint_of_unstaged (k : BlockNo) (h : s.tables.staged = false) : closePoint k s = closeRest k s := by
  rw [closePoint_eq, applyAtClose, if_neg (by simp [h])]

/-- Settles O42: the slot freed, the hand-off by the stall run held and the slots free, the boundary that closes one block, and what a
close point in OPEN hands over. -/
theorem recordLeavesStore : Obligations.RecordLeavesStore := by
  refine ⟨fun s f st l q rest sends sending head kept record => ⟨fun opened => ?_, ?_⟩, fun s st l part records => ?_, ?_,
    fun s k unstaged closes opened => ?_⟩
  · exact recordFrame_opened sends sending head kept record opened
  · rintro run draining last bounded part rfl held other
    exact recordFrame_draining sends sending head kept record draining last bounded part held other
  · obtain ⟨other, frame⟩ := handRecords_only st l s
    have handed := recordsHanded s st l part records
    cases st <;> exact ⟨other, frame, handed⟩
  · intro s c g k p timer next due opened first begun last part unstalled run room sealedIn sealedReady recorded
    obtain ⟨t, a, ran, proceeding, time, latched, tables, openFifo, none_left, unsealed, seals⟩ :=
      exec_timer_stores timer next due ⟨opened, first, begun, last, part, unstalled, run, room⟩
        (recorded.imp_right fun ⟨plain, q, mapped, carried⟩ => ⟨plain, q, _, ⟨mapped, rfl⟩, carried⟩)
    have r := openRecordAt_of k a
    have x := sealedRecordAt_of k a
    refine ⟨t, openRecordAt k a, ran, openFifo, none_left, r.proceeding.trans (by rw [proceeding]), r.stream, r.block,
      r.mode.trans latched, r.time.trans time, r.mapGeneration.trans (by rw [tables]), r.first.trans ?_, r.last.trans ?_, r.check,
      ?_, unsealed, fun ⟨takes, quiet, room, sealedRoom⟩ some_sealed => ⟨sealedRecordAt k a,
        seals takes quiet room sealedRoom some_sealed, x.stream, x.block, x.mode.trans latched, x.time.trans time, x.check,
        fun y hy => sealedRecordAt_items k a hy, fun q => ?_⟩⟩
    · rw [proceeding, first, some_beq_some]
    · rw [proceeding, last]
      rfl
    · rw [openRecordAt_tracks, tables]
    · rw [sealedRecordAt_tracks, tables, latched]
      rfl
  · obtain ⟨output, register, folds, next⟩ := closeRest_hands closes opened
    rw [← closePoint_of_unstaged k unstaged] at output register folds next
    rw [satAdd_eq_min] at folds
    unfold openAt sealedAt entriesAt consumedAt blocksAt at output
    unfold openAt entriesAt consumedAt blocksAt at register
    unfold entriesAt consumedAt blocksAt at folds
    exact ⟨output, register, folds, next⟩

end Sys2Proof.Machine
end

section
/-! PROOFS. Every command ends settled: what leaves the state as it stands, what writes only counts, the resets, and what ends with
the sender and the arbiters (R123, R160 to R162). -/

namespace Sys2Proof.Machine

variable {s t : State}

/-! ## Effects that leave nothing waiting -/

/-- Being settled reads the Record Output, the queues and the readiness of the ports, and the monitor frame that waits for each. -/
theorem State.Settled.congr (settled : s.Settled) (output : t.output = s.output) (ready : ∀ p, portReady t p = portReady s p)
    (monitor : ∀ p, monitorFor t p = monitorFor s p) (control : t.ports.control = s.ports.control)
    (management : t.ports.management = s.ports.management) (forwardAB : t.ports.forwardAB = s.ports.forwardAB)
    (forwardBA : t.ports.forwardBA = s.ports.forwardBA) : t.Settled := by
  have offered : offeredFrame t = offeredFrame s := by
    unfold offeredFrame
    rw [output]
  unfold State.Settled
  rw [output, ready, ready, monitor, monitor, control, management, forwardAB, forwardBA, offered]
  exact settled

/-- A port's counts are not among what the end of a command looks at (R154). -/
theorem State.Settled.after_modPort (settled : s.Settled) {p : Port} {f : PortStatus → PortStatus}
    (counts : ∀ x, (f x).linkUp = x.linkUp ∧ (f x).transmitting = x.transmitting) : (modPort p f s).Settled := by
  refine settled.congr (modPort_output s p f) (fun q => ?_) (fun q => ?_) (modPort_control s p f)
    (modPort_management_queue s p f) (modPort_forwardAB s p f) (modPort_forwardBA s p f)
  · unfold portReady
    by_cases same : q = p
    · rw [same, modPort_port_self, (counts _).1, (counts _).2]
    · rw [modPort_port_other s p q f same]
  · unfold monitorFor
    rw [modPort_engine]

/-- A period that lapses moves counts alone; a test has no monitor frame to send (R76, R151). -/
theorem State.Settled.after_idleTick (settled : s.Settled) : (idleTick s).Settled := by
  unfold idleTick
  split
  · exact settled
  · refine settled.congr (by rw [countTest_frame]; rfl) (fun p => by rw [countTest_frame]; rfl) (fun p => ?_)
      (by rw [countTest_frame]; rfl) (by rw [countTest_frame]; rfl) (by rw [countTest_frame]; rfl) (by rw [countTest_frame]; rfl)
    by_cases tested : ∃ x, s.engine.state = .test x
    · obtain ⟨x, test⟩ := tested
      rw [countTest_test (s := countRefresh s) test]
      unfold monitorFor
      rw [test]
      rfl
    · rw [countTest_untested (s := countRefresh s) fun x test => tested ⟨x, test⟩]
      rfl

/-- A hard reset leaves nothing to take anywhere (R141, R143, R164). -/
theorem hardReset_settled (c : ResetCause) (s : State) : (hardReset c s).Settled :=
  Restarting.settled (up := s.ports.a.linkUp) (upB := s.ports.b.linkUp) ⟨rfl, rfl, rfl, rfl, rfl, rfl, rfl⟩

/-! ## Commands (R123, R160 to R162) -/

/-- The service of a request ends with the sender and the arbiters, and one that must wait changes nothing (R169). -/
theorem State.Settled.after_serve (settled : s.Settled) (k : RequestKind) (h : List Byte → State → Answer) :
    (serve k h s).Settled := by
  by_cases serving : ∃ r rest, Serving s k r rest
  · obtain ⟨r, rest, serving⟩ := serving
    rw [serve_serving s k r rest h serving]
    exact settled_settle _
  · rw [serve_waiting s k h fun r rest serves => serving ⟨r, rest, serves⟩]
    exact settled

theorem State.Settled.after_endDueTest (settled : s.Settled) : (endDueTest s).Settled := by
  unfold endDueTest
  split
  · split
    · exact settled_settle _
    · exact settled
  · exact settled
  · exact settled

/-- Every command leaves a settled state settled: it ends with the sender and the arbiters, changes nothing, counts, or resets. -/
theorem State.Settled.after_exec (settled : s.Settled) (c : Instr) (h : exec c s = .next t) : t.Settled := by
  have guarded {p : Bool} {u : State} : (if p then settle u else s).Settled := by
    split
    · exact settled_settle u
    · exact settled
  have counted {b : Bool} {p : Port} {f : PortStatus → PortStatus}
      (counts : ∀ x, (f x).linkUp = x.linkUp ∧ (f x).transmitting = x.transmitting) :
      (if b then modPort p f s else s).Settled := by
    split
    · exact settled.after_modPort counts
    · exact settled
  cases c with
  | powerOn => cases h; exact hardReset_settled .powerOn s
  | supplyDip => cases h; exact hardReset_settled .supplyDip s
  | receiveError p w b f => cases h; exact counted fun _ => ⟨rfl, rfl⟩
  | loopedCopy p f => cases h; exact counted fun _ => ⟨rfl, rfl⟩
  | linkStateChange | guardExpiry | synthesisTimerExpiry | frameTransmitted => cases h; exact settled_settle _
  | softResetFull | softResetRuntime | standbyEntry | passThrough | misdirected | cadenceMark | silenceCountLimit | tallyRefresh
  | recorderStalled | closeUnconfirmed | noticeHoldoffExpiry | stationAudio | credit | closeAck | request =>
    cases h
    exact guarded
  | lineTestEnd => cases h; exact settled.after_endDueTest
  | unknownRequest | readEntries | readStationStatus | writeEntries | writeStation | writeTrackMap | writeDisposition
  | writeTallyOverride | writeStream | writeDeviceConfig | setMode | pushMode | popMode | openProceeding | closeProceeding
  | queryStatus | readFaults | clearFaults | clearCounters | attachTap | detach | lineTest | setRecordTime | standby | softReset
  | setController =>
    cases h
    exact settled.after_serve _ _

/-- Settles O3: a command ends settled, and the lapse of a period leaves nothing waiting. -/
theorem settledIsKept : Obligations.SettledIsKept := by
  intro s t settled h
  unfold step at h
  split at h
  · cases h
    exact settled.after_idleTick
  · next c rest _ =>
    have dispatched : ({ s with pending := rest } : State).Settled := settled
    exact dispatched.after_exec c h

end Sys2Proof.Machine
end

section
/-! PROOFS. A write of the Stream Table (R113, R171, R181). -/

namespace Sys2Proof.Machine

variable {s : State}

/-- A stream changed leaves the state settled where a free sender may not take its head record (R123). -/
theorem State.Settled.after_modStream (settled : s.Settled) {st : Stream} {f : StreamState → StreamState}
    (untaken : s.output.sending = none → (f (s.stream st)).eligible = false) : (modStream st f s).Settled := by
  obtain ⟨sender, portA, portB⟩ := settled
  cases st with
  | openS => exact ⟨fun free => ⟨untaken free, (sender free).2⟩, portA, portB⟩
  | sealedS => exact ⟨fun free => ⟨(sender free).1, untaken free⟩, portA, portB⟩

/-- In a settled state a free sender takes the head record of no stream (R123). -/
theorem State.Settled.ineligible (settled : s.Settled) (free : s.output.sending = none) (st : Stream) :
    (s.stream st).eligible = false := by
  obtain ⟨openS, sealedS⟩ := settled.1 free
  cases st
  · exact openS
  · exact sealedS

/-! ## An entry as read (R113, R181) -/

theorem isYesNo_eq_false_iff (b : Byte) : isYesNo b = false ↔ 1 < b.toNat := by
  simp only [isYesNo, Bool.or_eq_false_iff, beq_eq_false_iff_ne]
  bv_omega

/-- What a Stream Table entry is refused for. -/
theorem readStream_eq_none {bs : List Byte} (bad : 1 < (byteAt bs 0).toNat ∨ 1 < (byteAt bs 1).toNat ∨
    (macAt bs 2).getLsbD 40 = true ∨ byteAt bs 0 = 1 ∧ macAt bs 2 = 0) : readStream bs = none := by
  refine if_pos ?_
  simp only [Bool.or_eq_true, Bool.not_eq_true', Bool.and_eq_false_iff, Bool.and_eq_true, beq_iff_eq, isYesNo_eq_false_iff]
  rcases bad with enabled | ack | group | unaddressed
  · exact .inl (.inl (.inl enabled))
  · exact .inl (.inl (.inr ack))
  · exact .inl (.inr group)
  · exact .inr unaddressed

/-- The limits of an entry that is read are stored as adjusted. -/
theorem readStream_limits {bs : List Byte} {e : StreamEntry} (read : readStream bs = some e) :
    1 ≤ e.stallLimit ∧ e.stallLimit ≤ 60 ∧ 1 ≤ e.confirmLimit ∧ e.confirmLimit ≤ 10 := by
  unfold readStream at read
  dsimp only at read
  split at read
  · cases read
  · cases read
    dsimp only
    omega

/-! ## The write (R113, R171) -/

/-- Entry e of a write of the Stream Table. -/
theorem entrySlice_stream (p : List Byte) (e : Nat) : entrySlice p 12 e = (p.drop (8 + 12 * e)).take 12 := by
  rw [entrySlice, Nat.mul_comm]

theorem rangeOk_stream_iff (p : List Byte) :
    rangeOk .stream (pFirst p) (pCount p) = true ↔ 0 < pCount p ∧ pFirst p + pCount p ≤ 2 := by
  change (decide (0 < pCount p) && decide (pFirst p + pCount p ≤ 2)) = true ↔ _
  rw [Bool.and_eq_true, decide_eq_true_iff, decide_eq_true_iff]

/-- A write is refused for its range, then outside IDLE, then for an entry out of range (R171). -/
theorem answerWriteStream_refused (p : List Byte) (s : State) :
    (pCount p = 0 ∨ 2 < pFirst p + pCount p → answerWriteStream p s = refuse .range s) ∧
    (0 < pCount p → pFirst p + pCount p ≤ 2 → s.proceeding.state ≠ .idle → answerWriteStream p s = refuse .state s) ∧
    (s.proceeding.state = .idle → readWritten readStream 12 (pCount p) p = none → answerWriteStream p s = refuse .range s) := by
  unfold answerWriteStream
  refine ⟨fun outside => if_pos ?_, fun named fits busy => ?_, fun idle unread => ?_⟩
  · rw [← Bool.not_eq_true, rangeOk_stream_iff]
    omega
  · rw [if_neg (by simp [(rangeOk_stream_iff p).mpr ⟨named, fits⟩]), if_pos busy]
  · split
    · rfl
    · rw [if_neg (not_not.mpr idle), unread]

/-- A write in IDLE whose entries are all read stores each of them (R113). -/
theorem answerWriteStream_accepted {p : List Byte} {l : List StreamEntry} (named : 0 < pCount p)
    (fits : pFirst p + pCount p ≤ 2) (idle : s.proceeding.state = .idle)
    (read : readWritten readStream 12 (pCount p) p = some l) :
    answerWriteStream p s = accept ((indexed (pFirst p) l).foldl storeStreamEntry s) := by
  unfold answerWriteStream
  rw [if_neg (by simp [(rangeOk_stream_iff p).mpr ⟨named, fits⟩]), if_neg (not_not.mpr idle), read]

/-- An entry stored under a stream's code is that stream's (R113). -/
theorem storeStreamEntry_code (st : Stream) (e : StreamEntry) (s : State) :
    storeStreamEntry s (streamCode st, e) = modStream st (fun x => { x with entry := e }) s := by
  unfold storeStreamEntry
  rw [streamOf_streamCode]

/-- Whether the sender may take a stream's head record does not depend on its entry (R123). -/
theorem State.Settled.after_entry (settled : s.Settled) (st : Stream) (e : StreamEntry) :
    (modStream st (fun x => { x with entry := e }) s).Settled :=
  settled.after_modStream fun free => settled.ineligible free st

/-- A write in IDLE whose entries are all read is answered OK once they are stored (R113, R169). -/
theorem exec_writeStream_stores {r : Request} {rest : List Request} {l : List StreamEntry} {u : State}
    (serving : Serving s .writeStream r rest) (named : 0 < pCount r.payload) (fits : pFirst r.payload + pCount r.payload ≤ 2)
    (idle : s.proceeding.state = .idle)
    (read : (List.range (pCount r.payload)).map (fun e => readStream (entrySlice r.payload 12 e)) = l.map some)
    (stored : (indexed (pFirst r.payload) l).foldl storeStreamEntry (dequeued s rest) = u) (settled : u.Settled)
    (config : u.config = s.config) :
    exec .writeStream s = .next (withReply .nothing (replyTo s.config r .ok []) u) := by
  have listed := (allOf_eq_some_iff _ l).mpr read
  have stores := answerWriteStream_accepted (s := dequeued s rest) named fits idle listed
  rw [stored] at stores
  have served := serve_accepted serving stores settled
  rw [config] at served
  exact congrArg Host.Outcome.next served

/-- Settles O48: the refusals in the order of R171, and the one or two entries stored. -/
theorem streamTableWritesInIdle : Obligations.StreamTableWritesInIdle := by
  intro s r rest settled serving first count entry refused
  obtain ⟨outside, busy, unread⟩ := answerWriteStream_refused r.payload (dequeued s rest)
  have refuses {x : ResultCode} (answer : answerWriteStream r.payload (dequeued s rest) = refuse x (dequeued s rest)) :
      refused x := congrArg Host.Outcome.next (serve_refused settled serving answer)
  have slice (e : Nat) : readStream (entrySlice r.payload 12 e) = readStream (entry e) :=
    congrArg readStream (entrySlice_stream r.payload e)
  have kept := dequeued_settled s rest settled
  refine ⟨fun range => refuses (outside range), fun named fits => ⟨fun other => refuses (busy named fits other),
    fun idle ⟨e, he, bad⟩ => refuses (unread idle ?_), fun idle one st e code read => ⟨?_, readStream_limits read⟩,
    fun idle two o e readO readE => ?_⟩⟩
  · exact allOf_eq_none (List.mem_map.mpr ⟨e, List.mem_range.mpr he, (slice e).trans (readStream_eq_none bad)⟩)
  · refine exec_writeStream_stores (l := [e]) serving named fits idle ?_ ?_ (kept.after_entry st e) (modStream_config _ _ _)
    · rw [show pCount r.payload = 1 from one]
      simp [slice, read]
    · rw [show pFirst r.payload = streamCode st from code.symm]
      exact storeStreamEntry_code st e (dequeued s rest)
  · refine exec_writeStream_stores (l := [o, e]) serving named fits idle ?_ ?_
      ((kept.after_entry .openS o).after_entry .sealedS e) (by rw [modStream_config, modStream_config]; rfl)
    · rw [show pCount r.payload = 2 from two]
      simp [slice, readO, readE, List.range_succ]
    · have from_zero : first = 0 := by omega
      rw [show pFirst r.payload = 0 from from_zero]
      rfl

end Sys2Proof.Machine
end

section
/-! PROOFS. A CREDIT frame: the wake before it, the grant that releases nothing, and the frames ignored (R12, R121, R122, R125, R140). -/

namespace Sys2Proof.Machine

variable {s : State}

/-! ## Wake (R12, R140) -/

/-- A wake changes the part, the timebase, the lamps with their TALLY frames, and what raising WOKEN changes. -/
theorem wake_woken (c : WakeCause) (s : State) : Woken c s (wake c s) := by
  refine ⟨raise_sets _ _, ?_⟩
  unfold wake
  obtain ⟨l, q, d, lamps⟩ := recomputeLamps_spec { s with
    part := { s.part with awake := true, wakeCause := some c }
    timebase := { s.timebase with state := .search, candidateCount := 0, history := [] } }
  rw [lamps]
  obtain ⟨m, h, p, raised⟩ := raise_spec .woken { s with
    part := { s.part with awake := true, wakeCause := some c }
    timebase := { s.timebase with state := .search, candidateCount := 0, history := [] }
    tally := { s.tally with lamps := l }
    ports := { s.ports with control := q, tallyDrop := d } }
  rw [raised]

/-- What arrives, and its class, depends on the configuration and the link alone (R154, R156, R157). -/
theorem arrivesAs_woken {c : WakeCause} {u : State} (woken : Woken c s u) (p : Port) (f : Frame) (k : ArrivalClass) :
    arrivesAs u p f k = arrivesAs s p f k := by
  rw [woken.2]
  cases p <;> rfl

theorem wakeByFrame_standby (f : Frame) (standby : s.part.awake = false) :
    wakeByFrame f s = wake (.frame (bodyKind f.body)) s := if_neg (by simp [standby])

theorem wakeByFrame_awake (f : Frame) (awake : s.part.awake = true) : wakeByFrame f s = s := if_pos awake

/-- A frame of the CREDIT row is of kind CREDIT (R157). -/
theorem kind_of_arrivesAs_credit {f : Frame} (arrives : arrivesAs s .B f .credit = true) : bodyKind f.body = 0x18 := by
  simp only [arrivesAs, Bool.and_eq_true, beq_iff_eq] at arrives
  obtain ⟨-, row⟩ := arrives
  unfold classify classifyB at row
  dsimp only at row
  split_ifs at row with _ _ _ _ kind
  exact kind

/-! ## A frame that names a stream (R122) -/

section
variable {f : Frame} {st : Stream}

/-- A well-formed CREDIT frame goes to the stream it names, and the sender and the arbiters follow. -/
theorem exec_credit_named (arrives : ArrivesAwake s f .credit) (formed : wellFormed f.body 4 = true)
    (named : fieldAt (payloadOf f.body) 0 1 = streamCode st) :
    exec (.credit f) s = .next (settle (creditStream st f s)) := by
  obtain ⟨arrives, awake⟩ := arrives
  have taken : takeCredit f (wakeByFrame f s) = creditStream st f s := by
    rw [wakeByFrame_awake f awake]
    unfold takeCredit
    rw [if_neg (by simp [formed]), named, streamOf_streamCode]
  refine congrArg Host.Outcome.next ((if_pos arrives).trans ?_)
  rw [taken]

theorem creditStream_idle (idle : s.proceeding.state = .idle) : creditStream st f s = s := if_pos idle

/-- A grant of 0 does not act on its stream (R121). -/
theorem creditStream_zero (zero : fieldAt (payloadOf f.body) 1 1 = 0) (part : (s.stream st).takesPart = true)
    (source : f.src = (s.stream st).entry.destination) : creditStream st f s = s := by
  unfold creditStream
  split
  · rfl
  · rw [if_pos (by simp [part, source]), grantCredit, if_pos zero]

/-- A frame for a stream that takes no part, or from another source, is counted as ignored (R122). -/
theorem creditStream_ignored (busy : s.proceeding.state ≠ .idle)
    (fails : (s.stream st).takesPart = false ∨ f.src ≠ (s.stream st).entry.destination) :
    creditStream st f s = modStream st (fun x => { x with ignoredCredit := satInc16 x.ignoredCredit }) s := by
  unfold creditStream
  rw [if_neg busy, if_neg]
  rcases fails with out | source
  · simp [out]
  · simp [source]

end

/-- A grant ends a stall: a stream with credit is not starved (R121, R125). -/
theorem followStall_addCredit {g : Nat} (some_granted : 0 < g) (x : StreamState) : (x.addCredit g).followStall =
    { x with credit := min 255 (x.credit + g), stallTimer := none, stallReported := false } := by
  have credit : (x.addCredit g).credit = min 255 (x.credit + g) := satAdd_eq_min 255 x.credit g
  have funded : (x.addCredit g).starved = false := by
    have positive : (x.addCredit g).credit ≠ 0 := by omega
    simp [StreamState.starved, positive]
  unfold StreamState.followStall
  rw [if_neg (by simp [funded]), ← credit]
  rfl

theorem eligible_of_empty {x : StreamState} (empty : x.fifo = []) : x.eligible = false := by
  unfold StreamState.eligible
  rw [empty]
  rfl

/-- Settles O38: the wake before the frame, the frames that change nothing or count one, and a grant that releases nothing. -/
theorem creditAddsGrant : Obligations.CreditAddsGrant := by
  refine ⟨fun s f arrives standby => ?_, fun s f st g settled arrives formed named grant => ?_⟩
  · have woken := wake_woken (.frame 0x18) s
    have awake : (wake (.frame 0x18) s).part.awake = true := by rw [woken.2]
    refine ⟨_, woken, ?_⟩
    change Host.Outcome.next (if arrivesAs s .B f .credit then _ else _) =
      Host.Outcome.next (if arrivesAs (wake (.frame 0x18) s) .B f .credit then _ else _)
    rw [arrivesAs_woken woken, if_pos arrives, if_pos arrives, wakeByFrame_standby f standby,
      kind_of_arrivesAs_credit arrives, wakeByFrame_awake f awake]
  · rw [exec_credit_named arrives formed named]
    refine ⟨fun idle => ?_, fun busy fails => ?_, fun busy part source waits some_granted => ?_, fun _ part source zero => ?_⟩
    · rw [creditStream_idle idle, settle_of_settled s settled]
    · rw [creditStream_ignored busy fails]
      exact congrArg _ (settle_of_settled _ (settled.after_modStream fun free => settled.ineligible free st))
    · rw [← exec_credit_named arrives formed named, exec_credit_granted arrives formed named grant some_granted busy part source]
      simp only [followStall_addCredit some_granted]
      refine congrArg _ (settle_of_settled _ (settled.after_modStream fun free => eligible_of_empty ?_))
      exact waits.resolve_left (not_not.mpr free)
    · rw [creditStream_zero (grant.trans zero) part source, settle_of_settled s settled]

end Sys2Proof.Machine
end

section
/-! PROOFS. A stall at its limit: what reporting it writes, and when a drain failure follows (R125, R127, R134, R178). -/

namespace Sys2Proof.Machine

variable {s : State} {st : Stream}

/-! ## The end of a command that only queues frames (R160 to R162) -/

theorem arbiterA_b (s : State) : (arbiterA s).ports.b = s.ports.b := by
  unfold arbiterA
  split
  · unfold selectA
    split
    · rfl
    · split <;> rfl
  · rfl

/-- Where the sender has nothing to take and no monitor frame may go, the end of a command changes the ports alone. -/
theorem settle_ports
    (sender : s.output.sending = none → s.output.openS.eligible = false ∧ s.output.sealedS.eligible = false)
    (quiet : ∀ p, portReady s p = true → monitorFor s p = none) : ∃ p, settle s = { s with ports := p } := by
  have portB_ready : portReady (arbiterA s) .B = portReady s .B := by
    unfold portReady State.port
    dsimp only
    rw [arbiterA_b]
  obtain ⟨p, portA⟩ := arbiterA_ports (quiet .A)
  obtain ⟨q, portB⟩ := arbiterB_ports (s := arbiterA s) fun ready => by
    have idle := quiet .B (portB_ready ▸ ready)
    rw [portA]
    exact idle
  exact ⟨q, by rw [settle, runSender_settled s sender, portB, portA]⟩

/-- In a settled state no port that is ready has a monitor frame waiting. -/
theorem State.Settled.quiet (settled : s.Settled) (p : Port) (ready : portReady s p = true) : monitorFor s p = none := by
  obtain ⟨-, portA, portB⟩ := settled
  cases p with
  | A => exact (portA ready).2.1
  | B => exact (portB ready).2.1

/-! ## The report (R125, R127, R178) -/

/-- A stream whose stall has been reported: marked and counted. -/
def StreamState.reported (x : StreamState) : StreamState :=
  { x with stalledMark := true, stallReported := true, stalledCount := satInc16 x.stalledCount }

/-- The occurrence that a reported stall writes to the OUTPUT class (R178, R185). -/
def stallOccurrence (s : State) (st : Stream) : Occurrence :=
  { subject := BitVec.ofNat 48 (streamCode st), block := s.timebase.blockNumber,
    detail := half (s.stream st).stallHeld ++ byte (s.stream st).entry.stallLimit }

theorem reportStall_eq (st : Stream) (s : State) : reportStall st s =
    logFault faultOutput (stallOccurrence s st) (modStream st StreamState.reported (raise .recorderStalled s)) := rfl

/-- A report changes its stream, the flags and what a flag's rise puts out, and the Fault Log. -/
theorem reportStall_only (st : Stream) (s : State) : OnlyHands st s (reportStall st s) := by
  rw [reportStall_eq]
  obtain ⟨other, frame⟩ := ((OnlyHands.refl st s).after_raise (f := .recorderStalled)).after_modStream
    (f := StreamState.reported)
  refine ⟨other, ?_⟩
  rw [frame]
  rfl

theorem reportStall_stream (st : Stream) (s : State) : (reportStall st s).stream st = (s.stream st).reported := by
  have raised : (raise .recorderStalled s).stream st = s.stream st := congrArg (·.stream st) (raise_output .recorderStalled s)
  rw [reportStall_eq, ← raised]
  exact modStream_stream_self _ _ _

theorem reportStall_sending (st : Stream) (s : State) : (reportStall st s).output.sending = s.output.sending := by
  rw [reportStall_eq, logFault_output, modStream_sending, raise_output]

theorem reportStall_flagSet (st : Stream) (s : State) : flagSet (reportStall st s) .recorderStalled = true := by
  rw [reportStall_eq]
  unfold flagSet
  rw [logFault_flags, modStream_management]
  exact raise_sets _ _

theorem reportStall_fault (st : Stream) (s : State) : (reportStall st s).management.faults[faultOutput] =
    (s.management.faults[faultOutput]).record (stallOccurrence s st) := by
  rw [reportStall_eq, logFault_class_self, modStream_management, raise_management_faults]

/-- An occurrence is recorded as the first, or as REPEATED (R178). -/
theorem FaultClass.record_cases (c : FaultClass) (o : Occurrence) :
    (c.first = none → (c.record o).first = some o) ∧ (c.first ≠ none → c.record o = { c with repeated := true }) := by
  unfold FaultClass.record
  cases c.first with
  | none => exact ⟨fun _ => rfl, fun filled => absurd rfl filled⟩
  | some x => exact ⟨fun empty => absurd empty (Option.some_ne_none x), fun _ => rfl⟩

/-! ## The command (R125, R134) -/

theorem stallDue_iff (x : StreamState) : x.stallDue = true ↔ ∃ n, x.stallTimer = some n ∧ x.entry.stallLimit * 200 ≤ n := by
  unfold StreamState.stallDue
  cases x.stallTimer with
  | none => simp
  | some n =>
    exact ⟨fun due => ⟨n, rfl, of_decide_eq_true due⟩, fun ⟨_, same, due⟩ => decide_eq_true (Option.some.inj same ▸ due)⟩

theorem exec_recorderStalled (part : (s.stream st).takesPart = true) (due : (s.stream st).stallDue = true)
    (fresh : (s.stream st).stallReported = false) :
    exec (.recorderStalled st) s = .next (settle (takeDrainFailure st (reportStall st s))) :=
  congrArg Host.Outcome.next (if_pos (by simp [stallUnreported, part, due, fresh]))

/-- A stall of a stream that takes no part, that is below its limit or that has been reported is not reported. -/
theorem exec_recorderStalled_rests
    (rests : (s.stream st).takesPart = false ∨ (s.stream st).stallDue = false ∨ (s.stream st).stallReported = true) :
    exec (.recorderStalled st) s = .next s := by
  refine congrArg Host.Outcome.next (if_neg ?_)
  rcases rests with out | early | reported
  · simp [stallUnreported, out]
  · simp [stallUnreported, early]
  · simp [stallUnreported, reported]

/-- A reported stall at its limit is a drain failure in DRAINING once the last block has closed, unless its stream has failed before
(R134). -/
theorem drainFailureDue_reported (due : (s.stream st).stallDue = true) : drainFailureDue (reportStall st s) st = true ↔
    s.proceeding.state = .draining ∧ lastClosed s = true ∧ (s.stream st).drainFailed = false := by
  have stream := reportStall_stream st s
  obtain ⟨-, frame⟩ := reportStall_only st s
  have proceeding : (reportStall st s).proceeding = s.proceeding := by rw [frame]
  have last : lastClosed (reportStall st s) = lastClosed s := by rw [frame]; rfl
  have still_due : (s.stream st).reported.stallDue = true := due
  have failed : (s.stream st).reported.drainFailed = (s.stream st).drainFailed := rfl
  have marked : (s.stream st).reported.stallReported = true := rfl
  unfold drainFailureDue
  simp [proceeding, last, stream, still_due, failed, marked, and_assoc]

/-- A report leaves the sender nothing to take: whether a head record may go does not depend on it (R123). -/
theorem State.Settled.reported_sender (settled : s.Settled) (free : (reportStall st s).output.sending = none) :
    (reportStall st s).output.openS.eligible = false ∧ (reportStall st s).output.sealedS.eligible = false := by
  rw [reportStall_sending] at free
  have self : ((reportStall st s).stream st).eligible = false := by
    rw [reportStall_stream]
    exact settled.ineligible free st
  have other : ((reportStall st s).stream (otherStream st)).eligible = false := by
    rw [(reportStall_only st s).1]
    exact settled.ineligible free (otherStream st)
  cases st
  · exact ⟨self, other⟩
  · exact ⟨other, self⟩

/-- With nothing but a report to take, the end of the command changes the ports alone. -/
theorem State.Settled.settle_reportStall (settled : s.Settled) (st : Stream) :
    ∃ p, settle (reportStall st s) = { reportStall st s with ports := p } := by
  refine settle_ports settled.reported_sender fun p ready => ?_
  obtain ⟨-, frame⟩ := reportStall_only st s
  have port : (reportStall st s).port p = s.port p := by
    rw [reportStall_eq]
    refine Eq.trans ?_ (raise_port .recorderStalled s p)
    cases st <;> cases p <;> rfl
  have idle := settled.quiet p (by unfold portReady at ready ⊢; rwa [port] at ready)
  rw [frame]
  exact idle

/-- Settles O27: the report with its frame where no drain failure is due, and the stalls that are not reported. -/
theorem stallLimitIsReported : Obligations.StallLimitIsReported := by
  intro s st settled
  refine ⟨fun n undrained part timer limit fresh => ?_, fun rests => exec_recorderStalled_rests ?_⟩
  · have due := (stallDue_iff (s.stream st)).mpr ⟨n, timer, limit⟩
    have unfailed : takeDrainFailure st (reportStall st s) = reportStall st s := by
      refine if_neg fun failure => ?_
      obtain ⟨draining, last, kept⟩ := (drainFailureDue_reported due).mp failure
      simp [draining, last, kept] at undrained
    have run := exec_recorderStalled part due fresh
    obtain ⟨p, settles⟩ := settled.settle_reportStall st
    obtain ⟨other, frame⟩ := reportStall_only st s
    obtain ⟨first, repeated⟩ := FaultClass.record_cases (s.management.faults[faultOutput]) (stallOccurrence s st)
    rw [unfailed, settles] at run
    refine ⟨_, run, reportStall_stream st s, other, reportStall_flagSet st s, fun empty => ?_, fun filled => ?_, ?_⟩
    · exact (congrArg FaultClass.first (reportStall_fault st s)).trans (first empty)
    · exact (reportStall_fault st s).trans (repeated filled)
    · rw [frame]
  · rcases rests with out | stopped | reported | ⟨n, timer, below⟩
    · exact .inl out
    · refine .inr (.inl (Bool.eq_false_iff.mpr fun due => ?_))
      obtain ⟨n, timer, -⟩ := (stallDue_iff _).mp due
      rw [stopped] at timer
      cases timer
    · exact .inr (.inr reported)
    · refine .inr (.inl (Bool.eq_false_iff.mpr fun due => ?_))
      obtain ⟨m, running, limit⟩ := (stallDue_iff _).mp due
      rw [timer] at running
      cases running
      omega

end Sys2Proof.Machine
end

section
/-! PROOFS. A drain failure: the series it merges into one run, the FIFO it leaves, and what follows it in the same command (R116, R117,
R119, R124, R134). -/

namespace Sys2Proof.Machine

variable {s : State} {st : Stream}

/-! ## What a drain failure writes to a stream -/

/-- What a drain failure writes to a stream and neither its stall timer nor the sender touches afterwards. -/
def StreamState.failure (x : StreamState) := (x.fifo, x.stallRun, x.stallCount, x.drainFailed, x.stalledMark)

theorem followStall_failure (x : StreamState) : x.followStall.failure = x.failure := by
  obtain ⟨n, b, frame⟩ := followStall_frame x
  rw [frame]
  rfl

theorem eq_otherStream_of_ne {x : Stream} (h : x ≠ st) : x = otherStream st := by
  revert h
  cases x <;> cases st <;> simp [otherStream]

/-- What neither the taking of a record nor the stall timer writes stands at the end of a command (R123, R125). -/
theorem settle_keeps {α : Type} {g : StreamState → α} (follow : ∀ x, g x.followStall = g x) (take : ∀ q x, g (x.take q) = g x)
    (s : State) (x : Stream) : g ((settle s).stream x) = g (s.stream x) := by
  refine (congrArg (fun o : RecordOutput => g (o.stream x)) (settle_output s)).trans ?_
  change g ((runSender s).stream x) = _
  unfold runSender
  split
  · next st _ _ =>
    split
    · next q _ =>
      obtain ⟨self, other, -, -⟩ := takeRecord_stream st q s
      by_cases same : x = st
      · rw [same, self, follow, take]
      · rw [eq_otherStream_of_ne same, other]
    · rfl
  · rfl

theorem settle_failure (s : State) (x : Stream) : ((settle s).stream x).failure = (s.stream x).failure :=
  settle_keeps followStall_failure (fun _ _ => rfl) s x

/-- A late run of one stream leaves the other (R119). -/
theorem storeLateRun_other (st : Stream) (s : State) :
    (storeLateRun st s).stream (otherStream st) = s.stream (otherStream st) := by
  have stored : OnlyHands st s (storeStallRun st s) := by
    unfold storeStallRun
    split
    · exact (OnlyHands.refl st s).after_modStream
    · exact OnlyHands.refl st s
  unfold storeLateRun
  split
  · exact stored.after_modStream.1
  · rfl

/-- A stream that holds no stall run has no late run to store (R119). -/
theorem storeLateRun_failure (none_held : (s.stream st).stallRun = none) (x : Stream) :
    ((storeLateRun x s).stream st).failure = (s.stream st).failure := by
  by_cases same : x = st
  · subst same
    rcases storeLateRun_rests none_held with rests | follows
    · rw [rests]
    · rw [follows, modStream_stream_self, followStall_failure]
  · rw [eq_otherStream_of_ne (Ne.symm same), storeLateRun_other]

theorem storeLateRuns_failure (none_held : (s.stream st).stallRun = none) :
    ((storeLateRuns s).stream st).failure = (s.stream st).failure := by
  unfold storeLateRuns
  split
  · have openS := storeLateRun_failure none_held .openS
    have kept : ((storeLateRun .openS s).stream st).stallRun = none := (congrArg (·.2.1) openS).trans none_held
    exact (storeLateRun_failure kept .sealedS).trans openS
  · rfl

/-! ## The merged run (R117, R134) -/

/-- The series of a nonempty list are merged into one that covers them (R134). -/
theorem mergeSeries_covers {l : List RunRegister} (h : l ≠ []) : ∃ run, mergeSeries l = some run ∧ run.Covers l := by
  cases l with
  | nil => exact absurd rfl h
  | cons x xs => exact ⟨_, rfl, (covers_self x).absorb_all xs⟩

/-- A drain failure that merges series leaves the run in the FIFO, and is a new stall where no stall run was held (R134). -/
theorem drainFail_failure {run : RunRegister} (merged : mergeSeries (failedSeries s st) = some run) :
    ((drainFail st s).stream st).failure = (failedFifo s st (some run), none,
      if (s.stream st).stallRun.isNone then satInc16 (s.stream st).stallCount else (s.stream st).stallCount, true,
      (s.stream st).stalledMark) := by
  unfold drainFail
  simp only [merged, Option.isSome_some, Bool.and_true]
  rw [modStream_stream_self, followStall_failure]
  unfold State.stream
  split
  · rw [raise_output]
    cases st <;> rfl
  · cases st <;> rfl

/-- A drain failure that starts a stall raises OUTPUT_STALL (R116, R134). -/
theorem drainFail_flagSet {run : RunRegister} (merged : mergeSeries (failedSeries s st) = some run)
    (fresh : (s.stream st).stallRun = none) : flagSet (drainFail st s) .outputStall = true := by
  unfold drainFail flagSet
  simp only [merged, fresh, Option.isSome_some, Option.isNone_none, Bool.and_true, if_true, modStream_management]
  exact raise_sets _ _

/-! ## The records taken and left (R134; log entry 13) -/

/-- The records of a FIFO that the sender has taken and those it has not: at most the head is being sent. -/
theorem takenRecords_eq {taken left : List QueuedRecord} (fifo : (s.stream st).fifo = taken ++ left)
    (sent : ∀ x, s.output.sending = some x → x.stream = st → taken.length = 1)
    (unsent : s.output.sending = none ∨ (∃ x, s.output.sending = some x ∧ x.stream ≠ st) → taken = []) :
    takenRecords s st = taken ∧ untakenRecords s st = left := by
  have head : takenRecords s st = taken := by
    unfold takenRecords
    split
    · next x sending =>
      split
      · next same => rw [fifo, ← sent x sending same, List.take_left]
      · next other => exact (unsent (.inr ⟨x, sending, other⟩)).symm
    · next free => exact (unsent (.inl free)).symm
  exact ⟨head, by rw [untakenRecords, head, fifo, List.drop_left]⟩

/-- Settles O28: the report of the stall, the failure that merges what the sender has not taken, and what the end of the command leaves
of it. -/
theorem drainFailureMergesRecords : Obligations.DrainFailureMergesRecords := by
  intro s st n draining last part timer limit unreported unfailed taken left fifo sent unsent merged some_merged
  have due := (stallDue_iff (s.stream st)).mpr ⟨n, timer, limit⟩
  have run := exec_recorderStalled part due unreported
  have kept := ((Leaves.refl [] (reportStall st s)).after_takeDrainFailure (st := st)).flags
  rw [takeDrainFailure, if_pos ((drainFailureDue_reported due).mpr ⟨draining, last, unfailed⟩)] at run kept
  have reported := reportStall_stream st s
  have flagged := reportStall_flagSet st s
  have sending := reportStall_sending st s
  obtain ⟨-, frame⟩ := reportStall_only st s
  have proceeding : (reportStall st s).proceeding = s.proceeding := by rw [frame]
  generalize reportStall st s = u at run kept reported flagged sending proceeding
  have queue : (u.stream st).fifo = taken ++ left := by rw [reported]; exact fifo
  obtain ⟨head, rest⟩ := takenRecords_eq queue (by rwa [sending]) (by rwa [sending])
  have series : failedSeries u st = merged := by
    rw [failedSeries, rest, reported]
    rfl
  obtain ⟨r, merges, covers⟩ := mergeSeries_covers some_merged
  rw [← series] at merges
  have fails := drainFail_failure merges
  have shown := (settle_failure _ st).trans ((storeLateRuns_failure (congrArg (·.2.1) fails)).trans fails)
  have late := Leaves.flags ((Leaves.refl [] (drainFail st u)).after_storeLateRuns)
  rw [failedFifo, head, rest, reported, proceeding] at shown
  simp only [StreamState.failure, Prod.mk.injEq] at shown
  obtain ⟨fifo', none_held, count, failed, mark⟩ := shown
  refine ⟨_, buildRun s.proceeding.id st .outputStall r, run, failed, none_held, fifo', rfl, covers, ?_, mark,
    fun held => count.trans (if_neg ?_), fun fresh => ⟨count.trans (if_pos ?_), ?_⟩⟩
  · rw [settle_flagSet]
    exact kept _ flagged
  · simpa [StreamState.reported] using held
  · simp [StreamState.reported, fresh]
  · rw [settle_flagSet]
    exact late _ (drainFail_flagSet merges (by rw [reported]; exact fresh))

end Sys2Proof.Machine
end

section
/-! PROOFS. STANDBY and SOFT_RESET, answered with the entry or the reset waiting for the REPLY (R138, R141, R169). -/

namespace Sys2Proof.Machine

variable {s : State}

/-! ## STANDBY (R138) -/

theorem answerStandby_busy (p : List Byte) (busy : s.proceeding.state ≠ .idle ∨ s.engine.state ≠ .idle) :
    answerStandby p s = refuse .state s := if_pos busy

theorem answerStandby_flagged (p : List Byte) (idle : s.proceeding.state = .idle) (free : s.engine.state = .idle)
    (flagged : s.management.flags ≠ 0) : answerStandby p s = acceptWith [0, 0, 0, 0] s :=
  (if_neg (by simp [idle, free])).trans (if_pos flagged)

theorem answerStandby_entered (p : List Byte) (idle : s.proceeding.state = .idle) (free : s.engine.state = .idle)
    (unflagged : s.management.flags = 0) : answerStandby p s =
      { state := arm .enterStandby s, result := .ok, data := [1, 0, 0, 0], after := .enterStandby } :=
  (if_neg (by simp [idle, free])).trans (if_neg (not_not.mpr unflagged))

/-! ## SOFT_RESET (R141) -/

theorem answerSoftReset_full {p : List Byte} (scope : fieldAt p 4 1 = 1) (s : State) :
    answerSoftReset p s = { state := arm .resetFull s, result := .ok, data := [], after := .resetFull } := by
  unfold answerSoftReset
  rw [scope]
  rfl

theorem answerSoftReset_runtime {p : List Byte} (scope : fieldAt p 4 1 = 2) (s : State) :
    answerSoftReset p s = { state := arm .resetRuntime s, result := .ok, data := [], after := .resetRuntime } := by
  unfold answerSoftReset
  rw [scope]
  rfl

theorem answerSoftReset_refused {p : List Byte} (not_full : fieldAt p 4 1 ≠ 1) (not_runtime : fieldAt p 4 1 ≠ 2)
    (s : State) : answerSoftReset p s = refuse .range s := by
  unfold answerSoftReset
  split
  · next full => exact absurd full not_full
  · next runtime => exact absurd runtime not_runtime
  · rfl

/-! ## The requests (R169) -/

section
variable {r : Request} {rest : List Request} {k : RequestKind} {h : List Byte → State → Answer} {data : List Byte}

/-- A request that reads data leaves the state as it stood without it (R169). -/
theorem serve_read (settled : s.Settled) (serving : Serving s k r rest)
    (answer : h r.payload (dequeued s rest) = acceptWith data (dequeued s rest)) :
    serve k h s = withReply .nothing (replyTo s.config r .ok data) (dequeued s rest) := by
  rw [serve_reply s k r rest h serving (by rw [answer]; exact dequeued_settled s rest settled), answer]
  rfl

/-- A request whose effect waits for its REPLY holds back the requests behind it until then (R169). -/
theorem serve_armed {a : AfterReply} (settled : s.Settled) (serving : Serving s k r rest)
    (answer : h r.payload (dequeued s rest) = { state := arm a (dequeued s rest), result := .ok, data := data, after := a }) :
    serve k h s = withReply a (replyTo s.config r .ok data)
      { s with management := { s.management with requests := rest, armed := a } } := by
  rw [serve_reply s k r rest h serving (by rw [answer]; exact dequeued_settled s rest settled), answer]
  rfl

end

/-- Settles O59: each answer of the two handlers, served in a settled state. -/
theorem standbyAndSoftResetWait : Obligations.StandbyAndSoftResetWait := by
  intro s r rest settled waiting
  refine ⟨fun serving => ⟨fun busy => ?_, fun idle free flagged => ?_, fun idle free unflagged => ?_⟩,
    fun serving => ⟨fun full => ?_, fun runtime => ?_, fun not_full not_runtime => ?_⟩⟩
  · exact congrArg Host.Outcome.next (serve_refused settled serving (answerStandby_busy r.payload busy))
  · exact congrArg Host.Outcome.next (serve_read settled serving (answerStandby_flagged r.payload idle free flagged))
  · exact congrArg Host.Outcome.next (serve_armed settled serving (answerStandby_entered r.payload idle free unflagged))
  · exact congrArg Host.Outcome.next (serve_armed settled serving (answerSoftReset_full full _))
  · exact congrArg Host.Outcome.next (serve_armed settled serving (answerSoftReset_runtime runtime _))
  · exact congrArg Host.Outcome.next (serve_refused settled serving (answerSoftReset_refused not_full not_runtime _))

end Sys2Proof.Machine
end

section
/-! PROOFS. Frames that wake the part before they are handled, and a REQUEST that arrives (R140, R157, R162, R167, R168). -/

namespace Sys2Proof.Machine

variable {s : State} {p : Port} {f : Frame} {k : ArrivalClass}

/-! ## A frame that wakes (R140) -/

/-- A frame of a row that wakes the part: it wakes it first where it is in STANDBY, and is then handled (R140; log entry 40). -/
def handleArrival (p : Port) (f : Frame) (k : ArrivalClass) (handle : State → State) (s : State) : State :=
  if arrivesAs s p f k then settle (handle (wakeByFrame f s)) else s

theorem exec_request_eq (f : Frame) (s : State) :
    exec (.request f) s = .next (handleArrival .B f .request (takeRequest f) s) := rfl

theorem exec_credit_eq (f : Frame) (s : State) :
    exec (.credit f) s = .next (handleArrival .B f .credit (takeCredit f) s) := rfl

theorem exec_closeAck_eq (f : Frame) (s : State) :
    exec (.closeAck f) s = .next (handleArrival .B f .closeAck (takeCloseAck f) s) := rfl

theorem exec_misdirected_eq (p : Port) (f : Frame) (s : State) :
    exec (.misdirected p f) s = .next (handleArrival p f .misdirected (countMisdirected p f) s) := rfl

/-- An awake part handles the frame as it stands. -/
theorem handleArrival_awake (arrives : arrivesAs s p f k = true) (awake : s.part.awake = true) (handle : State → State) :
    handleArrival p f k handle s = settle (handle s) := by
  unfold handleArrival
  rw [if_pos arrives, wakeByFrame_awake f awake]

/-- A part in STANDBY is woken by the frame and handles it as a part that was awake. -/
theorem handleArrival_standby (arrives : arrivesAs s p f k = true) (standby : s.part.awake = false)
    (handle : State → State) : ∃ u, Woken (.frame (bodyKind f.body)) s u ∧ u.part.awake = true ∧
      arrivesAs u p f k = true ∧ handleArrival p f k handle s = handleArrival p f k handle u := by
  have woken := wake_woken (.frame (bodyKind f.body)) s
  have awake : (wake (.frame (bodyKind f.body)) s).part.awake = true := by rw [woken.2]
  have again := (arrivesAs_woken woken p f k).trans arrives
  refine ⟨_, woken, awake, again, ?_⟩
  rw [handleArrival_awake again awake, handleArrival, if_pos arrives, wakeByFrame_standby f standby]

/-- A frame of the REQUEST or the CLOSE_ACK row is of the row's kind (R157). -/
theorem kind_of_arrivesAs_B (arrives : arrivesAs s .B f k = true) :
    (k = .request → bodyKind f.body = 0x20) ∧ (k = .closeAck → bodyKind f.body = 0x19) := by
  simp only [arrivesAs, Bool.and_eq_true, beq_iff_eq] at arrives
  obtain ⟨-, row⟩ := arrives
  unfold classify classifyB at row
  dsimp only at row
  refine ⟨fun named => ?_, fun named => ?_⟩
  · subst named
    split_ifs at row with _ _ _ request
    exact request
  · subst named
    split_ifs at row with _ _ _ _ _ closeAck
    exact closeAck

/-! ## A REQUEST (R162, R167, R168) -/

theorem exec_request_awake (arrives : ArrivesAwake s f .request) :
    exec (.request f) s = .next (settle (takeRequest f s)) :=
  congrArg Host.Outcome.next (handleArrival_awake arrives.1 arrives.2 (takeRequest f))

theorem requestSource_iff (s : State) (f : Frame) :
    requestSource s f = true ↔ s.config.controller = 0 ∨ f.src = s.config.controller := by
  simp [requestSource]

theorem takeRequest_offered (source : s.config.controller = 0 ∨ f.src = s.config.controller) :
    takeRequest f s = offerRequest { source := f.src, body := f.body } s :=
  if_pos ((requestSource_iff s f).mpr source)

theorem takeRequest_rejected (controlled : s.config.controller ≠ 0) (other : f.src ≠ s.config.controller) :
    takeRequest f s = rejectRequest f s :=
  if_neg fun source => ((requestSource_iff s f).mp source).elim controlled other

theorem offerRequest_room (r : Request) (room : s.management.requests.length < 4) : offerRequest r s =
    { s with management := { s.management with requests := s.management.requests ++ [r] } } := if_pos room

theorem offerRequest_full (r : Request) (full : 4 ≤ s.management.requests.length) : offerRequest r s = refuseBusy r s :=
  if_neg (not_lt.mpr full)

/-- A BUSY reply that finds a place waits in it (R168). -/
theorem refuseBusy_room (r : Request) (room : repliesWaiting s < 7) : refuseBusy r s =
    queueReply .nothing (replyTo s.config r .busy [])
      { s with management := { s.management with busy := satInc16 s.management.busy } } := if_pos room

/-- A BUSY reply that finds 7 replies waiting is dropped and counted (R162). -/
theorem refuseBusy_full (r : Request) (full : 7 ≤ repliesWaiting s) : refuseBusy r s = { s with
    management := { s.management with busy := satInc16 s.management.busy }
    ports := { s.ports with replyDrop := satInc16 s.ports.replyDrop } } := if_neg (not_lt.mpr full)

/-- Settles O43: the wake before the frame, and the four ends of a request that arrives. -/
theorem requestIsQueued : Obligations.RequestIsQueued := by
  refine ⟨fun s f arrives standby => ?_, fun s f settled arrives => ?_⟩
  · obtain ⟨u, woken, -, -, same⟩ := handleArrival_standby arrives standby (takeRequest f)
    rw [(kind_of_arrivesAs_B arrives).1 rfl] at woken
    exact ⟨u, woken, congrArg Host.Outcome.next same⟩
  · rw [exec_request_awake arrives]
    refine ⟨fun source room => ?_, fun source full room => ?_, fun source full none_free => ?_, fun controlled other => ?_⟩
    · rw [takeRequest_offered source, offerRequest_room _ room]
      exact congrArg Host.Outcome.next (settle_of_settled _ settled)
    · rw [takeRequest_offered source, offerRequest_full _ full, refuseBusy_room _ room]
      exact congrArg Host.Outcome.next (settle_queueReply _ _ _ settled)
    · rw [takeRequest_offered source, offerRequest_full _ full, refuseBusy_full _ none_free]
      exact congrArg Host.Outcome.next (settle_of_settled _ settled)
    · rw [takeRequest_rejected controlled other]
      refine ⟨_, congrArg Host.Outcome.next (settle_of_settled (rejectRequest f s) settled), rfl, fun empty => ?_, rfl⟩
      exact (congrArg FaultClass.first (logFault_class_self _ faultManagement _)).trans
        ((FaultClass.record_cases _ _).1 empty)

end Sys2Proof.Machine
end

section
/-! PROOFS. The completion of a stream's close: what it writes, the return to IDLE it may bring, and the close that ends with a fault
(R126, R136, R137, R178). -/

namespace Sys2Proof.Machine

variable {s t : State} {st : Stream}

/-! ## The Fault Log at the return to IDLE (R73, R137) -/

theorem setStationState_faults (i : Fin 16) (x : StationState) (s : State) :
    (setStationState i x s).management.faults = s.management.faults := by
  rcases setStationState_spec i x s with same | moved
  · rw [same]
  · rw [moved, raise_management_faults]
    rfl

theorem enterIdleState_faults (i : Fin 16) (x : StationState) (s : State) :
    (enterIdleState i x s).management.faults = s.management.faults :=
  setStationState_faults i x (modStation i (fun st => { st.emptied with newestSerial := none }) s)

theorem applyEntryState_faults (i : Fin 16) (old new : StationEntry) (s : State) :
    (applyEntryState i old new s).management.faults = s.management.faults := by
  unfold applyEntryState
  split
  · split
    · rfl
    · exact enterIdleState_faults i .disabled s
  · split
    · exact enterIdleState_faults i .absent s
    · split
      · rfl
      · exact enterIdleState_faults i .absent s

theorem sendTestCommand_faults (m : Mac) (b : Bool) (d : Nat) (s : State) :
    (sendTestCommand m b d s).management.faults = s.management.faults := by
  obtain ⟨q, n, queued, -⟩ := queueTestCommand_spec (ownFrame s m kindTestCommand (testCommandPayload b d)) s
  unfold sendTestCommand
  rw [queued]

theorem endTest_faults (r : TestResult) (s : State) : (endTest r s).management.faults = s.management.faults := by
  unfold endTest
  split
  · next x _ =>
    have told := sendTestCommand_faults x.address false 0 s
    refine (raise_management_faults .testDone _).trans ?_
    dsimp only
    split
    · exact (setStationState_faults x.station .acquire _).trans told
    · exact told
  · rfl
  · rfl

theorem abortTestOf_faults (i : Fin 16) (s : State) : (abortTestOf i s).management.faults = s.management.faults := by
  unfold abortTestOf
  split
  · split
    · exact endTest_faults _ s
    · rfl
  · rfl
  · rfl

theorem applyEntry_faults (i : Fin 16) (old new : StationEntry) (s : State) :
    (applyEntry i old new s).management.faults = s.management.faults := by
  have moved := applyEntryState_faults i old new s
  unfold applyEntry
  dsimp only
  split
  · exact (abortTestOf_faults i _).trans moved
  · exact moved

theorem applyEntries_faults (w : Vector Bool 16) (before after : Tables) (s : State) :
    (applyEntries w before after s).management.faults = s.management.faults := by
  refine forEach_keeps 16 _ (fun t => t.management.faults = s.management.faults) (fun i t kept => ?_) s rfl
  split
  · exact (applyEntry_faults i _ _ t).trans kept
  · exact kept

theorem applyStaged_faults (s : State) : (applyStaged s).management.faults = s.management.faults := by
  unfold applyStaged
  split
  · rw [raise_management_faults]
    unfold activate
    rw [recomputeLamps_management]
    exact applyEntries_faults _ _ _ _
  · rfl

/-- The return to IDLE writes nothing to the Fault Log. -/
theorem returnToIdle_faults (s : State) : (returnToIdle s).management.faults = s.management.faults := by
  refine (applyStaged_faults (leaveProceeding s)).trans ?_
  unfold leaveProceeding setProceedingState
  rw [recomputeLamps_management, raise_management_faults]

/-- The return to IDLE clears no flag. -/
theorem returnToIdle_keeps (s : State) (f : EventFlag) (set : flagSet s f = true) : flagSet (returnToIdle s) f = true := by
  have begun : Leaves [.tables, .stations, .proceeding] s (leaveProceeding s) :=
    Leaves.after_setProceedingState ((Leaves.refl _ s).after_output) (by simp)
  exact (begun.after_applyStaged (by simp) (by simp)).flags f set

/-! ## A stream completed (R129, R136) -/

/-- What the end of a stream's close writes to it. -/
def StreamState.complete (o : CloseOutcome) (x : StreamState) : StreamState :=
  { x with closeState := .completed, closeOutcome := some o, confirmTimer := none }

theorem completeStream_eq (st : Stream) (o : CloseOutcome) (s : State) :
    completeStream st o s = examineCompleted (modStream st (StreamState.complete o) s) := rfl

theorem finished_iff (x : StreamState) : x.finished = true ↔ x.takesPart = false ∨ x.closeState = .completed := by
  simp [StreamState.finished]

/-- Of the two streams only the other one can keep a completed stream's proceeding in CONFIRMING (R137). -/
theorem finished_completed_iff (st : Stream) (o : CloseOutcome) (s : State) :
    ((modStream st (StreamState.complete o) s).output.openS.finished = true ∧
      (modStream st (StreamState.complete o) s).output.sealedS.finished = true) ↔
      (s.stream (otherStream st)).finished = true := by
  have self : (StreamState.complete o (s.stream st)).finished = true := (finished_iff _).mpr (.inr rfl)
  cases st
  · exact and_iff_right self
  · exact and_iff_left self

/-- The proceeding stays in CONFIRMING while the other stream has not finished. -/
theorem completeStream_waits (o : CloseOutcome) (unfinished : ¬ (s.stream (otherStream st)).finished = true) :
    completeStream st o s = modStream st (StreamState.complete o) s :=
  if_neg fun due => unfinished ((finished_completed_iff st o s).mp due.2)

theorem completeStream_returns (o : CloseOutcome) (confirming : s.proceeding.state = .confirming)
    (finished : (s.stream (otherStream st)).finished = true) :
    completeStream st o s = returnToIdle (modStream st (StreamState.complete o) s) :=
  if_pos ⟨(congrArg Proceeding.state (modStream_proceeding s st _)).trans confirming,
    (finished_completed_iff st o s).mpr finished⟩

theorem completeStream_faults (o : CloseOutcome) (s : State) :
    (completeStream st o s).management.faults = s.management.faults := by
  have written := congrArg Management.faults (modStream_management s st (StreamState.complete o))
  rw [completeStream_eq, examineCompleted]
  split
  · exact (returnToIdle_faults _).trans written
  · exact written

theorem completeStream_keeps (o : CloseOutcome) (s : State) (f : EventFlag) (set : flagSet s f = true) :
    flagSet (completeStream st o s) f = true := by
  have written : flagSet (modStream st (StreamState.complete o) s) f = true := by
    unfold flagSet
    rw [modStream_management]
    exact set
  rw [completeStream_eq, examineCompleted]
  split
  · exact returnToIdle_keeps _ f written
  · exact written

/-! ## The end of a stream's close (R136, R137) -/

/-- What the return to IDLE and the sender leave of a stream's close (R123, R126; log entry 34). -/
def StreamState.closing (x : StreamState) := (x.closeState, x.closeOutcome, x.confirmTimer)

/-- A stream's close has ended with an outcome: the proceeding stands while the other stream has not finished, and has returned to
IDLE otherwise. -/
structure CloseEnds (st : Stream) (o : CloseOutcome) (s t : State) : Prop where
  closing : (t.stream st).closing = (.completed, some o, none)
  waits : (s.stream (otherStream st)).takesPart = true → (s.stream (otherStream st)).closeState ≠ .completed →
    t.proceeding = s.proceeding ∧ (t.stream st).takesPart = (s.stream st).takesPart
  returns : ((s.stream (otherStream st)).takesPart = false ∨ (s.stream (otherStream st)).closeState = .completed) →
    t.proceeding = { s.proceeding with state := .idle } ∧ (t.stream st).takesPart = false ∧
      flagSet t .proceedingState = true

/-- The streams at the return to IDLE (R126). -/
theorem returnToIdle_stream (st : Stream) (s : State) : (returnToIdle s).stream st = (s.stream st).leave := by
  have left := returnToIdle_unapplied s
  simp only [State.unapplied, Prod.mk.injEq] at left
  obtain ⟨-, -, -, -, -, output, -, -⟩ := left
  unfold State.stream
  rw [output]
  cases st <;> rfl

theorem returnToIdle_proceeding (s : State) : (returnToIdle s).proceeding = { s.proceeding with state := .idle } := by
  have left := returnToIdle_unapplied s
  simp only [State.unapplied, Prod.mk.injEq] at left
  obtain ⟨-, -, -, -, -, -, proceeding, -⟩ := left
  exact proceeding

theorem completeStream_ends (o : CloseOutcome) (confirming : s.proceeding.state = .confirming) :
    CloseEnds st o s (completeStream st o s) := by
  have self := modStream_stream_self s st (StreamState.complete o)
  by_cases finished : (s.stream (otherStream st)).finished = true
  · rw [completeStream_returns o confirming finished]
    refine ⟨?_, fun part open_close => ?_, fun _ => ⟨?_, ?_, returnToIdle_flag _⟩⟩
    · rw [returnToIdle_stream, self]
      rfl
    · rcases (finished_iff _).mp finished with out | done
      · exact Bool.noConfusion (part.symm.trans out)
      · exact absurd done open_close
    · rw [returnToIdle_proceeding, modStream_proceeding]
    · rw [returnToIdle_stream]
      rfl
  · rw [completeStream_waits o finished]
    refine ⟨by rw [self]; rfl, fun _ _ => ⟨modStream_proceeding s st _, by rw [self]; rfl⟩, fun done => ?_⟩
    exact absurd ((finished_iff _).mpr done) finished

theorem CloseEnds.written {o : CloseOutcome} (ends : CloseEnds st o s t) : (t.stream st).closeState = .completed ∧
    (t.stream st).closeOutcome = some o ∧ (t.stream st).confirmTimer = none := by
  have closing := ends.closing
  simp only [StreamState.closing, Prod.mk.injEq] at closing
  exact closing

/-- Neither the sender nor an arbiter touches the end of a close (R123, R160). -/
theorem CloseEnds.settle {o : CloseOutcome} (ends : CloseEnds st o s t) : CloseEnds st o s (settle t) := by
  obtain ⟨closing, waits, returns⟩ := ends
  have kept : ((Machine.settle t).stream st).closing = (t.stream st).closing :=
    settle_keeps (fun x => by obtain ⟨n, b, frame⟩ := followStall_frame x; rw [frame]; rfl) (fun _ _ => rfl) t st
  have part : ((Machine.settle t).stream st).takesPart = (t.stream st).takesPart :=
    settle_keeps (fun x => by obtain ⟨n, b, frame⟩ := followStall_frame x; rw [frame]) (fun _ _ => rfl) t st
  exact ⟨kept.trans closing, by rwa [settle_proceeding, part], by rwa [settle_proceeding, part, settle_flagSet]⟩

/-! ## A close that ends with a fault (R136, R178) -/

/-- The occurrence that a failed close writes to the CLOSE class: the figures sent, then those reported (R178, R185). -/
def closeOccurrence (s : State) (st : Stream) (reported : CloseFigures) : Occurrence :=
  { subject := BitVec.ofNat 48 (streamCode st), block := s.timebase.blockNumber,
    detail := wordBytes (s.stream st).sentFigures.count ++ wordBytes (s.stream st).sentFigures.check ++
      wordBytes reported.count ++ wordBytes reported.check }

/-- A close that has failed: ended with its outcome, flagged, and recorded in the CLOSE class. -/
structure CloseFails (st : Stream) (o : CloseOutcome) (reported : CloseFigures) (s t : State) : Prop where
  ends : CloseEnds st o s t
  flagged : flagSet t .closeFailed = true
  fault : t.management.faults[faultClose] = (s.management.faults[faultClose]).record (closeOccurrence s st reported)

theorem logClose_raised (st : Stream) (reported : CloseFigures) (s : State) : logClose st reported (raise .closeFailed s) =
    logFault faultClose (closeOccurrence s st reported) (raise .closeFailed s) := by
  have stream : (raise .closeFailed s).stream st = s.stream st := congrArg (·.stream st) (raise_output .closeFailed s)
  unfold logClose closeOccurrence
  rw [stream, raise_timebase]

theorem failClose_fails (o : CloseOutcome) (reported : CloseFigures) (confirming : s.proceeding.state = .confirming) :
    CloseFails st o reported s (failClose st o reported s) := by
  have output : (logClose st reported (raise .closeFailed s)).output = s.output := raise_output .closeFailed s
  have proceeding : (logClose st reported (raise .closeFailed s)).proceeding = s.proceeding := raise_proceeding .closeFailed s
  have stream (x : Stream) : (logClose st reported (raise .closeFailed s)).stream x = s.stream x :=
    congrArg (·.stream x) output
  obtain ⟨closing, waits, returns⟩ := completeStream_ends (st := st) o
    ((congrArg Proceeding.state proceeding).trans confirming)
  rw [stream, stream, proceeding] at waits
  rw [stream, proceeding] at returns
  refine ⟨⟨closing, waits, returns⟩, completeStream_keeps o _ _ (raise_sets .closeFailed s), ?_⟩
  rw [failClose, completeStream_faults, logClose_raised, logFault_class_self, raise_management_faults]

theorem CloseFails.settle {o : CloseOutcome} {reported : CloseFigures} (fails : CloseFails st o reported s t) :
    CloseFails st o reported s (settle t) := by
  obtain ⟨ends, flagged, fault⟩ := fails
  exact ⟨ends.settle, by rwa [settle_flagSet], by rwa [settle_management]⟩

/-- The first failed close is logged with the figures of its CLOSE record and those reported (R178, R185). -/
theorem CloseFails.first {o : CloseOutcome} {reported sent : CloseFigures} (fails : CloseFails st o reported s t)
    (figures : (s.stream st).closeFigures = some sent) (empty : (s.management.faults[faultClose]).first = none) :
    (t.management.faults[faultClose]).first = some
      { subject := BitVec.ofNat 48 (streamCode st), block := s.timebase.blockNumber,
        detail := wordBytes sent.count ++ wordBytes sent.check ++ wordBytes reported.count ++ wordBytes reported.check } := by
  rw [fails.fault, (FaultClass.record_cases _ _).1 empty, closeOccurrence, StreamState.sentFigures, figures]
  rfl

/-- A later failed close marks the class REPEATED (R178). -/
theorem CloseFails.repeated {o : CloseOutcome} {reported : CloseFigures} (fails : CloseFails st o reported s t)
    (filled : (s.management.faults[faultClose]).first ≠ none) :
    t.management.faults[faultClose] = { s.management.faults[faultClose] with repeated := true } :=
  fails.fault.trans ((FaultClass.record_cases _ _).2 filled)

end Sys2Proof.Machine
end

section
/-! PROOFS. A confirm timer at its limit, and a CLOSE_ACK that is taken (R136, R137, R140, R178, R185). -/

namespace Sys2Proof.Machine

variable {s : State} {st : Stream} {f : Frame}

/-! ## The confirm timer (R136) -/

theorem confirmDue_of_limit {x : StreamState} {n : Nat} (sent : x.closeState = .closeSent) (timer : x.confirmTimer = some n)
    (limit : x.entry.confirmLimit * 200 ≤ n) : x.confirmDue = true := by
  have bound : x.confirmBound ≤ n := limit
  simp [StreamState.confirmDue, sent, timer, bound]

theorem exec_closeUnconfirmed (confirming : s.proceeding.state = .confirming) (due : (s.stream st).confirmDue = true) :
    exec (.closeUnconfirmed st) s = .next (settle (failClose st .unconfirmed { count := 0, check := 0 } s)) :=
  congrArg Host.Outcome.next (if_pos (by simp [confirming, due]))

/-- Settles O29: the failed close of a stream whose confirm timer is due, as the end of the command leaves it. -/
theorem unconfirmedCloseCompletes : Obligations.UnconfirmedCloseCompletes := by
  intro s st n confirming part sent timer limit
  have run := exec_closeUnconfirmed confirming (confirmDue_of_limit sent timer limit)
  have fails := (failClose_fails (st := st) .unconfirmed { count := 0, check := 0 } confirming).settle
  obtain ⟨state, outcome, stopped⟩ := fails.ends.written
  refine ⟨_, run, state, outcome, stopped, fails.flagged, fun figures taken empty => ?_, fails.repeated,
    fun other unfinished => ?_, fails.ends.returns⟩
  · rw [fails.first taken empty, List.append_assoc]
    rfl
  · obtain ⟨proceeding, kept⟩ := fails.ends.waits other unfinished
    exact ⟨proceeding, kept.trans part⟩

/-! ## The ack (R136, R183) -/

/-- A well-formed ack that meets the conditions of R136 is taken for the stream it names. -/
theorem exec_closeAck_taken (arrives : ArrivesAwake s f .closeAck) (formed : wellFormed f.body 20 = true)
    (named : fieldAt (payloadOf f.body) 0 1 = streamCode st) (taken : ackTaken s st f = true) :
    exec (.closeAck f) s = .next (settle (takeAck st (ackFigures f) s)) := by
  have handled : takeCloseAck f s = takeAck st (ackFigures f) s := by
    unfold takeCloseAck
    rw [if_neg (by simp [formed]), named, streamOf_streamCode]
    exact if_pos taken
  rw [exec_closeAck_eq, handleArrival_awake arrives.1 arrives.2, handled]

theorem ackTaken_of (confirming : s.proceeding.state = .confirming) (part : (s.stream st).takesPart = true)
    (sent : (s.stream st).closeState = .closeSent) (source : f.src = (s.stream st).entry.destination)
    (id : BitVec.ofNat 64 (fieldAt (payloadOf f.body) 4 8) = s.proceeding.id) : ackTaken s st f = true := by
  simp [ackTaken, confirming, part, sent, source, id]

/-- The figures that an ack reports agree with those sent when count and check both do (R136). -/
theorem ackFigures_eq_iff {sent : CloseFigures} (figures : (s.stream st).closeFigures = some sent) (f : Frame) :
    ackFigures f = (s.stream st).sentFigures ↔
      wordAt (payloadOf f.body) 12 = sent.count ∧ wordAt (payloadOf f.body) 16 = sent.check := by
  rw [StreamState.sentFigures, figures]
  exact iff_of_eq (CloseFigures.mk.injEq _ _ sent.count sent.check)

theorem takeAck_confirmed {reported : CloseFigures} (agree : reported = (s.stream st).sentFigures) :
    takeAck st reported s = completeStream st .confirmed s := if_pos agree

theorem takeAck_mismatch {reported : CloseFigures} (differ : ¬ reported = (s.stream st).sentFigures) :
    takeAck st reported s = failClose st .mismatch reported s := if_neg differ

/-- Settles O40: the wake before the frame, the ack whose figures agree, and the one whose figures differ. -/
theorem closeAckCompletesStream : Obligations.CloseAckCompletesStream := by
  refine ⟨fun s f arrives standby => ?_,
    fun s f st sent arrives formed named confirming part closed source id figures => ?_⟩
  · obtain ⟨u, woken, -, -, same⟩ := handleArrival_standby arrives standby (takeCloseAck f)
    rw [(kind_of_arrivesAs_B arrives).2 rfl] at woken
    exact ⟨u, woken, congrArg Host.Outcome.next same⟩
  · have run := exec_closeAck_taken arrives formed named (ackTaken_of confirming part closed source id)
    have agree := ackFigures_eq_iff figures f
    by_cases same : ackFigures f = (s.stream st).sentFigures
    · rw [takeAck_confirmed same] at run
      have ends := (completeStream_ends (st := st) .confirmed confirming).settle
      obtain ⟨state, outcome, stopped⟩ := ends.written
      exact ⟨_, run, state, stopped, fun _ => outcome, fun differ => absurd (agree.mp same) differ,
        fun other unfinished => (ends.waits other unfinished).1, fun done => (ends.returns done).1⟩
    · rw [takeAck_mismatch same] at run
      have fails := (failClose_fails (st := st) .mismatch (ackFigures f) confirming).settle
      obtain ⟨state, outcome, stopped⟩ := fails.ends.written
      exact ⟨_, run, state, stopped, fun agreed => absurd (agree.mpr agreed) same,
        fun _ => ⟨outcome, fails.flagged, fails.first figures, fails.repeated⟩,
        fun other unfinished => (fails.ends.waits other unfinished).1, fun done => (fails.ends.returns done).1⟩

end Sys2Proof.Machine
end

section
/-! PROOFS. Frames that are discarded and counted: looped copies, misdirected and malformed frames, and the malformed mark that is
forwarded all the same (R140, R154, R156 to R159). -/

namespace Sys2Proof.Machine

variable {s : State} {p : Port} {f : Frame}

/-! ## The counts of a port at the end of a command (R154, R158) -/

/-- What the Port Interface counts at one port. -/
def PortStatus.counts (x : PortStatus) := (x.receiveErrors, x.loops, x.misdirected, x.malformed)

theorem transmit_counts (p q : Port) (o : TxOrigin) (f : Frame) (s : State) :
    ((transmit q o f s).port p).counts = (s.port p).counts := by
  cases p <;> cases q <;> rfl

theorem arbiterA_counts (p : Port) (s : State) : ((arbiterA s).port p).counts = (s.port p).counts := by
  unfold arbiterA
  split
  · unfold selectA
    split
    · exact transmit_counts p .A _ _ _
    · split
      · exact transmit_counts p .A _ _ _
      · exact transmit_counts p .A _ _ _
      · rfl
  · rfl

theorem arbiterB_counts (p : Port) (s : State) : ((arbiterB s).port p).counts = (s.port p).counts := by
  unfold arbiterB
  split
  · unfold selectB
    split
    · exact transmit_counts p .B _ _ _
    · split
      · exact transmit_counts p .B _ _ _
      · unfold selectClass3
        split
        · split <;> exact transmit_counts p .B _ _ _
        · exact transmit_counts p .B _ _ _
        · exact transmit_counts p .B _ _ _
        · rfl
  · rfl

/-- What goes next at a port changes none of its counts. -/
theorem settle_counts (p : Port) (s : State) : ((settle s).port p).counts = (s.port p).counts := by
  obtain ⟨o, sender⟩ := runSender_spec s
  unfold settle
  rw [arbiterB_counts, arbiterA_counts, sender]
  rfl

theorem Woken.port {c : WakeCause} {u : State} (woken : Woken c s u) (p : Port) : u.port p = s.port p := by
  rw [woken.2]
  cases p <;> rfl

/-! ## Looped copies and misdirected frames (R154, R156, R157) -/

theorem arrivesAs_looped (arrives : canArrive s p f = true) (own : f.src = s.config.ownAddress) :
    arrivesAs s p f .looped = true := by
  simp [arrivesAs, arrives, classify, own]

/-- A misdirected frame counted, as malformed when its kind is none of the manual's (R158). -/
def PortStatus.countStray (f : Frame) (x : PortStatus) : PortStatus :=
  if knownKinds.contains (bodyKind f.body) then { x with misdirected := satInc16 x.misdirected }
  else { x with malformed := satInc16 x.malformed }

theorem countMisdirected_eq (p : Port) (f : Frame) (s : State) :
    countMisdirected p f s = modPort p (PortStatus.countStray f) s := by
  unfold countMisdirected countMalformed PortStatus.countStray
  split <;> rfl

/-- Such a count changes neither the port's link and what it transmits, nor its other counts. -/
theorem countStray_frame (f : Frame) (x : PortStatus) : (x.countStray f).linkUp = x.linkUp ∧
    (x.countStray f).transmitting = x.transmitting ∧ (x.countStray f).receiveErrors = x.receiveErrors ∧
    (x.countStray f).loops = x.loops := by
  unfold PortStatus.countStray
  split <;> exact ⟨rfl, rfl, rfl, rfl⟩

theorem countStray_known (known : knownKinds.contains (bodyKind f.body) = true) (x : PortStatus) :
    x.countStray f = { x with misdirected := satInc16 x.misdirected } := if_pos known

theorem countStray_unknown (unknown : knownKinds.contains (bodyKind f.body) = false) (x : PortStatus) :
    x.countStray f = { x with malformed := satInc16 x.malformed } := if_neg (Bool.eq_false_iff.mp unknown)

theorem exec_misdirected_awake (arrives : arrivesAs s p f .misdirected = true) (settled : s.Settled)
    (awake : s.part.awake = true) : exec (.misdirected p f) s = .next (modPort p (PortStatus.countStray f) s) := by
  rw [exec_misdirected_eq, handleArrival_awake arrives awake, countMisdirected_eq,
    settle_of_settled _ (settled.after_modPort fun x => ⟨(countStray_frame f x).1, (countStray_frame f x).2.1⟩)]

/-- In STANDBY a misdirected frame wakes the part, and its port then counts it. -/
theorem exec_misdirected_standby (arrives : arrivesAs s p f .misdirected = true) (standby : s.part.awake = false) :
    ∃ u t, Woken (.frame (bodyKind f.body)) s u ∧ exec (.misdirected p f) s = .next t ∧
      t = settle (modPort p (PortStatus.countStray f) u) ∧ (t.port p).counts = ((s.port p).countStray f).counts := by
  obtain ⟨u, woken, awake, again, same⟩ := handleArrival_standby arrives standby (countMisdirected p f)
  refine ⟨u, _, woken, congrArg Host.Outcome.next same, ?_, ?_⟩
  · rw [handleArrival_awake again awake, countMisdirected_eq]
  · rw [handleArrival_awake again awake, countMisdirected_eq, settle_counts, modPort_port_self, woken.port]

/-! ## Malformed frames (R158) -/

/-- In a settled state a malformed frame that is not handed on is counted, and nothing else happens. -/
theorem State.Settled.settle_countMalformed (settled : s.Settled) (p : Port) :
    settle (countMalformed p s) = countMalformed p s :=
  settle_of_settled _ (settled.after_modPort fun _ => ⟨rfl, rfl⟩)

theorem exec_credit_malformed (settled : s.Settled) (arrives : ArrivesAwake s f .credit)
    (malformed : wellFormed f.body 4 = false) : exec (.credit f) s = .next (countMalformed .B s) := by
  rw [exec_credit_eq, handleArrival_awake arrives.1 arrives.2, takeCredit, if_pos malformed,
    settled.settle_countMalformed]

theorem exec_closeAck_malformed (settled : s.Settled) (arrives : ArrivesAwake s f .closeAck)
    (malformed : wellFormed f.body 20 = false) : exec (.closeAck f) s = .next (countMalformed .B s) := by
  rw [exec_closeAck_eq, handleArrival_awake arrives.1 arrives.2, takeCloseAck, if_pos malformed,
    settled.settle_countMalformed]

/-- A malformed mark is counted, and forwarded by its destination alone (R156, R158). -/
theorem exec_mark_malformed (arrives : arrivesAs s .A f .cadenceMark = true) (malformed : wellFormed f.body 4 = false)
    (time : Tick) : exec (.cadenceMark f time) s = .next (settle (forwardMark f (countMalformed .A s))) := by
  refine congrArg Host.Outcome.next ((if_pos arrives).trans ?_)
  rw [observeMark, if_pos malformed]

/-! ## A mark forwarded (R156, R159) -/

theorem forwardMark_kept (kept : f.dst = s.config.ownAddress ∨ s.config.role = .terminalRole) : forwardMark f s = s := by
  unfold forwardMark forwardFrom
  split
  · rfl
  · next other => rw [kept.resolve_left other]

section
variable (other : f.dst ≠ s.config.ownAddress) (inline : s.config.role = .inlineRole)
include other inline

theorem forwardMark_room (room : s.ports.forwardAB.length < 64) : forwardMark f s =
    { s with ports := { s.ports with forwardAB := s.ports.forwardAB ++ [f] } } := by
  unfold forwardMark forwardFrom
  rw [if_neg other, inline]
  exact if_pos room

theorem forwardMark_full (full : 64 ≤ s.ports.forwardAB.length) : forwardMark f s =
    { s with ports := { s.ports with dropAB := satInc16 s.ports.dropAB } } := by
  unfold forwardMark forwardFrom
  rw [if_neg other, inline]
  exact if_neg (not_lt.mpr full)

end

/-- With no management frame and no monitor frame waiting, port B chooses in class 3 (R162). -/
theorem selectB_class3 (management : s.ports.management = []) (monitor : monitorFor s .B = none) :
    selectB s = selectClass3 s := by
  unfold selectB
  rw [management, monitor]

/-- With no record frame offered, port B takes the head of the queue toward it (R162). -/
theorem selectClass3_forwarded {rest : List Frame} (offered : offeredFrame s = none) (queue : s.ports.forwardAB = f :: rest) :
    selectClass3 s = takeForwarded f s := by
  unfold selectClass3
  rw [offered, queue]

/-- Where only the queue toward port B has changed, at most its head goes into transmission there, and class 3's turn passes on; the
frame stays in the queue until it has been transmitted (R159, R162). -/
theorem State.Settled.settle_forwardAB (settled : s.Settled) (q : List Frame) : ∃ b turn,
    settle { s with ports := { s.ports with forwardAB := q } } =
      { s with ports := { s.ports with forwardAB := q, b := b, turn := turn } } := by
  obtain ⟨sender, portA, portB⟩ := settled
  cases q with
  | nil =>
    refine ⟨_, _, settle_of_settled { s with ports := { s.ports with forwardAB := [] } } ⟨sender, portA, fun ready => ?_⟩⟩
    obtain ⟨management, monitor, offered, -⟩ := portB ready
    exact ⟨management, monitor, offered, rfl⟩
  | cons head rest =>
    generalize queued : ({ s with ports := { s.ports with forwardAB := head :: rest } } : State) = u
    have sent : runSender u = u := queued ▸ runSender_settled _ sender
    have takenA : arbiterA u = u := queued ▸ arbiterA_settled _ portA
    rw [settle, sent, takenA, arbiterB]
    split
    · next ready =>
      obtain ⟨management, monitor, offered, -⟩ := portB (by rw [← ready, ← queued]; rfl)
      rw [selectB_class3 (by rw [← queued]; exact management) (by rw [← queued]; exact monitor),
        selectClass3_forwarded (f := head) (rest := rest) (by rw [← queued]; exact offered) (by rw [← queued]), ← queued]
      exact ⟨_, _, rfl⟩
    · rw [← queued]
      exact ⟨_, _, rfl⟩

/-- Settles O19: each row's count, after the wake where it wakes, and what a malformed mark's destination makes of it. -/
theorem discardedFramesAreCounted : Obligations.DiscardedFramesAreCounted := by
  refine ⟨fun s p f => ⟨fun arrives own => ?_, exec_misdirected_awake, fun arrives standby => ?_⟩,
    fun s f time settled => ⟨exec_credit_malformed settled, exec_closeAck_malformed settled, fun arrives malformed => ?_⟩⟩
  · exact congrArg Host.Outcome.next (if_pos (arrivesAs_looped arrives own))
  · obtain ⟨u, t, woken, run, ended, counts⟩ := exec_misdirected_standby arrives standby
    obtain ⟨flagged, frame⟩ := woken
    simp only [PortStatus.counts, Prod.mk.injEq] at counts
    obtain ⟨errors, loops, misdirected, malformed⟩ := counts
    obtain ⟨-, -, same_errors, same_loops⟩ := countStray_frame f (s.port p)
    refine ⟨t, run, ?_, ?_, ?_, fun h => ?_, fun h => ?_, errors.trans same_errors, loops.trans same_loops, ?_, ?_, ?_, ?_⟩
    · rw [ended, settle_part, modPort_part, frame]
    · rw [ended, settle_part, modPort_part, frame]
    · rw [ended, settle_flagSet, flagSet, modPort_management]
      exact flagged
    · rw [countStray_known h] at misdirected malformed
      exact ⟨misdirected, malformed⟩
    · rw [countStray_unknown h] at misdirected malformed
      exact ⟨malformed, misdirected⟩
    · rw [ended, settle_tables, modPort_tables, frame]
    · rw [ended, settle_config, modPort_config, frame]
    · rw [ended, settle_mode, modPort_mode, frame]
    · rw [ended, settle_proceeding, modPort_proceeding, frame]
  · rw [exec_mark_malformed arrives malformed]
    have counted : (countMalformed .A s).Settled := settled.after_modPort fun _ => ⟨rfl, rfl⟩
    refine ⟨fun kept => ?_, fun other inline room => ?_, fun other inline full => ?_⟩
    · rw [forwardMark_kept (s := countMalformed .A s) kept, settle_of_settled _ counted]
      rfl
    · rw [forwardMark_room (s := countMalformed .A s) other inline room]
      obtain ⟨b, turn, taken⟩ := counted.settle_forwardAB (s.ports.forwardAB ++ [f])
      exact ⟨_, congrArg Host.Outcome.next taken, rfl, rfl⟩
    · rw [forwardMark_full (s := countMalformed .A s) other inline full]
      exact congrArg Host.Outcome.next (settle_of_settled _ counted)

end Sys2Proof.Machine
end

section
/-! PROOFS. The checker of a line test against the PRBS-15 sequence (R150). -/

namespace Sys2Proof.Machine

/-! ## The generator as the last 15 bits (R150) -/

/-- The last 15 bits of the sequence that a generator holds, oldest first. -/
def heldBits (g : BitVec 15) : List Bool := (List.range 15).map (fun i => g.getLsbD (14 - i))

theorem past_eq_heldBits (c : Checker) : c.past = heldBits c.generator := rfl

theorem pushBit_newest (g : BitVec 15) (b : Bool) : (pushBit g b).getLsbD 0 = b := by
  cases b <;> simp [pushBit]

theorem pushBit_older (g : BitVec 15) (b : Bool) {i : Nat} (held : i < 14) :
    (pushBit g b).getLsbD (i + 1) = g.getLsbD i := by
  have inside : i + 1 < 15 := by omega
  have index : i < 15 := by omega
  cases b <;> simp [pushBit, inside, BitVec.getLsbD_eq_getElem index]

/-- A bit shifted in drops the oldest of the 15 held and becomes the newest. -/
theorem heldBits_pushBit (g : BitVec 15) (b : Bool) : heldBits (pushBit g b) = (heldBits g).drop 1 ++ [b] := by
  have moved : (List.range 14).map (fun i => (pushBit g b).getLsbD (14 - i)) =
      (List.range 14).map (fun i => g.getLsbD (14 - (i + 1))) :=
    List.map_congr_left fun i inside => by
      have index : 14 - i = 14 - (i + 1) + 1 := by have := List.mem_range.mp inside; omega
      rw [index, pushBit_older g b (by omega)]
  calc heldBits (pushBit g b)
      = (List.range 14).map (fun i => (pushBit g b).getLsbD (14 - i)) ++ [(pushBit g b).getLsbD 0] := by
        rw [heldBits, List.range_succ, List.map_append, List.map_singleton]
    _ = (List.range 14).map (fun i => g.getLsbD (14 - (i + 1))) ++ [b] := by rw [moved, pushBit_newest]
    _ = (heldBits g).drop 1 ++ [b] := by rw [heldBits, List.range_succ_eq_map, List.map_cons, List.map_map]; rfl

/-- The generator's next bit is that of the sequence after the bits it holds. -/
theorem nextBit_eq (g : BitVec 15) : nextBit g = xor ((heldBits g).getD 0 false) ((heldBits g).getD 1 false) :=
  Bool.xor_comm _ _

theorem heldBits_stepGenerator (g : BitVec 15) : heldBits (stepGenerator g) = (heldBits g).drop 1 ++ [nextBit g] :=
  heldBits_pushBit g (nextBit g)

/-- The sequence after the held bits begins with the generator's next bit and goes on after the generator's step. -/
theorem prbsAfter_heldBits (g : BitVec 15) (n : Nat) :
    prbsAfter (heldBits g) (n + 1) = nextBit g :: prbsAfter (heldBits (stepGenerator g)) n := by
  rw [prbsAfter, heldBits_stepGenerator, nextBit_eq]

/-- Moving one place along a nonempty list of held bits: its oldest bit goes and one bit joins. -/
theorem drop_past_cons {past : List Bool} (held : past ≠ []) (b : Bool) (l : List Bool) (n : Nat) :
    (past ++ b :: l).drop (n + 1) = (past.drop 1 ++ [b] ++ l).drop n := by
  cases past with
  | nil => exact absurd rfl held
  | cons x past => simp

theorem heldBits_ne_nil (g : BitVec 15) : heldBits g ≠ [] := by simp [heldBits]

/-- Bits shifted in one after another become the newest held. -/
theorem heldBits_foldl_pushBit (l : List Bool) (g : BitVec 15) :
    heldBits (l.foldl pushBit g) = (heldBits g ++ l).drop l.length := by
  induction l generalizing g with
  | nil => simp
  | cons b l ih =>
    rw [List.foldl_cons, ih, heldBits_pushBit, List.length_cons, drop_past_cons (heldBits_ne_nil g)]

/-- Fifteen bits shifted in are the bits held (R150, case 1). -/
theorem heldBits_seed {l : List Bool} (full : l.length = 15) : heldBits (l.foldl pushBit 0) = l := by
  have held : (heldBits 0).length = l.length := by simp [heldBits, full]
  rw [heldBits_foldl_pushBit, List.drop_left' held]

/-- The generator advanced by n bits holds the 15 bits that stand n places further on in the sequence (R150, case 4). -/
theorem heldBits_advanceGenerator (n : Nat) (g : BitVec 15) :
    heldBits (advanceGenerator n g) = (heldBits g ++ prbsAfter (heldBits g) n).drop n := by
  induction n generalizing g with
  | zero => simp [advanceGenerator, prbsAfter]
  | succ n ih =>
    rw [advanceGenerator, ih, prbsAfter_heldBits, drop_past_cons (heldBits_ne_nil g), heldBits_stepGenerator]

/-- Comparing bits moves the generator on by as many, and counts those that differ from the sequence (R150). -/
theorem compareBits_spec (bits : List Bool) (g : BitVec 15) :
    heldBits (compareBits bits g).1 = (heldBits g ++ prbsAfter (heldBits g) bits.length).drop bits.length ∧
      (compareBits bits g).2 = mismatches bits (prbsAfter (heldBits g) bits.length) := by
  induction bits generalizing g with
  | nil => simp [compareBits, prbsAfter, mismatches]
  | cons b bits ih =>
    obtain ⟨held, count⟩ := ih (stepGenerator g)
    rw [compareBits, List.length_cons, prbsAfter_heldBits]
    refine ⟨?_, ?_⟩
    · rw [held, drop_past_cons (heldBits_ne_nil g), heldBits_stepGenerator]
    · rw [count]
      by_cases same : b = nextBit g <;> simp [mismatches, same]

/-! ## The cases of the checker (R150) -/

variable {counter : Counter} {bits : List Bool} {c : Checker} {e : Engine}

/-- A synchronised checker's comparison in the words of the sequence. -/
theorem checkBits_compared (sync : c.synchronised = true) (expected : c.expected = counter + 48) :
    Compared c.past bits counter e.missingFrames e (checkBits bits c e) := by
  obtain ⟨held, count⟩ := compareBits_spec bits c.generator
  exact ⟨sync, expected, held, by rw [past_eq_heldBits, ← count]; rfl⟩

/-- The seeding frame's first 15 bits are held, and the rest is compared with what follows them (R150, case 1). -/
theorem seedChecker_compared (long : 15 ≤ bits.length) :
    Compared (bits.take 15) (bits.drop 15) counter e.missingFrames e (seedChecker counter bits c e) := by
  have held : heldBits ((bits.take 15).foldl pushBit 0) = bits.take 15 := heldBits_seed (List.length_take_of_le long)
  have compared := checkBits_compared (counter := counter) (bits := bits.drop 15) (e := e)
    (c := { c with generator := (bits.take 15).foldl pushBit 0, synchronised := true, expected := counter + 48 }) rfl rfl
  rwa [past_eq_heldBits, held] at compared

theorem continueChecker_compared (sync : c.synchronised = true) :
    Compared c.past bits counter e.missingFrames e (continueChecker counter bits c e) :=
  checkBits_compared (c := { c with expected := counter + 48 }) sync rfl

/-- What was compared after missing frames were counted, from the engine before they were. -/
theorem Compared.of_countMissing {past : List Bool} {g : Nat} {r : Checker × Engine}
    (h : Compared past bits counter (countMissing g e).missingFrames (countMissing g e) r) :
    Compared past bits counter (satAdd 4294967295 e.missingFrames g) e r := h

/-- The first frame seeds the checker (R150, case 1). -/
theorem runChecker_unsynchronised (unsync : c.synchronised = false) (long : 15 ≤ bits.length) :
    Compared (bits.take 15) (bits.drop 15) counter e.missingFrames e (runChecker counter bits c e) := by
  rw [runChecker, if_pos unsync]
  exact seedChecker_compared long

/-- A frame in sequence is compared as the continuation of the bits held (R150, case 2). -/
theorem runChecker_inSequence (sync : c.synchronised = true) (same : counterDiff counter c.expected = 0) :
    Compared c.past bits counter e.missingFrames e (runChecker counter bits c e) := by
  have run : runChecker counter bits c e = continueChecker counter bits c e := by simp [runChecker, sync, same]
  rw [run]
  exact continueChecker_compared sync

/-- A frame before the expected counter is ignored (R150, case 3). -/
theorem runChecker_early (sync : c.synchronised = true) (early : counterDiff counter c.expected < 0) :
    runChecker counter bits c e = (c, e) := by
  simp [runChecker, sync, early, early.ne]

/-- After a gap of g whole frames the generator moves on over their bits (R150, case 4). -/
theorem runChecker_wholeGap {g : Nat} (sync : c.synchronised = true) (gap : counterDiff counter c.expected = 48 * (g : Int))
    (some_missing : 1 ≤ g) (near : counterDiff counter c.expected ≤ 1048576) :
    Compared ((c.past ++ prbsAfter c.past (bits.length * g)).drop (bits.length * g)) bits counter
      (satAdd 4294967295 e.missingFrames g) e (runChecker counter bits c e) := by
  have later : ¬ counterDiff counter c.expected < 0 := by omega
  have other : counterDiff counter c.expected ≠ 0 := by omega
  have whole : counterDiff counter c.expected % 48 = 0 ∧ counterDiff counter c.expected ≤ staleSpan := ⟨by omega, near⟩
  have frames : (counterDiff counter c.expected / 48).toNat = g := by omega
  have run : runChecker counter bits c e = continueChecker counter bits
      { c with generator := advanceGenerator (bits.length * g) c.generator } (countMissing g e) := by
    simp only [runChecker, sync, Bool.true_eq_false, if_false, if_neg other, if_neg later, if_pos whole, frames]
  have compared := continueChecker_compared (counter := counter) (bits := bits) (e := countMissing g e)
    (c := { c with generator := advanceGenerator (bits.length * g) c.generator }) sync
  rw [past_eq_heldBits, heldBits_advanceGenerator, ← past_eq_heldBits] at compared
  rw [run]
  exact compared.of_countMissing

/-- After any other gap one missing frame is counted and the checker synchronises afresh (R150, case 5). -/
theorem runChecker_brokenGap (sync : c.synchronised = true) (gap : 0 < counterDiff counter c.expected)
    (broken : counterDiff counter c.expected % 48 ≠ 0 ∨ 1048576 < counterDiff counter c.expected)
    (long : 15 ≤ bits.length) : Compared (bits.take 15) (bits.drop 15) counter (satAdd 4294967295 e.missingFrames 1) e
      (runChecker counter bits c e) := by
  have far : ¬ (counterDiff counter c.expected % 48 = 0 ∧ counterDiff counter c.expected ≤ staleSpan) := by
    unfold staleSpan
    omega
  have run : runChecker counter bits c e = seedChecker counter bits c (countMissing 1 e) := by
    simp only [runChecker, sync, Bool.true_eq_false, if_false, if_neg gap.ne', if_neg gap.le.not_gt, if_neg far]
  rw [run]
  exact (seedChecker_compared long).of_countMissing

end Sys2Proof.Machine
end

section
/-! PROOFS. The end of a line test and the frames handed to its checker (R22, R23, R150, R151, R160, R161). -/

namespace Sys2Proof.Machine

variable {s : State} {x : LineTest} {r : TestResult}

/-! ## The end of a test (R151) -/

/-- The END command of a test (R151, R182). -/
def endCommand (s : State) (x : LineTest) : Frame := ownFrame s x.address kindTestCommand (testCommandPayload false 0)

/-- With room in the control queue a TEST_COMMAND joins its tail (R161). -/
theorem queueTestCommand_room (f : Frame) (s : State) (room : s.ports.control.length < 64) : queueTestCommand f s =
    { s with ports := { s.ports with control := s.ports.control ++ [{ tally := false, frame := f }] } } := if_pos room

/-- Entry into ACQUIRE changes its station, and what the rise of STATION_STATE changes (R22, R23). -/
theorem enterAcquire_frame (i : Fin 16) (s : State) : ∃ x q m, enterAcquire i s =
    { s with stations := x, ports := { s.ports with management := q }, management := m } := by
  unfold enterAcquire
  rcases setStationState_spec i .acquire (modStation i (fun st =>
    { st with releasePoint := none, evictedBelow := none, tracker := st.tracker.toAcquisition }) s) with same | moved
  · exact ⟨_, _, _, same⟩
  · obtain ⟨q, h, p, raised⟩ := raise_spec .stationState (modStation i (fun st => { st with state := .acquire })
      (modStation i (fun st =>
        { st with releasePoint := none, evictedBelow := none, tracker := st.tracker.toAcquisition }) s))
    exact ⟨_, _, _, moved.trans raised⟩

theorem enterAcquire_state (i : Fin 16) (s : State) : (enterAcquire i s).stations[i].state = .acquire :=
  setStationState_state i .acquire _

/-- A station that was not in ACQUIRE sets STATION_STATE as it enters it (R22). -/
theorem enterAcquire_flagSet {i : Fin 16} (moves : s.stations[i].state ≠ .acquire) :
    flagSet (enterAcquire i s) .stationState = true := by
  unfold enterAcquire setStationState
  rw [if_neg (by rw [modStation_station_self]; exact moves)]
  exact raise_sets _ _

/-- A tested station's leave: END is queued, and from TEST the station goes to ACQUIRE (R151). -/
def leaveTest (x : LineTest) (s : State) : State :=
  let told := queueTestCommand (endCommand s x) s
  if told.stations[x.station].state = .test then enterAcquire x.station told else told

theorem endTest_test (test : s.engine.state = .test x) (r : TestResult) : endTest r s =
    setEngine .idle (raise .testDone
      { leaveTest x s with engine := { (leaveTest x s).engine with result := some r } }) := by
  unfold endTest
  rw [test]
  rfl

/-- A station in TEST enters ACQUIRE once END is queued. -/
theorem leaveTest_tested (tested : s.stations[x.station].state = .test) : ∃ u, leaveTest x s = enterAcquire x.station u ∧
    u.stations = s.stations := by
  obtain ⟨q, d, queued, -⟩ := queueTestCommand_spec (endCommand s x) s
  have same : (queueTestCommand (endCommand s x) s).stations = s.stations := by rw [queued]
  exact ⟨_, if_pos (by rw [same]; exact tested), same⟩

/-- What a tested station's leave changes: its station, the control queue with END in it, and what a flag's rise changes. -/
theorem leaveTest_frame (x : LineTest) (s : State) : ∃ y q m, leaveTest x s =
    { s with stations := y
             ports := { (queueTestCommand (endCommand s x) s).ports with management := q }
             management := m } := by
  obtain ⟨c, d, queued, -⟩ := queueTestCommand_spec (endCommand s x) s
  unfold leaveTest
  dsimp only
  split
  · obtain ⟨y, q, m, acquires⟩ := enterAcquire_frame x.station (queueTestCommand (endCommand s x) s)
    refine ⟨y, q, m, ?_⟩
    rw [acquires, queued]
  · refine ⟨s.stations, s.ports.management, s.management, ?_⟩
    rw [queued]

/-- What the end of a test changes: the stations, the engine, IDLE with the result, the control queue with END in it, and what the
rises of flags change (R151). -/
theorem endTest_frame (test : s.engine.state = .test x) (r : TestResult) : ∃ y q m, endTest r s =
    { s with stations := y
             engine := { s.engine with state := .idle, result := some r }
             ports := { (queueTestCommand (endCommand s x) s).ports with management := q }
             management := m } := by
  obtain ⟨y, q, m, left⟩ := leaveTest_frame x s
  rw [endTest_test test, left]
  obtain ⟨q', h, p, raised⟩ := raise_spec .testDone
    { s with stations := y
             ports := { (queueTestCommand (endCommand s x) s).ports with management := q }
             management := m
             engine := { s.engine with result := some r } }
  exact ⟨y, q', _, by rw [raised]; rfl⟩

theorem endTest_engine (test : s.engine.state = .test x) (r : TestResult) :
    (endTest r s).engine = { s.engine with state := .idle, result := some r } := by
  obtain ⟨y, q, m, ended⟩ := endTest_frame test r
  rw [ended]

/-- The end of a test leaves port A as it is, and END in the control queue: at its tail where there is room (R151, R161). -/
theorem endTest_portA (test : s.engine.state = .test x) (r : TestResult) :
    (endTest r s).ports.a = s.ports.a ∧
      ({ tally := false, frame := endCommand s x } : ControlFrame) ∈ (endTest r s).ports.control ∧
      (s.ports.control.length < 64 →
        (endTest r s).ports.control = s.ports.control ++ [{ tally := false, frame := endCommand s x }]) := by
  obtain ⟨y, q, m, ended⟩ := endTest_frame test r
  obtain ⟨c, d, queued, inside⟩ := queueTestCommand_spec (endCommand s x) s
  rw [ended, queued]
  refine ⟨rfl, inside, fun room => ?_⟩
  rw [queueTestCommand_room _ _ room] at queued
  exact (congrArg (fun t : State => t.ports.control) queued).symm

theorem endTest_testDone (test : s.engine.state = .test x) (r : TestResult) : flagSet (endTest r s) .testDone = true := by
  rw [endTest_test test]
  exact raise_sets _ _

theorem endTest_stations (test : s.engine.state = .test x) (r : TestResult) :
    (endTest r s).stations = (leaveTest x s).stations := by
  rw [endTest_test test, setEngine_stations, raise_stations]

/-- The station of a test that ends goes from TEST to ACQUIRE, with STATION_STATE set, and no other station changes (R22, R151). -/
theorem endTest_station (test : s.engine.state = .test x) (tested : s.stations[x.station].state = .test)
    (r : TestResult) : (endTest r s).stations[x.station].state = .acquire ∧
      (∀ k : Fin 16, k ≠ x.station → (endTest r s).stations[k] = s.stations[k]) ∧
      flagSet (endTest r s) .stationState = true := by
  obtain ⟨u, acquires, same⟩ := leaveTest_tested tested
  have moves : u.stations[x.station].state ≠ .acquire := by rw [same, tested]; decide
  refine ⟨?_, fun k other => ?_, ?_⟩
  · rw [endTest_stations test, acquires]
    exact enterAcquire_state x.station u
  · rw [endTest_stations test, acquires, enterAcquire_other _ _ _ other, same]
  · rw [endTest_test test, acquires]
    exact raise_keeps .testDone _ _ (enterAcquire_flagSet (s := u) moves)

/-! ## Port A at the end of a command (R160, R161) -/

/-- What port A does at the end of a command whose sender has nothing to take: a busy or dark port takes nothing, and a ready one the
head of the control queue. -/
theorem settle_portA
    (sender : s.output.sending = none → s.output.openS.eligible = false ∧ s.output.sealedS.eligible = false) :
    (portReady s .A = false → (settle s).ports.control = s.ports.control) ∧
    (∀ c l, portReady s .A = true → s.ports.control = c :: l →
      (settle s).ports.a.transmitting = some { origin := .control, frame := c.frame }) := by
  obtain ⟨a, control, -, -⟩ := arbiterB_portA (arbiterA s)
  rw [settle, runSender_settled s sender, a, control]
  refine ⟨fun busy => ?_, fun c l ready queue => ?_⟩
  · rw [arbiterA, busy]
    rfl
  · rw [arbiterA, ready, if_pos rfl, selectA, queue]
    rfl

/-! ## The command (R151) -/

theorem testDue_iff (x : LineTest) :
    testDue x = true ↔ x.duration ≤ x.elapsed ∨ 200 ≤ x.elapsed ∧ x.answered = false := by
  rw [testDue, Bool.or_eq_true, Bool.and_eq_true, decide_eq_true_iff, decide_eq_true_iff, Bool.not_eq_true']
  rfl

theorem exec_lineTestEnd (test : s.engine.state = .test x) (due : testDue x = true) :
    exec .lineTestEnd s = .next (settle (endTest (testResult s.engine x) s)) := by
  refine congrArg Host.Outcome.next ?_
  rw [endDueTest, test]
  exact if_pos due

/-! ## A frame handed to the checker (R24, R26, R150) -/

/-- An accepted frame of a station in TEST returns its silence count to 0 and leaves it in TEST (R24). -/
theorem acceptFrame_tested {i : Fin 16} (tested : s.stations[i].state = .test) :
    acceptFrame i s = modStation i (fun z => { z with silence := 0 }) s := by
  have still : (modStation i (fun z => { z with silence := 0 }) s).stations[i].state ≠ .absent := by
    rw [modStation_station_self]
    exact fun absent => StationState.noConfusion (tested.symm.trans absent)
  exact if_neg still

/-- The checks of a frame look at a station's entry and state alone (R26). -/
theorem passesChecks_congr {t : State} {i : Fin 16} (entry : t.entry i = s.entry i)
    (state : t.stations[i].state = s.stations[i].state) (f : Frame) : passesChecks t i f = passesChecks s i f := by
  unfold passesChecks
  rw [entry, state]

theorem takeEvents_none {f : Frame} (none_carried : audioEventCount f.body = 0) (i : Fin 16) (s : State) :
    takeEvents i f s = s := by
  rw [takeEvents, audioEvents, none_carried]
  rfl

theorem checkPattern_test (test : s.engine.state = .test x) (counter : Counter) (samples : List Byte) :
    checkPattern counter samples s =
      { s with engine := { (runChecker counter (sampleBits samples) x.checker s.engine).2 with
          state := .test { x with
            answered := true, checker := (runChecker counter (sampleBits samples) x.checker s.engine).1 } } } := by
  unfold checkPattern
  rw [test]

/-- A checked frame without events of a station in TEST goes to the checker alone (R24, R26, R150). -/
theorem receiveAudio_tested {f : Frame} {i : Fin 16} (awake : s.part.awake = true) (source : stationOf s f = some i)
    (tested : s.stations[i].state = .test) (passes : passesChecks s i f = true)
    (none_carried : audioEventCount f.body = 0) : receiveAudio f s =
      checkPattern (audioCounter f.body) (audioSamples f.body) (modStation i (fun z => { z with silence := 0 }) s) := by
  have still : (modStation i (fun z => { z with silence := 0 }) s).stations[i].state = .test := by
    rw [modStation_station_self]
    exact tested
  have checked : passesChecks (modStation i (fun z => { z with silence := 0 }) s) i f = true :=
    (passesChecks_congr (modStation_entry s i i _) (still.trans tested.symm) f).trans passes
  rw [receiveAudio, source]
  dsimp only
  rw [receiveFrom, if_pos awake, acceptFrame_tested tested, if_pos checked, takeChecked, if_pos still,
    takeEvents_none none_carried]

/-- A frame handed to the checker leaves nothing for the sender or a port: a test has no monitor frame (R144). -/
theorem settled_of_test {t : State} (settled : s.Settled) (test : t.engine.state = .test x) (output : t.output = s.output)
    (ports : t.ports = s.ports) : t.Settled := by
  obtain ⟨sender, portA, portB⟩ := settled
  have quiet (p : Port) : monitorFor t p = none := by rw [monitorFor, test]
  have ready (p : Port) : portReady t p = portReady s p := by cases p <;> simp only [portReady, State.port, ports]
  have offered : offeredFrame t = offeredFrame s := by rw [offeredFrame, output]; rfl
  rw [State.Settled, output, ready, ready, quiet, quiet, offered, ports]
  refine ⟨sender, fun free => ?_, fun free => ?_⟩
  · obtain ⟨control, -, forwards⟩ := portA free
    exact ⟨control, rfl, forwards⟩
  · obtain ⟨management, -, records, forwards⟩ := portB free
    exact ⟨management, rfl, records, forwards⟩

theorem exec_stationAudio (f : Frame) (arrives : arrivesAs s .A f .stationAudio = true) :
    exec (.stationAudio f) s = .next (settle (receiveAudio f s)) := congrArg Host.Outcome.next (if_pos arrives)

/-- Settles O30: the end of a due test with the port that takes END, the way of a checked frame to the checker, and the checker's
cases. -/
theorem lineTestEndsWithResult : Obligations.LineTestEndsWithResult := by
  refine ⟨?_, ?_, fun counter bits c e =>
    ⟨runChecker_unsynchronised, runChecker_inSequence, fun g => runChecker_wholeGap, runChecker_brokenGap, runChecker_early⟩⟩
  · intro s x settled test tested due command
    have run := exec_lineTestEnd test ((testDue_iff x).mpr due)
    have engine := endTest_engine test (testResult s.engine x)
    have done := endTest_testDone test (testResult s.engine x)
    obtain ⟨acquires, others, moved⟩ := endTest_station test tested (testResult s.engine x)
    obtain ⟨portA, inside, room⟩ := endTest_portA test (testResult s.engine x)
    obtain ⟨frame, -⟩ := endTest_ends (testResult s.engine x) s
    generalize endTest (testResult s.engine x) s = u at *
    have idle : u.engine.state = .idle := by rw [engine]
    have ready : portReady u .A = portReady s .A := by simp only [portReady, State.port, portA]
    have sender : u.output.sending = none → u.output.openS.eligible = false ∧ u.output.sealedS.eligible = false := by
      rw [frame]
      exact settled.1
    obtain ⟨waits, goes⟩ := settle_portA sender
    obtain ⟨p, settles⟩ := settle_ports sender fun port _ => monitorFor_idle idle port
    rw [ready] at waits goes
    refine ⟨_, run, ?_, ?_, fun k other => ?_, ?_, ?_, fun free => ?_, fun busy few => ?_, fun busy => ?_, ?_⟩
    · rw [settle_engine_idle idle, engine]
      rfl
    · rw [settle_stations]
      exact acquires
    · rw [settle_stations]
      exact others k other
    · rw [settle_flagSet]
      exact done
    · rw [settle_flagSet]
      exact moved
    · obtain ⟨empty, -⟩ := settled.2.1 free
      rw [empty] at room
      exact goes _ [] free (room (by decide))
    · rw [waits busy]
      exact room few
    · rw [waits busy]
      exact inside
    · rw [settles, frame]
  · intro s f x settled arrives awake test source tested passes quiet r
    have handed := receiveAudio_tested awake source tested passes quiet
    rw [checkPattern_test (s := modStation x.station (fun z => { z with silence := 0 }) s) test] at handed
    rw [exec_stationAudio f arrives, handed]
    exact congrArg Host.Outcome.next (settle_of_settled _
      (settled_of_test (x := { x with answered := true, checker := r.1 }) settled rfl rfl rfl))

end Sys2Proof.Machine
end

section
/-! PROOFS. The monitor frame and the level meter at a block close, and the requests that attach and detach the tap (R144 to R148,
R152). -/

namespace Sys2Proof.Machine

variable {s : State}

/-! ## The level meter (R148) -/

/-- Running the largest absolute value along samples from a value held: at least that value and every sample's, and one of them. -/
theorem foldl_max_natAbs (l : List Sample) (m : Nat) :
    let top := l.foldl (fun n v => max n v.toInt.natAbs) m
    m ≤ top ∧ (∀ v ∈ l, v.toInt.natAbs ≤ top) ∧ (top = m ∨ ∃ v ∈ l, v.toInt.natAbs = top) := by
  induction l generalizing m with
  | nil => simp
  | cons v l ih =>
    obtain ⟨above, bound, reached⟩ := ih (max m v.toInt.natAbs)
    refine ⟨(le_max_left _ _).trans above, List.forall_mem_cons.mpr ⟨(le_max_right _ _).trans above, bound⟩, ?_⟩
    rcases reached with held | ⟨w, mem, top⟩
    · rcases max_choice m v.toInt.natAbs with kept | raised
      · exact .inl (held.trans kept)
      · exact .inr ⟨v, List.mem_cons_self, raised.symm.trans held.symm⟩
    · exact .inr ⟨w, List.mem_cons_of_mem v mem, top⟩

/-- The meter once a frame's samples were offered: as it was, or the largest absolute value where that is larger (R148). -/
theorem meter_spec (meter : Nat) (l : List Sample) :
    meter ≤ max meter (peakOf l) ∧ (∀ v ∈ l, v.toInt.natAbs ≤ max meter (peakOf l)) ∧
      (max meter (peakOf l) = meter ∨ ∃ v ∈ l, v.toInt.natAbs = max meter (peakOf l)) := by
  obtain ⟨-, bound, reached⟩ := foldl_max_natAbs l 0
  refine ⟨le_max_left _ _, fun v mem => (bound v mem).trans (le_max_right _ _), ?_⟩
  rcases max_choice meter (peakOf l) with kept | raised
  · exact .inl kept
  · rcases reached with silent | ⟨v, mem, top⟩
    · have silent : peakOf l = 0 := silent
      exact .inl (by omega)
    · exact .inr ⟨v, mem, top.trans raised.symm⟩

theorem any_atLimit_iff (l : List Sample) : l.any atLimit = true ↔ ∃ v ∈ l, v = 0x7FFFFF ∨ v = 0x800000 := by
  simp [atLimit]

/-! ## A block close (R146 to R148) -/

/-- The tapped track's entry among those of a block. -/
def tappedEntry (x : Tap) (l : List TrackBuild) : Option TrackBuild := l.find? (fun b => b.track == x.track)

/-- The monitor frame of a block close (R146). -/
def monitorFrame (s : State) (x : Tap) (k : BlockNo) (l : List TrackBuild) : Frame :=
  ownFrame s x.destination kindMonitorAudio (monitorPayload x k (tappedEntry x l))

/-- The state with its monitor frame and meter, before TAP_CLIP. -/
def tapped (s : State) (x : Tap) (k : BlockNo) (l : List TrackBuild) : State :=
  { s with engine := s.engine.offer (monitorFrame s x k l) (peakOf (tapSamples x (tappedEntry x l))) }

theorem runTap_untapped (untapped : ∀ x, s.engine.state ≠ .tap x) (k : BlockNo) (l : List TrackBuild) :
    runTap k l s = s := by
  unfold runTap
  split
  · next x tap => exact absurd tap (untapped x)
  · rfl
  · rfl

theorem runTap_tapped {x : Tap} (tap : s.engine.state = .tap x) (k : BlockNo) (l : List TrackBuild) : runTap k l s =
    if (tapSamples x (tappedEntry x l)).any atLimit then raise .tapClip (tapped s x k l) else tapped s x k l := by
  unfold runTap
  rw [tap]
  rfl

theorem runTap_engine {x : Tap} (tap : s.engine.state = .tap x) (k : BlockNo) (l : List TrackBuild) :
    (runTap k l s).engine = s.engine.offer (monitorFrame s x k l) (peakOf (tapSamples x (tappedEntry x l))) := by
  rw [runTap_tapped tap]
  split
  · rw [raise_engine]
    rfl
  · rfl

/-- A block close sets TAP_CLIP where a sample of the tapped track is at a limit of the range, and no other way (R148). -/
theorem runTap_tapClip {x : Tap} (tap : s.engine.state = .tap x) (k : BlockNo) (l : List TrackBuild) :
    flagSet (runTap k l s) .tapClip = true ↔ flagSet s .tapClip = true ∨
      ∃ v ∈ tapSamples x (tappedEntry x l), v = 0x7FFFFF ∨ v = 0x800000 := by
  rw [runTap_tapped tap, ← any_atLimit_iff]
  split
  · next clips => exact iff_of_true (raise_sets _ _) (.inr clips)
  · next within => exact ⟨.inl, fun h => h.resolve_right within⟩

/-- A block close in TAP changes the engine and what raising TAP_CLIP changes. -/
theorem runTap_only {x : Tap} (tap : s.engine.state = .tap x) (k : BlockNo) (l : List TrackBuild) : runTap k l s =
    { s with engine := (runTap k l s).engine, management := (runTap k l s).management, ports := (runTap k l s).ports } := by
  rw [runTap_tapped tap]
  split
  · obtain ⟨q, h, p, raised⟩ := raise_spec .tapClip (tapped s x k l)
    rw [raised]
    rfl
  · rfl

/-- The statement's monitor payload, field by field, is the one built (R146, R182). -/
theorem monitorPayload_eq (x : Tap) (k : BlockNo) (entry : Option TrackBuild) :
    wordBytes k ++ byte x.track.val ++ yesNo entry.isSome ++
      byte (match entry with
        | some b => b.cause.code
        | none => 0) ++ yesNo x.includeSealed ++ half (tapSamples x entry).length ++ [0, 0] ++
      (tapSamples x entry).flatMap (fun v => beBytes 3 v.toNat) = monitorPayload x k entry := by
  cases entry <;> rfl

/-! ## ATTACH_TAP (R144, R152) -/

/-- Outside TAP, and in TAP with another attachment, an attached engine is in TAP with the meter at 0. -/
theorem attach_state (x : Tap) (e : Engine) : (e.attach x).state = .tap x ∧ (e.attach x).meter = 0 := by
  unfold Engine.attach
  split <;> exact ⟨rfl, rfl⟩

/-- An engine that was idle has its test figures cleared as a tap is attached (R144). -/
theorem attach_idle {e : Engine} (idle : e.state = .idle) (x : Tap) : (e.attach x).result = none ∧
    (e.attach x).bitsChecked = 0 ∧ (e.attach x).bitErrors = 0 ∧ (e.attach x).missingFrames = 0 := by
  unfold Engine.attach
  rw [idle]
  exact ⟨rfl, rfl, rfl, rfl⟩

theorem attachTap_untested (untested : ∀ y, s.engine.state ≠ .test y) (x : Tap) :
    attachTap x s = { s with engine := s.engine.attach x } := by
  unfold attachTap
  split
  · next y test => exact absurd test (untested y)
  · rfl
  · rfl

theorem attachTap_tested {y : LineTest} (test : s.engine.state = .test y) (x : Tap) :
    attachTap x s = { endTest .aborted s with engine := (endTest .aborted s).engine.attach x } := by
  unfold attachTap
  rw [test]

/-- A tap attached changes at most what the end of a test changes. -/
theorem attachTap_ends (x : Tap) (s : State) : EndsTest s (attachTap x s) := by
  by_cases test : ∃ y, s.engine.state = .test y
  · obtain ⟨y, test⟩ := test
    rw [attachTap_tested test]
    exact (endTest_ends .aborted s).after_engine
  · rw [attachTap_untested (not_exists.mp test)]
    exact (EndsTest.refl s).after_engine

theorem attachTap_state (x : Tap) (s : State) :
    (attachTap x s).engine.state = .tap x ∧ (attachTap x s).engine.meter = 0 := attach_state x _

/-- A test that a tap ends sets TEST_DONE, and its figures are cleared (R144, R152). -/
theorem attachTap_clears {y : LineTest} (test : s.engine.state = .test y) (x : Tap) :
    flagSet (attachTap x s) .testDone = true ∧ (attachTap x s).engine.result = none ∧
      (attachTap x s).engine.bitsChecked = 0 ∧ (attachTap x s).engine.bitErrors = 0 ∧
      (attachTap x s).engine.missingFrames = 0 := by
  rw [attachTap_tested test]
  exact ⟨endTest_testDone test .aborted, attach_idle (by rw [endTest_engine test]) x⟩

/-- A request whose effect is at most that of the end of a test and a change of the engine is answered OK (R162, R169). -/
theorem EndsTest.serve_accepted {k : RequestKind} {r : Request} {rest : List Request} {u : State}
    {h : List Byte → State → Answer} (ends : EndsTest (dequeued s rest) u) (settled : s.Settled)
    (serving : Serving s k r rest) (answer : h r.payload (dequeued s rest) = accept u) :
    ∃ p w, serve k h s = { u with ports := p, engine := { u.engine with waiting := w } } ∧
      Replied .nothing (replyTo s.config r .ok []) { u with ports := p, engine := { u.engine with waiting := w } } := by
  obtain ⟨p, w, served, replied, -⟩ := serve_accepted_spec settled serving answer (by rw [ends.frame]; rfl)
    ⟨by rw [ends.frame]; rfl, fun st => by rw [ends.frame]; rfl⟩
  exact ⟨p, w, served, replied⟩

/-- A request that leaves the engine IDLE leaves it as its effect does. -/
theorem serve_engine_idle {k : RequestKind} {r : Request} {rest : List Request} {u : State}
    {h : List Byte → State → Answer} (serving : Serving s k r rest)
    (answer : h r.payload (dequeued s rest) = accept u) (idle : u.engine.state = .idle) :
    (serve k h s).engine = u.engine := by
  rw [serve_serving s k r rest h serving, answer]
  exact settle_engine_idle idle

theorem answerAttachTap_attached {p : List Byte} {x : Tap} (read : readTap p = some x) (s : State) :
    answerAttachTap p s = accept (attachTap x s) := by rw [answerAttachTap, read]

theorem answerAttachTap_refused {p : List Byte} (read : readTap p = none) (s : State) :
    answerAttachTap p s = refuse .range s := by rw [answerAttachTap, read]

/-! ## DETACH (R145, R152) -/

theorem answerDetach_idle (idle : s.engine.state = .idle) (p : List Byte) : answerDetach p s = refuse .state s := by
  rw [answerDetach, idle]

theorem answerDetach_tap {y : Tap} (tap : s.engine.state = .tap y) (p : List Byte) : answerDetach p s =
    accept { s with engine := { s.engine with state := .idle, waiting := none } } := by rw [answerDetach, tap]

theorem answerDetach_test {y : LineTest} (test : s.engine.state = .test y) (p : List Byte) :
    answerDetach p s = accept (endTest .aborted s) := by rw [answerDetach, test]

/-- With its engine gone IDLE a settled state stays settled: no monitor frame waits any more. -/
theorem State.Settled.detached (settled : s.Settled) {e : Engine} (idle : e.state = .idle) :
    ({ s with engine := e } : State).Settled := by
  obtain ⟨sender, portA, portB⟩ := settled
  have quiet (p : Port) : monitorFor { s with engine := e } p = none := monitorFor_idle idle p
  refine ⟨sender, fun free => ?_, fun free => ?_⟩
  · obtain ⟨control, -, forwards⟩ := portA free
    exact ⟨control, quiet .A, forwards⟩
  · obtain ⟨management, -, records, forwards⟩ := portB free
    exact ⟨management, quiet .B, records, forwards⟩

/-- Settles O56: the frame and the meter of a block close, and the cases of ATTACH_TAP and DETACH. -/
theorem tapAttachAndDetach : Obligations.TapAttachAndDetach := by
  refine ⟨?_, fun s r rest settled => ⟨fun serving => ⟨fun x read => ?_, fun read => ?_⟩,
    fun serving => ⟨fun idle => ?_, fun y tap => ?_, fun y test => ?_⟩⟩⟩
  · intro s k l t
    refine ⟨fun untapped => runTap_untapped untapped k l, fun x tap => ?_⟩
    intro entry samples cause payload frame
    have same_frame : frame = monitorFrame s x k l :=
      congrArg (ownFrame s x.destination kindMonitorAudio) (monitorPayload_eq x k entry)
    have engine : t.engine = s.engine.offer frame (peakOf samples) := same_frame ▸ runTap_engine tap k l
    obtain ⟨above, bound, reached⟩ := meter_spec s.engine.meter samples
    rw [engine]
    exact ⟨rfl, above, bound, reached, runTap_tapClip tap k l, engine ▸ runTap_only tap k l⟩
  · obtain ⟨p, w, served, replied⟩ :=
      (attachTap_ends x (dequeued s rest)).serve_accepted settled serving (answerAttachTap_attached read _)
    obtain ⟨state, meter⟩ := attachTap_state x (dequeued s rest)
    have frame := (attachTap_ends x (dequeued s rest)).frame
    refine ⟨_, congrArg Host.Outcome.next served, replied, state, meter, ?_, ?_, ?_, ?_,
      fun y test => attachTap_clears (s := dequeued s rest) test x⟩
    all_goals
      rw [frame]
      rfl
  · exact congrArg Host.Outcome.next (serve_refused settled serving (answerAttachTap_refused read _))
  · exact congrArg Host.Outcome.next (serve_refused settled serving (answerDetach_idle (s := dequeued s rest) idle _))
  · exact congrArg Host.Outcome.next (serve_accepted serving (answerDetach_tap (s := dequeued s rest) tap _)
      ((dequeued_settled s rest settled).detached rfl))
  · have test : (dequeued s rest).engine.state = .test y := test
    have answer := answerDetach_test test r.payload
    have engine := endTest_engine test .aborted
    obtain ⟨p, w, served, replied⟩ := (endTest_ends .aborted (dequeued s rest)).serve_accepted settled serving answer
    have left := serve_engine_idle serving answer (by rw [engine])
    rw [served] at left
    exact ⟨_, congrArg Host.Outcome.next served, replied, endTest_testDone test .aborted, left.trans engine⟩

end Sys2Proof.Machine
end

section
/-! PROOFS. What each port takes next: the choice of its arbiter class by class, and the end of a command that changed one port alone
(R159 to R162). -/

namespace Sys2Proof.Machine

variable {s : State}

/-! ## The choice at port A (R161) -/

theorem monitorFor_tap {x : Tap} {p : Port} (tap : s.engine.state = .tap x) (routed : x.port = p) :
    monitorFor s p = s.engine.waiting := by
  rw [monitorFor, tap]
  exact if_pos routed

/-- The head of the control queue goes first. -/
theorem selectA_control {c : ControlFrame} {rest : List ControlFrame} (queue : s.ports.control = c :: rest) :
    selectA s = transmit .A .control c.frame { s with ports := { s.ports with control := rest } } := by
  rw [selectA, queue]

theorem selectA_monitor {f : Frame} (control : s.ports.control = []) (monitor : monitorFor s .A = some f) :
    selectA s = takeMonitor .A f s := by
  rw [selectA, control, monitor]

theorem selectA_forwarded {f : Frame} {rest : List Frame} (control : s.ports.control = []) (monitor : monitorFor s .A = none)
    (queue : s.ports.forwardBA = f :: rest) : selectA s = transmit .A .forwarded f s := by
  rw [selectA, control, monitor, queue]

theorem selectA_nothing (control : s.ports.control = []) (monitor : monitorFor s .A = none)
    (queue : s.ports.forwardBA = []) : selectA s = s := by
  rw [selectA, control, monitor, queue]

/-! ## The choice at port B (R162) -/

/-- The head of the management transmit queue goes first. -/
theorem selectB_management {m : ManagementFrame} {rest : List ManagementFrame} (queue : s.ports.management = m :: rest) :
    selectB s = transmit .B m.origin m.frame { s with ports := { s.ports with management := rest } } := by
  rw [selectB, queue]

theorem selectB_monitor {f : Frame} (management : s.ports.management = []) (monitor : monitorFor s .B = some f) :
    selectB s = takeMonitor .B f s := by
  rw [selectB, management, monitor]

/-- The record frame offered goes when nothing waits to be forwarded, and on its turn. -/
theorem selectClass3_record {f : Frame} (offered : offeredFrame s = some f)
    (first : s.ports.forwardAB = [] ∨ s.ports.turn = .record) : selectClass3 s = takeRecordFrame f s := by
  rw [selectClass3, offered]
  cases queue : s.ports.forwardAB with
  | nil => rfl
  | cons head rest => rw [first.resolve_left (by rw [queue]; exact List.cons_ne_nil head rest)]

/-- The head of the A-to-B queue goes when no record frame is offered, and on its turn. -/
theorem selectClass3_passThrough {f : Frame} {rest : List Frame} (queue : s.ports.forwardAB = f :: rest)
    (first : offeredFrame s = none ∨ s.ports.turn = .passThrough) : selectClass3 s = takeForwarded f s := by
  cases offered : offeredFrame s with
  | none => exact selectClass3_forwarded offered queue
  | some r =>
    rw [selectClass3, offered, queue, first.resolve_left (by rw [offered]; exact Option.some_ne_none r)]

theorem selectClass3_nothing (offered : offeredFrame s = none) (queue : s.ports.forwardAB = []) : selectClass3 s = s := by
  rw [selectClass3, offered, queue]

/-! ## The end of a command that changed one port (R160) -/

theorem arbiterA_ready (ready : portReady s .A = true) : arbiterA s = selectA s := if_pos ready

theorem arbiterB_ready (ready : portReady s .B = true) : arbiterB s = selectB s := if_pos ready

/-- Port A's arbiter writes its own port and the control queue, and at most takes the waiting monitor frame. -/
theorem arbiterA_takes (s : State) : ∃ q a w, (w = s.engine.waiting ∨ w = none) ∧
    arbiterA s = { s with ports := { s.ports with control := q, a := a }, engine := { s.engine with waiting := w } } := by
  unfold arbiterA
  split
  · unfold selectA
    split
    · exact ⟨_, _, _, .inl rfl, rfl⟩
    · split
      · exact ⟨_, _, _, .inr rfl, rfl⟩
      · exact ⟨_, _, _, .inl rfl, rfl⟩
      · exact ⟨_, _, _, .inl rfl, rfl⟩
  · exact ⟨_, _, _, .inl rfl, rfl⟩

/-- A monitor frame that has been taken waits for no port. -/
theorem monitorFor_taken {w : Option Frame} {p : Port} (taken : w = s.engine.waiting ∨ w = none) (quiet : monitorFor s p = none) :
    monitorFor { s with engine := { s.engine with waiting := w } } p = none := by
  rcases taken with rfl | rfl
  · exact quiet
  · unfold monitorFor
    split
    · exact ite_self none
    · rfl
    · rfl

/-- Where port B has nothing to take, it has nothing to take after port A's choice either. -/
theorem arbiterB_arbiterA (portB : portReady s .B = true →
    s.ports.management = [] ∧ monitorFor s .B = none ∧ offeredFrame s = none ∧ s.ports.forwardAB = []) :
    arbiterB (arbiterA s) = arbiterA s := by
  obtain ⟨q, a, w, taken, chosen⟩ := arbiterA_takes s
  rw [chosen]
  refine arbiterB_settled _ fun ready => ?_
  obtain ⟨management, monitor, offered, forwards⟩ := portB ready
  exact ⟨management, monitorFor_taken taken monitor, offered, forwards⟩

/-- Where the sender and port B have nothing to take, port A alone may take a frame. -/
theorem settle_eq_arbiterA
    (sender : s.output.sending = none → s.output.openS.eligible = false ∧ s.output.sealedS.eligible = false)
    (portB : portReady s .B = true →
      s.ports.management = [] ∧ monitorFor s .B = none ∧ offeredFrame s = none ∧ s.ports.forwardAB = []) :
    settle s = arbiterA s := by
  rw [settle, runSender_settled s sender, arbiterB_arbiterA portB]

/-- Where the sender and port A have nothing to take, port B alone may take a frame. -/
theorem settle_eq_arbiterB
    (sender : s.output.sending = none → s.output.openS.eligible = false ∧ s.output.sealedS.eligible = false)
    (portA : portReady s .A = true → s.ports.control = [] ∧ monitorFor s .A = none ∧ s.ports.forwardBA = []) :
    settle s = arbiterB s := by
  rw [settle, runSender_settled s sender, arbiterA_settled s portA]

/-- Where the sender has nothing to take, the ports and the waiting monitor frame are all that may change. -/
theorem settle_sender_idle
    (sender : s.output.sending = none → s.output.openS.eligible = false ∧ s.output.sealedS.eligible = false) :
    ∃ p w, settle s = { s with ports := p, engine := { s.engine with waiting := w } } := by
  obtain ⟨q, v, portA⟩ := arbiterA_spec s
  obtain ⟨p, w, portB⟩ := arbiterB_spec (arbiterA s)
  exact ⟨p, w, by rw [settle, runSender_settled s sender, portB, portA]⟩

end Sys2Proof.Machine
end

section
/-! PROOFS. Links that go DOWN and return to UP (R161 to R163). -/

namespace Sys2Proof.Machine

variable {s : State} {p : Port}

/-! ## The frame in transmission (R163) -/

theorem completeTransmission_none (idle : (s.port p).transmitting = none) : completeTransmission p s = s := by
  rw [completeTransmission, idle]

theorem completeTransmission_some {x : InTransmission} (sends : (s.port p).transmitting = some x) :
    completeTransmission p s = afterTransmission p x.origin (modPort p (fun y => { y with transmitting := none }) s) := by
  rw [completeTransmission, sends]

/-- Nothing follows the end of a control, monitor or notice frame. -/
theorem afterTransmission_nothing {o : TxOrigin} (plain : o = .control ∨ o = .monitor ∨ o = .notice) (p : Port) (s : State) :
    afterTransmission p o s = s := by
  rcases plain with rfl | rfl | rfl <;> rfl

theorem modPort_modPort (p : Port) (f g : PortStatus → PortStatus) (s : State) :
    modPort p f (modPort p g s) = modPort p (fun y => f (g y)) s := by
  cases p <;> rfl

theorem modPort_unchanged {f : PortStatus → PortStatus} (same : f (s.port p) = s.port p) : modPort p f s = s := by
  cases p with
  | A => exact congrArg (fun a => ({ s with ports := { s.ports with a := a } } : State)) same
  | B => exact congrArg (fun b => ({ s with ports := { s.ports with b := b } } : State)) same

/-! ## DOWN (R163) -/

theorem portReady_down {f : PortStatus → PortStatus} (down : ∀ x, (f x).linkUp = false) :
    portReady (modPort p f s) p = false := by
  rw [portReady, modPort_port_self, down]
  rfl

/-- A port that goes DOWN takes nothing, and the other finds nothing new. -/
theorem State.Settled.after_down (settled : s.Settled) (p : Port) {f : PortStatus → PortStatus}
    (down : ∀ x, (f x).linkUp = false) : (modPort p f s).Settled := by
  obtain ⟨sender, portA, portB⟩ := settled
  have stopped : portReady (modPort p f s) p ≠ true := by
    rw [portReady_down down]
    exact Bool.false_ne_true
  cases p with
  | A => exact ⟨sender, fun ready => absurd ready stopped, portB⟩
  | B => exact ⟨sender, portA, fun ready => absurd ready stopped⟩

/-- The end of a transmission by the loss of the link is FRAME_TRANSMITTED on a port that is DOWN. -/
theorem exec_linkDown (p : Port) (s : State) : exec (.linkStateChange p false) s =
    .next (settle (completeTransmission p (modPort p (fun y => { y with linkUp := false }) s))) := rfl

theorem exec_linkDown_idle (settled : s.Settled) (idle : (s.port p).transmitting = none) :
    exec (.linkStateChange p false) s = .next (modPort p (fun y => { y with linkUp := false }) s) := by
  have still : ((modPort p (fun y => { y with linkUp := false }) s).port p).transmitting = none := by
    rw [modPort_port_self]
    exact idle
  rw [exec_linkDown, completeTransmission_none still, settle_of_settled _ (settled.after_down p fun _ => rfl)]

/-- A control, monitor or notice frame cut short leaves its port, and nothing more. -/
theorem exec_linkDown_plain {x : InTransmission} (settled : s.Settled) (sends : (s.port p).transmitting = some x)
    (plain : x.origin = .control ∨ x.origin = .monitor ∨ x.origin = .notice) :
    exec (.linkStateChange p false) s = .next (modPort p (fun y => { y with linkUp := false, transmitting := none }) s) := by
  have still : ((modPort p (fun y => { y with linkUp := false }) s).port p).transmitting = some x := by
    rw [modPort_port_self]
    exact sends
  rw [exec_linkDown, completeTransmission_some still, afterTransmission_nothing plain, modPort_modPort,
    settle_of_settled _ (settled.after_down p fun _ => rfl)]

/-! ## UP (R161 to R163) -/

/-- A port whose link has returned to UP. -/
def linkRestored (p : Port) (s : State) : State := modPort p (fun y => { y with linkUp := true }) s

theorem exec_linkUp (p : Port) (s : State) :
    exec (.linkStateChange p true) s = .next (settle (linkRestored p s)) := rfl

theorem exec_linkUp_again (settled : s.Settled) (up : (s.port p).linkUp = true) :
    exec (.linkStateChange p true) s = .next s := by
  have same : linkRestored p s = s := modPort_unchanged (by rw [← up])
  rw [exec_linkUp, same, settle_of_settled s settled]

theorem portReady_linkRestored (idle : (s.port p).transmitting = none) : portReady (linkRestored p s) p = true := by
  rw [portReady, linkRestored, modPort_port_self, idle]
  rfl

theorem exec_linkUp_A (settled : s.Settled) (idle : s.ports.a.transmitting = none) :
    exec (.linkStateChange .A true) s = .next (selectA (linkRestored .A s)) := by
  obtain ⟨sender, -, portB⟩ := settled
  rw [exec_linkUp, settle_eq_arbiterA (s := linkRestored .A s) sender portB,
    arbiterA_ready (portReady_linkRestored (p := .A) idle)]

theorem exec_linkUp_B (settled : s.Settled) (idle : s.ports.b.transmitting = none) :
    exec (.linkStateChange .B true) s = .next (selectB (linkRestored .B s)) := by
  obtain ⟨sender, portA, -⟩ := settled
  rw [exec_linkUp, settle_eq_arbiterB (s := linkRestored .B s) sender portA,
    arbiterB_ready (portReady_linkRestored (p := .B) idle)]

/-- Settles O16: the loss of a link ends the transmission, and its return lets the port's arbiter choose among what waits. -/
theorem linkChangesStopAndResume : Obligations.LinkChangesStopAndResume := by
  intro s p settled
  refine ⟨exec_linkDown_idle settled, fun x => exec_linkDown_plain settled, rfl, exec_linkUp_again settled,
    fun _ idle => ?_, fun _ idle => ?_⟩
  · rw [exec_linkUp_A settled idle]
    refine ⟨fun c rest queue => ?_, fun x f control tap routed waits => ?_, fun f rest control monitor queue => ?_,
      fun control monitor queue => ?_⟩
    · rw [selectA_control (s := linkRestored .A s) queue]
      rfl
    · rw [selectA_monitor (s := linkRestored .A s) control ((monitorFor_tap (s := s) tap routed).trans waits)]
      rfl
    · rw [selectA_forwarded (s := linkRestored .A s) control monitor queue]
      rfl
    · rw [selectA_nothing (s := linkRestored .A s) control monitor queue]
      rfl
  · intro resumed
    rw [exec_linkUp_B settled idle]
    refine ⟨fun m rest queue => ?_, fun x f management tap routed waits => ?_, fun management monitor => ?_⟩
    · rw [selectB_management (s := linkRestored .B s) queue]
      rfl
    · rw [selectB_monitor (s := linkRestored .B s) management ((monitorFor_tap (s := s) tap routed).trans waits)]
      rfl
    · rw [selectB_class3 (s := linkRestored .B s) management monitor]
      refine ⟨fun f offered first => ?_, fun f rest queue first => ?_, fun offered queue => ?_⟩
      · rw [selectClass3_record (s := linkRestored .B s) offered first]
        rfl
      · rw [selectClass3_passThrough (s := linkRestored .B s) queue first]
        rfl
      · rw [selectClass3_nothing (s := linkRestored .B s) offered queue]
        rfl

end Sys2Proof.Machine
end

section
/-! PROOFS. Frames that fail reception, pass-through frames by the port role, and the end of a forwarded frame's and a REPLY's
transmission (R154 to R160, R162, R169). -/

namespace Sys2Proof.Machine

variable {s : State} {p : Port} {f : Frame}

/-! ## Reception (R154) -/

theorem receptionFails_iff {whole : Bool} {bytes : List Byte} {fcs : BitVec 32} : receptionFails whole bytes fcs = true ↔
    whole = false ∨ bytes.length + 4 < 64 ∨ 1522 < bytes.length + 4 ∨ fcs ≠ crc32 bytes := by
  simp [receptionFails, or_assoc]

/-- A frame that meets all conditions does not fail reception. -/
theorem receptionFails_false {whole : Bool} {bytes : List Byte} {fcs : BitVec 32} (received : whole = true)
    (long : 64 ≤ bytes.length + 4) (short : bytes.length + 4 ≤ 1522) (checked : fcs = crc32 bytes) :
    receptionFails whole bytes fcs = false := by
  rw [Bool.eq_false_iff, Ne, receptionFails_iff]
  rintro (cut | small | large | damaged)
  · exact Bool.false_ne_true (cut.symm.trans received)
  · exact absurd small (not_lt.mpr long)
  · exact absurd large (not_lt.mpr short)
  · exact damaged checked

theorem exec_receiveError_up {whole : Bool} {bytes : List Byte} {fcs : BitVec 32} (up : (s.port p).linkUp = true) :
    exec (.receiveError p whole bytes fcs) s =
      .next (if receptionFails whole bytes fcs then countReceiveError p s else s) := by
  change Host.Outcome.next (if (s.port p).linkUp && receptionFails whole bytes fcs then countReceiveError p s else s) = _
  rw [up, Bool.true_and]

/-- Settles O17: a reception fails by one of R154's conditions, and is then counted. -/
theorem receiveErrorsAreCounted : Obligations.ReceiveErrorsAreCounted := by
  intro s p whole bytes fcs up
  rw [exec_receiveError_up up]
  refine ⟨fun fails => ?_, fun received long short checked => ?_⟩
  · rw [if_pos (receptionFails_iff.mpr fails)]
    rfl
  · rw [receptionFails_false received long short checked]
    rfl

/-! ## Pass-through frames (R155 to R159) -/

theorem exec_passThrough (arrives : arrivesAs s p f .passThrough = true) :
    exec (.passThrough p f) s = .next (settle (forwardFrom p f s)) := congrArg Host.Outcome.next (if_pos arrives)

theorem forwardFrom_terminal (terminal : s.config.role = .terminalRole) (p : Port) (f : Frame) : forwardFrom p f s = s := by
  unfold forwardFrom
  rw [terminal]

theorem forwardFrom_A_inline (inline : s.config.role = .inlineRole) (f : Frame) : forwardFrom .A f s =
    if s.ports.forwardAB.length < 64 then { s with ports := { s.ports with forwardAB := s.ports.forwardAB ++ [f] } }
    else { s with ports := { s.ports with dropAB := satInc16 s.ports.dropAB } } := by
  rw [forwardFrom, inline]
  rfl

theorem forwardFrom_B_inline (inline : s.config.role = .inlineRole) (f : Frame) : forwardFrom .B f s =
    if s.ports.forwardBA.length < 64 then { s with ports := { s.ports with forwardBA := s.ports.forwardBA ++ [f] } }
    else { s with ports := { s.ports with dropBA := satInc16 s.ports.dropBA } } := by
  rw [forwardFrom, inline]
  rfl

/-- Where only the queue toward port A has changed, at most its head goes into transmission there; the frame stays in the queue until
it has been transmitted (R159, R161). -/
theorem State.Settled.settle_forwardBA (settled : s.Settled) (q : List Frame) : ∃ a,
    settle { s with ports := { s.ports with forwardBA := q } } = { s with ports := { s.ports with forwardBA := q, a := a } } := by
  obtain ⟨sender, portA, portB⟩ := settled
  rw [settle_eq_arbiterA (s := { s with ports := { s.ports with forwardBA := q } }) sender portB]
  unfold arbiterA
  split
  · next ready =>
    obtain ⟨control, monitor, -⟩ := portA ready
    cases q with
    | nil => exact ⟨_, selectA_nothing (s := { s with ports := { s.ports with forwardBA := [] } }) control monitor rfl⟩
    | cons head rest =>
      exact ⟨_, selectA_forwarded (s := { s with ports := { s.ports with forwardBA := head :: rest } }) control monitor rfl⟩
  · exact ⟨_, rfl⟩

/-- Settles O18: the role decides, then the room in the direction's queue. -/
theorem passThroughFollowsRole : Obligations.PassThroughFollowsRole := by
  intro s f settled
  refine ⟨fun p arrives terminal => ?_, fun arrives inline room => ?_, fun arrives inline full => ?_,
    fun arrives inline room => ?_, fun arrives inline full => ?_⟩ <;> rw [exec_passThrough arrives]
  · rw [forwardFrom_terminal terminal, settle_of_settled s settled]
  · obtain ⟨b, turn, joined⟩ := settled.settle_forwardAB (s.ports.forwardAB ++ [f])
    rw [forwardFrom_A_inline inline, if_pos room, joined]
    exact ⟨_, rfl, rfl, rfl, rfl⟩
  · rw [forwardFrom_A_inline inline, if_neg (not_lt.mpr full)]
    exact congrArg Host.Outcome.next (settle_of_settled _ settled)
  · obtain ⟨a, joined⟩ := settled.settle_forwardBA (s.ports.forwardBA ++ [f])
    rw [forwardFrom_B_inline inline, if_pos room, joined]
    exact ⟨_, rfl, rfl, rfl, rfl⟩
  · rw [forwardFrom_B_inline inline, if_neg (not_lt.mpr full)]
    exact congrArg Host.Outcome.next (settle_of_settled _ settled)

/-! ## The end of a transmission (R159, R160, R162, R169) -/

/-- A forwarded frame transmitted leaves the queue toward its port, and beyond the ports only the waiting monitor frame may change. -/
theorem exec_forwardedTransmitted (settled : s.Settled)
    (sends : (s.port p).transmitting = some { origin := .forwarded, frame := f }) :
    ∃ t, exec (.frameTransmitted p) s = .next t ∧ t.ports.forwardAB = (popForwarded p s).ports.forwardAB ∧
      t.ports.forwardBA = (popForwarded p s).ports.forwardBA ∧
      t = { s with ports := t.ports, engine := { s.engine with waiting := t.engine.waiting } } := by
  have popped : ∃ x, completeTransmission p s = { s with ports := x } ∧ x.forwardAB = (popForwarded p s).ports.forwardAB ∧
      x.forwardBA = (popForwarded p s).ports.forwardBA := by
    rw [completeTransmission_some sends]
    cases p <;> exact ⟨_, rfl, rfl, rfl⟩
  obtain ⟨x, complete, leftAB, leftBA⟩ := popped
  obtain ⟨sender, -, -⟩ := settled
  obtain ⟨q, w, ended⟩ := settle_sender_idle (s := { s with ports := x }) sender
  obtain ⟨keptAB, keptBA, -⟩ := settle_forwards { s with ports := x }
  exact ⟨_, congrArg (fun t => Host.Outcome.next (settle t)) complete, keptAB.trans leftAB, keptBA.trans leftBA, by rw [ended]⟩

/-- With a frame in the management transmit queue, the end of a REPLY's transmission ends the hold and begins that frame's. -/
theorem exec_replyTransmitted_next {m : ManagementFrame} {rest : List ManagementFrame} (settled : s.Settled)
    (sends : s.ports.b.transmitting = some { origin := .reply .nothing, frame := f }) (up : s.ports.b.linkUp = true)
    (queue : s.ports.management = m :: rest) : exec (.frameTransmitted .B) s = .next { s with ports := { s.ports with
      management := rest, repliesFull := false
      b := { s.ports.b with transmitting := some { origin := m.origin, frame := m.frame } } } } := by
  have ready : portReady (answered s) .B = true := by
    rw [portReady, show ((answered s).port .B).linkUp = true from up]
    rfl
  obtain ⟨sender, portA, -⟩ := settled
  rw [exec_frameTransmitted_reply sends rfl, afterReply, settle_eq_arbiterB (s := answered s) sender portA,
    arbiterB_ready ready, selectB_management (s := answered s) queue]
  rfl

/-- An awake part that waits for no reply of its own serves a request once the hold is over, with fewer than 7 replies waiting. -/
theorem mayServe_of (awake : s.part.awake = true) (armed : s.management.armed = .nothing) (free : s.ports.repliesFull = false)
    (room : repliesWaiting s < 7) : mayServe s = true := by
  have places : decide (repliesWaiting s < replyPlaces) = true := decide_eq_true room
  rw [mayServe, awake, places, free, armed]
  rfl

/-- Settles O41: the frame leaves the queue before the arbiter looks at it, and no arbiter writes a forwarding queue. -/
theorem forwardedFrameLeavesQueue : Obligations.ForwardedFrameLeavesQueue := by
  intro s f settled
  refine ⟨exec_forwardedTransmitted (p := .B) settled, fun sends => ?_,
    fun sends up m rest queue => ⟨_, exec_replyTransmitted_next settled sends up queue, rfl, fun reply few awake armed => ?_⟩⟩
  · obtain ⟨t, run, forwardAB, forwardBA, frame⟩ := exec_forwardedTransmitted (p := .A) settled sends
    exact ⟨t, run, forwardBA, forwardAB, frame⟩
  · refine mayServe_of awake armed rfl ?_
    rw [queue, List.filter_cons_of_pos (by rw [reply]; rfl)] at few
    exact few

end Sys2Proof.Machine
end

section
/-! PROOFS. Requests answered by result alone, the Controller Address, and the requests that read and clear flags, Fault Log classes
and counts (R166, R169, R171, R172, R175, R178, R179). -/

namespace Sys2Proof.Machine

variable {s : State}

/-! ## Requests answered by result alone (R169, R171) -/

theorem tableOf_known {n : Nat} (known : n < 8) : ∃ t, tableOf n = some t := by
  interval_cases n <;> exact ⟨_, rfl⟩

theorem tableOf_unknown {n : Nat} (unknown : 8 ≤ n) : tableOf n = none := by
  obtain ⟨m, rfl⟩ := Nat.exists_eq_add_of_le' unknown
  rfl

theorem answerWriteRefused_known {p : List Byte} (known : fieldAt p 4 1 < 8) (s : State) :
    answerWriteRefused p s = refuse .access s := by
  obtain ⟨t, named⟩ := tableOf_known known
  rw [answerWriteRefused, pTable, named]

theorem answerWriteRefused_unknown {p : List Byte} (unknown : 8 ≤ fieldAt p 4 1) (s : State) :
    answerWriteRefused p s = refuse .range s := by
  rw [answerWriteRefused, pTable, tableOf_unknown unknown]

/-- An unknown request is counted with its answer (R169). -/
theorem serve_unknown {r : Request} {rest : List Request} (settled : s.Settled) (serving : Serving s .unknownRequest r rest) :
    serve .unknownRequest answerUnknown s = withReply .nothing (replyTo s.config r .unknown [])
      { s with management := { s.management with requests := rest, unknown := satInc16 s.management.unknown } } :=
  serve_reply s .unknownRequest r rest answerUnknown serving settled

/-- Settles O44: the handler of an unknown request counts it, and a write that reaches WRITE_ENTRIES is refused by whether its table code is
known. -/
theorem unknownAndReadOnlyRequests : Obligations.UnknownAndReadOnlyRequests := by
  intro s r rest settled
  refine ⟨fun serving => ?_, fun serving known => ?_, fun serving unknown => ?_⟩
  · exact congrArg Host.Outcome.next (serve_unknown settled serving)
  · exact congrArg Host.Outcome.next (serve_refused settled serving (answerWriteRefused_known known _))
  · exact congrArg Host.Outcome.next (serve_refused settled serving (answerWriteRefused_unknown unknown _))

/-! ## SET_CONTROLLER (R166) -/

theorem answerSetController_group {p : List Byte} (group : (macAt p 4).getLsbD 40 = true) (s : State) :
    answerSetController p s = refuse .range s := if_pos group

theorem answerSetController_single {p : List Byte} (single : (macAt p 4).getLsbD 40 = false) (s : State) :
    answerSetController p s = accept { s with config := { s.config with controller := macAt p 4 } } :=
  if_neg (Bool.eq_false_iff.mp single)

/-- Settles O60: the group bit decides, and no frame under way depends on the Controller Address. -/
theorem controllerAddressIsSet : Obligations.ControllerAddressIsSet := by
  intro s r rest settled serving
  refine ⟨fun group => ?_, fun single => ?_⟩
  · exact congrArg Host.Outcome.next (serve_refused settled serving (answerSetController_group group _))
  · exact congrArg Host.Outcome.next (serve_accepted serving (answerSetController_single single _) settled)

/-! ## QUERY_STATUS (R148, R175) -/

/-- The level meter is read by no arbiter, and the flags by none. -/
theorem State.Settled.cleared (settled : s.Settled) (flags : BitVec 20) (meter : Nat) :
    ({ s with management := { s.management with flags := flags }, engine := { s.engine with meter := meter } } : State).Settled :=
  settled

/-- Settles O53: the status is read before the handler clears what it has read. -/
theorem queryStatusClearsFlags : Obligations.QueryStatusClearsFlags := by
  intro s r rest settled serving
  exact congrArg Host.Outcome.next
    (serve_reply s .queryStatus r rest answerStatus serving ((dequeued_settled s rest settled).cleared 0 0))

/-! ## The Fault Log (R178, R179) -/

/-- A fixed table's entries, in index order. -/
theorem toList_flatMap {α β : Type} {n : Nat} (v : Vector α n) (f : α → List β) :
    v.toList.flatMap f = (List.finRange n).flatMap fun i => f v[i] := by
  have entries : v.toList = (List.finRange n).map fun i => v[i] := by
    apply List.ext_getElem <;> simp
  rw [entries, List.flatMap_map]

theorem answerReadFaults_eq (p : List Byte) (s : State) : answerReadFaults p s =
    acceptWith ((List.finRange 6).flatMap fun i => (s.management.faults[i]).bytes) s :=
  congrArg (acceptWith · s) (toList_flatMap s.management.faults FaultClass.bytes)

theorem clearClasses_entry (set : BitVec 8) (v : Vector FaultClass 6) (i : Fin 6) : (clearClasses set v)[i] =
    if set.getLsbD i.val then { first := none, repeated := false } else v[i] := by
  simp [clearClasses]

/-- The Fault Log with the classes of a set emptied (R179). -/
def clearFaults (set : BitVec 8) (s : State) : State :=
  { s with management := { s.management with faults := clearClasses set s.management.faults } }

theorem clearFaults_named {set : BitVec 8} {i : Fin 6} (named : set.getLsbD i.val = true) (s : State) :
    (clearFaults set s).management.faults[i] = { first := none, repeated := false } :=
  (clearClasses_entry set s.management.faults i).trans (if_pos named)

theorem clearFaults_kept {set : BitVec 8} {i : Fin 6} (kept : set.getLsbD i.val = false) (s : State) :
    (clearFaults set s).management.faults[i] = s.management.faults[i] :=
  (clearClasses_entry set s.management.faults i).trans (if_neg (Bool.eq_false_iff.mp kept))

theorem answerClearFaults_refused {p : List Byte} (beyond : 64 ≤ (byteAt p 4).toNat) (s : State) :
    answerClearFaults p s = refuse .range s := if_pos beyond

theorem answerClearFaults_cleared {p : List Byte} (classes : (byteAt p 4).toNat < 64) (s : State) :
    answerClearFaults p s = accept (clearFaults (byteAt p 4) s) := if_neg (not_le.mpr classes)

/-- Settles O54: the classes are read in index order, and a set of the six is cleared class by class. -/
theorem faultLogRequests : Obligations.FaultLogRequests := by
  intro s r rest settled
  refine ⟨fun serving => ?_, fun serving classes => ?_, fun serving beyond => ?_⟩
  · exact congrArg Host.Outcome.next (serve_read settled serving (answerReadFaults_eq _ _))
  · have served : exec .clearFaults s = .next (withReply .nothing (replyTo s.config r .ok [])
        (clearFaults (byteAt r.payload 4) (dequeued s rest))) :=
      congrArg Host.Outcome.next (serve_accepted serving (answerClearFaults_cleared classes _) settled)
    obtain ⟨replied, b, m, h, frame⟩ := withReply_spec .nothing (replyTo s.config r .ok [])
      (clearFaults (byteAt r.payload 4) (dequeued s rest))
    refine ⟨_, served, replied, fun i named => ?_, fun i kept => ?_, ?_⟩ <;> rw [frame]
    · exact clearFaults_named named (dequeued s rest)
    · exact clearFaults_kept kept (dequeued s rest)
    · rfl
  · exact congrArg Host.Outcome.next (serve_refused settled serving (answerClearFaults_refused beyond _))

/-! ## CLEAR_COUNTERS (R172) -/

theorem finOf?_val {n : Nat} (i : Fin n) : finOf? n i.val = some i := dif_pos i.isLt

theorem finOf?_beyond {n k : Nat} (beyond : n ≤ k) : finOf? n k = none := dif_neg (not_lt.mpr beyond)

theorem answerClearCounters_station {p : List Byte} {i : Fin 16} (named : fieldAt p 4 1 = i.val) (s : State) :
    answerClearCounters p s = accept (modStation i Station.clearCounts s) := by
  have single : i.val ≠ 255 := by omega
  rw [answerClearCounters, named, if_neg single, finOf?_val]

theorem answerClearCounters_all {p : List Byte} (all : fieldAt p 4 1 = 255) (s : State) :
    answerClearCounters p s = accept (clearAllCounts s) := if_pos all

theorem answerClearCounters_refused {p : List Byte} (beyond : 16 ≤ fieldAt p 4 1) (single : fieldAt p 4 1 ≠ 255) (s : State) :
    answerClearCounters p s = refuse .range s := by
  rw [answerClearCounters, if_neg single, finOf?_beyond beyond]

/-- No count is looked at by the sender or an arbiter. -/
theorem State.Settled.after_clearAllCounts (settled : s.Settled) : (clearAllCounts s).Settled := settled

/-- Settles O55: a station index below 16, ALL, or any other code. -/
theorem clearCountersByName : Obligations.ClearCountersByName := by
  intro s r rest settled serving
  refine ⟨fun i named => ?_, fun all => ⟨clearAllCounts (dequeued s rest), ?_, fun i => ?_, rfl⟩, fun beyond single => ?_⟩
  · exact congrArg Host.Outcome.next (serve_accepted serving (answerClearCounters_station named _) settled)
  · exact congrArg Host.Outcome.next
      (serve_accepted serving (answerClearCounters_all all _) (dequeued_settled s rest settled).after_clearAllCounts)
  · exact getElem_mapTable Station.clearCounts s.stations i
  · exact congrArg Host.Outcome.next (serve_refused settled serving (answerClearCounters_refused beyond single _))

end Sys2Proof.Machine
end

section
/-! PROOFS. The end of the notice holdoff (R162, R176, R177). -/

namespace Sys2Proof.Machine

variable {s : State}

/-! ## A frame placed in the management transmit queue (R162) -/

/-- A frame that waits for port B goes out or waits on. -/
theorem arbiterB_sends {m : ManagementFrame} (waits : m ∈ s.ports.management) :
    (arbiterB s).ports.b.transmitting = some { origin := m.origin, frame := m.frame } ∨ m ∈ (arbiterB s).ports.management := by
  unfold arbiterB
  split
  · cases queue : s.ports.management with
    | nil =>
      rw [queue] at waits
      cases waits
    | cons head rest =>
      rw [selectB_management queue]
      rw [queue] at waits
      exact (List.mem_cons.mp waits).imp (fun same => by rw [same]; rfl) id
  · exact .inr waits

/-- The end of a command that wrote the Management Unit of a settled state and placed a frame in its transmit queue: the frame goes
out or waits, and beyond what was written only the ports change. -/
theorem State.Settled.settle_management (settled : s.Settled) (u : Management) {m : ManagementFrame} {q : List ManagementFrame}
    (placed : m ∈ q) :
    let t := settle { s with management := u, ports := { s.ports with management := q } }
    t = { s with management := u, ports := t.ports } ∧
      (t.ports.b.transmitting = some { origin := m.origin, frame := m.frame } ∨ m ∈ t.ports.management) := by
  obtain ⟨sender, portA, -⟩ := settled
  intro t
  have taken : t = arbiterB { s with management := u, ports := { s.ports with management := q } } :=
    settle_eq_arbiterB sender portA
  obtain ⟨p, ports⟩ := arbiterB_management (t := { s with management := u, ports := { s.ports with management := q } })
    (List.ne_nil_of_mem placed)
  refine ⟨?_, taken ▸ arbiterB_sends placed⟩
  rw [taken, ports]

/-! ## The holdoff's end (R176, R177) -/

theorem endHoldoff_due (pending : s.management.noticePending = true) (controlled : s.config.controller ≠ 0)
    (masked : s.management.flags &&& s.config.noticeMask ≠ 0) : endHoldoff s =
      buildNotice { s with management := { s.management with holdoff := false, noticePending := false } } := by
  unfold endHoldoff
  rw [pending, bne_iff_ne.mpr controlled, bne_iff_ne.mpr masked]
  rfl

theorem endHoldoff_quiet (quiet : s.management.noticePending = false ∨ s.config.controller = 0 ∨
    s.management.flags &&& s.config.noticeMask = 0) : endHoldoff s =
      { s with management := { s.management with holdoff := false, noticePending := false } } := by
  unfold endHoldoff
  refine if_neg fun due => ?_
  simp only [Bool.and_eq_true, bne_iff_ne] at due
  obtain ⟨⟨pending, controlled⟩, masked⟩ := due
  rcases quiet with clear | uncontrolled | unmasked
  · exact Bool.noConfusion (clear.symm.trans pending)
  · exact controlled uncontrolled
  · exact masked unmasked

/-- A NOTICE built waits for port B, and the holdoff timer runs (R162, R176). -/
theorem buildNotice_queued (s : State) : ∃ q,
    buildNotice s = { s with ports := { s.ports with management := q }, management := { s.management with holdoff := true } } ∧
      ({ notice := true, after := .nothing, frame := ownFrame s s.config.controller kindNotice (noticePayload s) } :
        ManagementFrame) ∈ q := by
  obtain ⟨q, queued, placed⟩ := queueNotice_spec (ownFrame s s.config.controller kindNotice (noticePayload s)) s
  exact ⟨q, by rw [buildNotice, queued], placed⟩

theorem exec_noticeHoldoffExpiry_running (running : s.management.holdoff = true) :
    exec .noticeHoldoffExpiry s = .next (settle (endHoldoff s)) := congrArg Host.Outcome.next (if_pos running)

/-- Settles O31: a notice that is due goes through the management transmit queue; otherwise nothing is placed anywhere. -/
theorem holdoffEndReportsPending : Obligations.HoldoffEndReportsPending := by
  intro s settled running
  rw [exec_noticeHoldoffExpiry_running running]
  refine ⟨fun pending controlled masked => ?_, fun quiet => ?_⟩
  · rw [endHoldoff_due pending controlled masked]
    obtain ⟨q, built, placed⟩ := buildNotice_queued
      { s with management := { s.management with holdoff := false, noticePending := false } }
    obtain ⟨frame, sent⟩ :=
      settled.settle_management { s.management with holdoff := true, noticePending := false } placed
    rw [built]
    refine ⟨_, rfl, ?_, ?_, _, rfl, rfl, sent⟩
    · rw [frame, ← running]
    · rw [frame]
  · rw [endHoldoff_quiet quiet]
    exact congrArg Host.Outcome.next (settle_of_settled _ settled)

end Sys2Proof.Machine
end

section
/-! PROOFS. The CRC-32 of checks laid end to end, by the register run over one check after another (R187). -/

namespace Sys2Proof.Machine

/-- The register run over one check after another is the register run over the bytes of all of them. -/
theorem foldl_crcRun_wordBytes (checks : List (BitVec 32)) (r : BitVec 32) :
    checks.foldl (fun r c => crcRun r (wordBytes c)) r = crcRun r (checks.flatMap wordBytes) :=
  List.foldl_flatMap.symm

/-- Settles O8: the part's register is the manual's reflected, and a run over checks is a run over their bytes. -/
theorem crcIsTheManuals : Obligations.CrcIsTheManuals := by
  refine ⟨crc32_eq_manualCrc, by decide +kernel, by decide, fun checks => ?_⟩
  calc checks.foldl (fun r c => crcRun r (wordBytes c)) 0xFFFFFFFF ^^^ 0xFFFFFFFF
    _ = crc32 (checks.flatMap wordBytes) := congrArg (· ^^^ 0xFFFFFFFF) (foldl_crcRun_wordBytes checks 0xFFFFFFFF)
    _ = manualCrc (checks.flatMap wordBytes) := crc32_eq_manualCrc _

end Sys2Proof.Machine
end

section
/-! PROOFS. The step on a queue that holds a command (log entries 30 and 37). -/

namespace Sys2Proof.Machine

/-- Settles O1: `step` chooses by the queue alone, so a queue with a command at its front takes the arm that runs it, with `exec` left
closed. -/
theorem stepRunsFrontCommand : Obligations.StepRunsFrontCommand := by
  intro c s rest front
  unfold step
  rw [front]

end Sys2Proof.Machine
end


section
/-!
PROOFS. What the reception and the tracker of one station may change (R22, R44 to R57): a relation between two states, one lemma per
operation that extends it, and the end of a command that changed one station alone.
-/

namespace Sys2Proof.Machine

/-! ## The relation -/

/-- From the first state to the second one station may have changed, flags may have been set, the Fault Log written and a NOTICE built;
everything else stands. -/
structure OnlyStation (i : Fin 16) (s t : State) : Prop where
  others : ∀ k : Fin 16, k ≠ i → t.stations[k] = s.stations[k]
  frame : t = { s with
    stations := t.stations, management := t.management, ports := { s.ports with management := t.ports.management } }
  flags : ∀ f, flagSet s f = true → flagSet t f = true

variable {i : Fin 16} {s t u : State}

theorem OnlyStation.refl (i : Fin 16) (s : State) : OnlyStation i s s := ⟨fun _ _ => rfl, rfl, fun _ set => set⟩

theorem OnlyStation.trans (h : OnlyStation i s t) (k : OnlyStation i t u) : OnlyStation i s u where
  others j other := (k.others j other).trans (h.others j other)
  frame := by rw [k.frame, h.frame]
  flags f set := k.flags f (h.flags f set)

theorem OnlyStation.after_modStation (h : OnlyStation i s t) {f : Station → Station} : OnlyStation i s (modStation i f t) :=
  h.trans ⟨fun k other => modStation_station_other t i k f other, rfl, fun _ set => set⟩

theorem OnlyStation.after_modTracker (h : OnlyStation i s t) {f : Tracker → Tracker} : OnlyStation i s (modTracker i f t) :=
  h.after_modStation

theorem OnlyStation.after_raise (h : OnlyStation i s t) {f : EventFlag} : OnlyStation i s (raise f t) := by
  obtain ⟨q, a, p, raised⟩ := raise_spec f t
  exact h.trans ⟨fun k _ => by rw [raised], by rw [raised], fun g => raise_keeps f g t⟩

theorem OnlyStation.after_logFault (h : OnlyStation i s t) {k : Fin 6} {o : Occurrence} : OnlyStation i s (logFault k o t) :=
  h.trans ⟨fun _ _ => rfl, rfl, fun _ set => set⟩

/-! ## Station states, thresholds and the tracker -/

theorem OnlyStation.after_setStationState (h : OnlyStation i s t) {x : StationState} :
    OnlyStation i s (setStationState i x t) := by
  rcases setStationState_spec i x t with same | moved
  · rwa [same]
  · rw [moved]
    exact h.after_modStation.after_raise

theorem OnlyStation.after_enterAcquire (h : OnlyStation i s t) : OnlyStation i s (enterAcquire i t) :=
  h.after_modStation.after_setStationState

theorem OnlyStation.after_countJitter (h : OnlyStation i s t) : OnlyStation i s (countJitter i t) := by
  unfold countJitter
  dsimp only
  split
  · exact h.after_modStation.after_raise.after_modTracker
  · exact h.after_modStation

theorem OnlyStation.after_formatEffect (h : OnlyStation i s t) : OnlyStation i s (formatEffect i t) := by
  unfold formatEffect
  dsimp only
  split
  · exact h.after_raise.after_modStation.after_enterAcquire
  · exact h.after_raise.after_modStation

theorem OnlyStation.after_countFormat (h : OnlyStation i s t) {f : Frame} : OnlyStation i s (countFormat i f t) := by
  unfold countFormat
  dsimp only
  split
  · exact h.after_modStation.after_logFault.after_formatEffect
  · exact h.after_modStation.after_logFault

theorem OnlyStation.after_resolveByPrediction (h : OnlyStation i s t) {j : BlockNo} :
    OnlyStation i s (resolveByPrediction i j t) := by
  unfold resolveByPrediction
  dsimp only
  split
  · split
    · exact h.after_modTracker.after_setStationState.after_enterAcquire
    · exact h.after_modTracker.after_setStationState
  · exact h.after_modTracker
  · exact h.after_modTracker

theorem OnlyStation.after_trackWith (h : OnlyStation i s t) {x : Tracker} : OnlyStation i s (trackWith i x t) :=
  h.after_modTracker.after_setStationState

theorem OnlyStation.after_resolveByMeasurement (h : OnlyStation i s t) {j : BlockNo} {m : Counter} :
    OnlyStation i s (resolveByMeasurement i j m t) := by
  unfold resolveByMeasurement
  dsimp only
  split
  · split
    · exact h.after_trackWith
    · split
      · exact h.after_trackWith
      · exact h.after_trackWith.after_countJitter
  · exact h.after_trackWith
  · exact h.after_trackWith

theorem OnlyStation.after_acquireOn (h : OnlyStation i s t) {j : BlockNo} {m : Counter} :
    OnlyStation i s (acquireOn i j m t) :=
  h.after_modStation.after_setStationState

theorem OnlyStation.after_resolveOlder (h : OnlyStation i s t) {l : List BlockNo} :
    OnlyStation i s (l.foldl (resolveOlder i) t) := by
  refine List.foldlRecOn l (resolveOlder i) h fun u hu b _ => ?_
  unfold resolveOlder
  split
  · exact hu.after_resolveByPrediction
  · exact hu

theorem OnlyStation.after_useMeasurement (h : OnlyStation i s t) {j : BlockNo} {m : Counter} :
    OnlyStation i s (useMeasurement i j m t) := by
  unfold useMeasurement
  split
  · exact h.after_acquireOn
  · dsimp only
    split
    · exact h.after_resolveOlder.after_acquireOn
    · exact h.after_resolveOlder.after_resolveByMeasurement

theorem OnlyStation.after_takeReport (h : OnlyStation i s t) {m : MarkNo} {c : Counter} :
    OnlyStation i s (takeReport i m c t) := by
  unfold takeReport
  split
  · exact h
  · split
    · exact h.after_useMeasurement
    · exact h

theorem OnlyStation.after_acceptFrame (h : OnlyStation i s t) : OnlyStation i s (acceptFrame i t) := by
  unfold acceptFrame
  dsimp only
  split
  · exact h.after_modStation.after_enterAcquire
  · exact h.after_modStation

/-! ## The end of the command (R160 to R162) -/

/-- Where Record Output, the engine and the ports' own status stand as in a settled state, the sender has nothing to take and no port a
monitor frame, so the end of the command changes the ports alone. -/
theorem State.Settled.settle_same (settled : s.Settled) (output : t.output = s.output) (engine : t.engine = s.engine)
    (portA : t.ports.a = s.ports.a) (portB : t.ports.b = s.ports.b) : ∃ p, settle t = { t with ports := p } := by
  refine settle_ports ?_ fun p ready => ?_
  · rw [output]
    exact settled.1
  · have waits : monitorFor t p = monitorFor s p := by
      unfold monitorFor
      rw [engine]
    have status : t.port p = s.port p := by
      cases p with
      | A => exact portA
      | B => exact portB
    have free : portReady t p = portReady s p := by
      unfold portReady
      rw [status]
    exact waits.trans (settled.quiet p (free.symm.trans ready))

/-- A station that changed is none of what the end of a command looks at. -/
theorem OnlyStation.settle (h : OnlyStation i s t) (settled : s.Settled) : ∃ p, settle t = { t with ports := p } :=
  settled.settle_same (by rw [h.frame]) (by rw [h.frame]) (by rw [h.frame]) (by rw [h.frame])

end Sys2Proof.Machine
end


section
/-!
PROOFS. The checks that both table copies pass and the range of the close delay (R20, R38, R62, R91, R165): a relation between two
states that says both carry over, and what an operation does to the tables, the configuration and D.
-/

namespace Sys2Proof.Machine

variable {s t u : State}

/-! ## The relation -/

/-- Each of the two invariants that holds of the first state holds of the second, each on its own. -/
structure KeepsChecks (s t : State) : Prop where
  tables : s.TablesConsistent → t.TablesConsistent
  closeDelay : s.CloseDelayInRange → t.CloseDelayInRange

/-- What the two invariants look at. -/
def State.checkedFields (s : State) := (s.tables.active, s.tables.shadow, s.config.closeDelay, s.assembler.closeDelay)

theorem KeepsChecks.refl (s : State) : KeepsChecks s s := ⟨id, id⟩

theorem KeepsChecks.trans (h : KeepsChecks s t) (k : KeepsChecks t u) : KeepsChecks s u :=
  ⟨k.tables ∘ h.tables, k.closeDelay ∘ h.closeDelay⟩

/-- A change outside the checked fields keeps the invariants. -/
theorem KeepsChecks.congr (h : KeepsChecks s t) (same : u.checkedFields = t.checkedFields) : KeepsChecks s u := by
  simp only [State.checkedFields, Prod.mk.injEq] at same
  obtain ⟨active, shadow, configured, effective⟩ := same
  refine h.trans ⟨?_, ?_⟩
  · rw [State.TablesConsistent, State.TablesConsistent, active, shadow]
    exact id
  · rw [State.CloseDelayInRange, State.CloseDelayInRange, configured, effective]
    exact id

/-- What leaves the tables, the configuration and D keeps the invariants. -/
theorem KeepsChecks.after_leaves (h : KeepsChecks s t) {c : List Aspect} (leaves : Leaves c t u)
    (kept : .tables ∉ c := by simp) : KeepsChecks s u :=
  h.congr (by rw [State.checkedFields, leaves.tables kept, leaves.config, leaves.closeDelay]; rfl)

/-- A change of one station's reception keeps the invariants. -/
theorem KeepsChecks.after_onlyStation (h : KeepsChecks s t) {i : Fin 16} (only : OnlyStation i t u) : KeepsChecks s u :=
  h.congr (by rw [only.frame]; rfl)

theorem KeepsChecks.after_foldl {α : Type} (h : KeepsChecks s t) {l : List α} {f : State → α → State}
    (keeps : ∀ u a, KeepsChecks s u → KeepsChecks s (f u a)) : KeepsChecks s (l.foldl f t) :=
  List.foldlRecOn l f h fun u hu a _ => keeps u a hu

theorem KeepsChecks.after_raise (h : KeepsChecks s t) {f : EventFlag} : KeepsChecks s (raise f t) :=
  h.after_leaves (Leaves.refl [.recordTime] t).after_raise

theorem KeepsChecks.after_modPort (h : KeepsChecks s t) {p : Port} {f : PortStatus → PortStatus} :
    KeepsChecks s (modPort p f t) := h.congr (by simp [State.checkedFields])

theorem KeepsChecks.after_modStream (h : KeepsChecks s t) {st : Stream} {f : StreamState → StreamState} :
    KeepsChecks s (modStream st f t) := h.congr (by simp [State.checkedFields])

theorem KeepsChecks.after_recomputeLamps (h : KeepsChecks s t) : KeepsChecks s (recomputeLamps t) :=
  h.after_leaves (Leaves.refl [] t).after_recomputeLamps

theorem KeepsChecks.after_settle (h : KeepsChecks s t) : KeepsChecks s (settle t) :=
  h.after_leaves (Leaves.refl [] t).after_settle

theorem KeepsChecks.after_endsTest (h : KeepsChecks s t) (ends : EndsTest t u) : KeepsChecks s u :=
  h.congr (by rw [ends.frame]; rfl)

/-! ## Tables as written (R20, R62, R70, R72) -/

theorem consistent_iff (x : Tables) : x.consistent = true ↔ x.addressesDistinct = true ∧ x.channelsFit = true ∧
    x.channelsDistinct = true ∧ x.groupsTogether = true := by
  simp only [Tables.consistent, Bool.and_eq_true, and_assoc]

/-- Station Table entries that pass their checks leave what the Track Map alone decides (R20). -/
theorem stationWrite_consistent {x y : Tables} {first count : Nat} {p : List Byte} (held : x.consistent = true)
    (written : stationWrite x first count p = .ok y) : y.consistent = true := by
  obtain ⟨-, -, channels, groups⟩ := (consistent_iff x).mp held
  unfold stationWrite at written
  split at written
  · cases written
  · dsimp only at written
    split at written
    · next checks =>
      cases written
      obtain ⟨addresses, fit⟩ := Bool.and_eq_true_iff.mp checks
      exact (consistent_iff _).mpr ⟨addresses, fit, channels, groups⟩
    · cases written

/-- Track Map entries that pass their checks leave what the Station Table alone decides (R62). -/
theorem trackWrite_consistent {x y : Tables} {first count : Nat} {p : List Byte} (held : x.consistent = true)
    (written : trackWrite x first count p = .ok y) : y.consistent = true := by
  obtain ⟨addresses, -, -, -⟩ := (consistent_iff x).mp held
  unfold trackWrite at written
  split at written
  · cases written
  · dsimp only at written
    split at written
    · next checks =>
      obtain ⟨channels, fit⟩ := Bool.and_eq_true_iff.mp checks
      split at written
      · next groups =>
        cases written
        exact (consistent_iff _).mpr ⟨addresses, fit, channels, groups⟩
      · cases written
    · cases written

/-- The Disposition Table is none of what R20 and R62 check. -/
theorem writeRow_consistent (x : Tables) (k : Nat) (r : DispositionRow) : (x.writeRow k r).consistent = x.consistent := by
  unfold Tables.writeRow
  split
  · split <;> rfl
  · rfl

theorem dispositionWrite_consistent {x y : Tables} {first count : Nat} {p : List Byte} (held : x.consistent = true)
    (written : dispositionWrite x first count p = .ok y) : y.consistent = true := by
  unfold dispositionWrite at written
  split at written
  · cases written
  · next rows _ =>
    cases written
    exact List.foldlRecOn (motive := fun z : Tables => z.consistent = true) rows _ held fun z hz kr _ =>
      (writeRow_consistent z kr.1 kr.2).trans hz

/-! ## Tables applied (R73) -/

/-- Tables that became active are the shadow copy in both copies, or nothing was applied. -/
theorem KeepsChecks.of_applied (same : t.unapplied = s.unapplied)
    (applied : t.tables = s.tables ∨ t.tables = s.tables.applied) : KeepsChecks s t := by
  simp only [State.unapplied, Prod.mk.injEq] at same
  obtain ⟨config, -, -, -, assembler, -⟩ := same
  refine ⟨fun ⟨active, shadow⟩ => ?_, ?_⟩
  · rcases applied with kept | applied
    · rw [State.TablesConsistent, kept]
      exact ⟨active, shadow⟩
    · rw [State.TablesConsistent, applied]
      exact ⟨shadow, shadow⟩
  · rw [State.CloseDelayInRange, State.CloseDelayInRange, config, assembler]
    exact id

theorem applyStaged_keepsChecks (s : State) : KeepsChecks s (applyStaged s) := by
  refine .of_applied (applyStaged_unapplied s) ?_
  by_cases staged : s.tables.staged = true
  · exact .inr (applyStaged_tables staged).1
  · rw [applyStaged_unstaged (Bool.eq_false_iff.mpr staged)]
    exact .inl rfl

/-- Written tables carried out in IDLE stand in both copies, and otherwise in the shadow copy (R72). -/
theorem commitTables_keepsChecks (w : Vector Bool 16) {new : Tables} (s : State)
    (checked : s.TablesConsistent → new.consistent = true) : KeepsChecks s (commitTables w new s) := by
  unfold commitTables
  split
  · have entries := (Leaves.refl [.stations] { s with tables :=
      { active := new, shadow := new, staged := false, written := Vector.replicate 16 false,
        mapGeneration := s.tables.mapGeneration + 1 } }).after_applyEntries
      (w := w) (before := s.tables.active) (after := new) (by simp)
    have moved : Leaves [.stations] _ (activate w new s) := Leaves.after_recomputeLamps entries.after_groups
    refine KeepsChecks.after_leaves (t := { s with tables :=
      { active := new, shadow := new, staged := false, written := Vector.replicate 16 false,
        mapGeneration := s.tables.mapGeneration + 1 } }) ⟨fun held => ?_, id⟩ moved
    exact ⟨checked held, checked held⟩
  · exact ⟨fun held => ⟨held.1, checked held⟩, id⟩

/-- The copy that a write goes to is a checked one. -/
theorem writeCopy_consistent (held : s.TablesConsistent) : (writeCopy s).consistent = true := by
  unfold writeCopy
  split
  · exact held.1
  · exact held.2

theorem answerStaged_keepsChecks (w : Vector Bool 16) {x : TableWrite} (s : State)
    (checked : ∀ y, x = .ok y → s.TablesConsistent → y.consistent = true) :
    KeepsChecks s (answerStaged w x s).state := by
  cases x with
  | error r => exact .refl s
  | ok y => exact commitTables_keepsChecks w s (checked y rfl)

/-! ## Boundaries (R3, R92, R131) -/

/-- The close points of a boundary apply the staged tables once, or never (R73). -/
theorem closeAtBoundary_applied (j : BlockNo) (s : State) :
    (closeAtBoundary j s).tables = s.tables ∨ (closeAtBoundary j s).tables = s.tables.applied := by
  by_cases staged : s.tables.staged = true
  · unfold closeAtBoundary
    split
    · exact .inl rfl
    · next k next =>
      cases closesDue s j with
      | zero => exact .inl rfl
      | succ n => exact .inr (closePoints_tables n k next staged).1
  · exact .inl (closeAtBoundary_unstaged j (Bool.eq_false_iff.mpr staged))

theorem closeAtBoundary_keepsChecks (j : BlockNo) (s : State) : KeepsChecks s (closeAtBoundary j s) := by
  have leaves := closeAtBoundary_leaves j s
  refine ⟨fun held => ?_, ?_⟩
  · rcases closeAtBoundary_applied j s with kept | applied
    · rwa [State.TablesConsistent, kept]
    · rw [State.TablesConsistent, applied]
      exact ⟨held.2, held.2⟩
  · rw [State.CloseDelayInRange, State.CloseDelayInRange, leaves.config, leaves.closeDelay]
    exact id

theorem KeepsChecks.after_takeBoundary (h : KeepsChecks s t) {k : BoundaryKind} {m : MarkNo} {time : Tick} :
    KeepsChecks s (takeBoundary k m time t) := by
  have stepped : KeepsChecks s { t with timebase := t.timebase.step k m time } := h.congr rfl
  exact (stepped.after_leaves (beforeCloses_leaves k _ _)).trans (closeAtBoundary_keepsChecks _ _)

theorem KeepsChecks.after_timebase (h : KeepsChecks s t) {x : Timebase} : KeepsChecks s { t with timebase := x } := h.congr rfl

theorem KeepsChecks.after_jump (h : KeepsChecks s t) {m : MarkNo} {time : Tick} : KeepsChecks s (jump m time t) := by
  have cleared : KeepsChecks s (clearHistory (jumpStations t)) := (h.after_leaves (jumpStations_leaves t)).after_timebase
  have bounded : KeepsChecks s (jumpBoundary m time (clearHistory (jumpStations t))) := by
    unfold jumpBoundary
    split
    · exact cleared.after_timebase.after_takeBoundary
    · unfold earlyJump
      split
      · exact cleared
      · exact cleared.after_timebase
  unfold jump
  generalize jumpBoundary m time (clearHistory (jumpStations t)) = u at bounded
  exact bounded.after_timebase.after_raise

theorem KeepsChecks.after_takeMark (h : KeepsChecks s t) {m : MarkNo} {time : Tick} : KeepsChecks s (takeMark m time t) := by
  unfold takeMark
  split
  · unfold markInSearch
    split
    · split
      · exact h.after_timebase
      · exact h.after_timebase.after_takeBoundary.after_raise
    · exact h.after_timebase
  · unfold markInLocked
    split
    · split
      · exact h.after_timebase.after_takeBoundary
      · exact h.after_timebase
    · exact h.after_jump
  · unfold markInHoldover
    split
    · split
      · exact h.after_timebase
      · split
        · unfold relock
          dsimp only
          split
          · exact h.after_timebase.after_takeBoundary.after_raise
          · exact h.after_timebase.after_takeBoundary
        · exact h
    · split
      · exact h
      · exact h.after_jump

theorem KeepsChecks.after_expireGuard (h : KeepsChecks s t) : KeepsChecks s (expireGuard t) := by
  unfold expireGuard
  split
  · exact h.after_timebase.after_takeBoundary.after_raise
  · exact h

theorem KeepsChecks.after_expireSynthesis (h : KeepsChecks s t) : KeepsChecks s (expireSynthesis t) := by
  unfold expireSynthesis
  split
  · exact h.after_timebase.after_takeBoundary
  · exact h

/-! ## Proceedings and records (R124, R133 to R137) -/

theorem KeepsChecks.after_returnToIdle (h : KeepsChecks s t) : KeepsChecks s (returnToIdle t) := by
  have left : KeepsChecks t (leaveProceeding t) :=
    (KeepsChecks.refl t).after_leaves (Leaves.after_setProceedingState (c := [.proceeding])
      (Leaves.refl _ t).after_output (by simp))
  exact h.trans ((left.trans (applyStaged_keepsChecks _)).congr rfl)

theorem KeepsChecks.after_completeStream (h : KeepsChecks s t) {st : Stream} {o : CloseOutcome} :
    KeepsChecks s (completeStream st o t) := by
  unfold completeStream examineCompleted
  split
  · exact h.after_modStream.after_returnToIdle
  · exact h.after_modStream

theorem KeepsChecks.after_failClose (h : KeepsChecks s t) {st : Stream} {o : CloseOutcome} {r : CloseFigures} :
    KeepsChecks s (failClose st o r t) := by
  have logged : KeepsChecks s (logClose st r (raise .closeFailed t)) := h.after_raise.congr rfl
  exact logged.after_completeStream

theorem KeepsChecks.after_takeAck (h : KeepsChecks s t) {st : Stream} {r : CloseFigures} : KeepsChecks s (takeAck st r t) := by
  unfold takeAck
  split
  · exact h.after_completeStream
  · exact h.after_failClose

theorem KeepsChecks.after_completeRecord (h : KeepsChecks s t) {st : Stream} : KeepsChecks s (completeRecord st t) := by
  have freed : KeepsChecks s (modStream st (fun x => { x with fifo := x.fifo.drop 1 }.followStall)
      { t with output := { t.output with sending := none } }) := by
    have idle : KeepsChecks s { t with output := { t.output with sending := none } } := h.congr rfl
    exact idle.after_modStream
  unfold completeRecord
  dsimp only
  split
  · split
    · unfold closeSent
      dsimp only
      split
      · exact freed.after_modStream.after_modStream
      · exact freed.after_modStream.after_completeStream
    · exact freed.after_leaves ((Leaves.refl [.proceeding] _).after_storeLateRuns.after_examineDrained (.inl (by simp)))
  · exact freed

/-! ## Resets, STANDBY and wake (R91, R138 to R142) -/

/-- Right after a hard reset the tables are those of R19 and R61 and both close delays are 2. -/
theorem hardReset_keepsChecks (c : ResetCause) (s : State) : KeepsChecks s (hardReset c s) :=
  ⟨fun _ => ⟨reset_consistent, reset_consistent⟩, fun _ =>
    ⟨(by decide : 1 ≤ 2), (by decide : 2 ≤ 8), (by decide : 1 ≤ 2), (by decide : 2 ≤ 8)⟩⟩

theorem KeepsChecks.after_startNotice (h : KeepsChecks s t) : KeepsChecks s (startNotice t) := by
  unfold startNotice
  split
  · exact h
  · obtain ⟨q, built⟩ := buildNotice_spec t
    rw [built]
    exact h.congr rfl

/-- D is loaded from the configured close delay (R91). -/
theorem KeepsChecks.after_fullReset (h : KeepsChecks s t) : KeepsChecks s (fullReset t) := by
  unfold fullReset
  refine h.trans (KeepsChecks.after_startNotice ⟨(hardReset_keepsChecks .softFull t).tables, fun delays => ?_⟩)
  obtain ⟨low, high, -, -⟩ := delays
  exact ⟨low, high, low, high⟩

/-- The active tables stand and staged writes are discarded (R74, R91). -/
theorem KeepsChecks.after_runtimeReset (h : KeepsChecks s t) : KeepsChecks s (runtimeReset t) := by
  unfold runtimeReset
  refine h.trans (KeepsChecks.after_startNotice ⟨fun held => ⟨held.1, held.1⟩, fun delays => ?_⟩)
  obtain ⟨low, high, -, -⟩ := delays
  exact ⟨low, high, low, high⟩

theorem KeepsChecks.after_wake (h : KeepsChecks s t) {c : WakeCause} : KeepsChecks s (wake c t) :=
  h.congr (by rw [(wake_woken c t).2]; rfl)

theorem KeepsChecks.after_wakeByFrame (h : KeepsChecks s t) {f : Frame} : KeepsChecks s (wakeByFrame f t) := by
  unfold wakeByFrame
  split
  · exact h
  · exact h.after_wake

theorem KeepsChecks.after_enterStandby (h : KeepsChecks s t) : KeepsChecks s (enterStandby t) := by
  have parked : KeepsChecks s (parkFields t) := h.congr rfl
  unfold enterStandby
  dsimp only
  split
  · exact parked
  · exact parked.after_wake

theorem KeepsChecks.after_completeTransmission (h : KeepsChecks s t) {p : Port} :
    KeepsChecks s (completeTransmission p t) := by
  have ended {o : TxOrigin} {u : State} (hu : KeepsChecks s u) : KeepsChecks s (afterTransmission p o u) := by
    cases o with
    | control | monitor | forwardedAlone | notice => exact hu
    | forwarded => cases p <;> exact hu.congr rfl
    | reply a =>
      have free : KeepsChecks s (replyTransmitted u) := hu.congr rfl
      cases a with
      | nothing => exact free
      | resetFull => exact free.after_fullReset
      | resetRuntime => exact free.after_runtimeReset
      | enterStandby => exact free.after_enterStandby
    | record =>
      change KeepsChecks s (recordFrameSent u)
      unfold recordFrameSent
      split
      · split
        · exact hu.after_completeRecord
        · exact hu.congr rfl
      · exact hu
  unfold completeTransmission
  split
  · exact ended h.after_modPort
  · exact h

/-! ## Station audio (R25 to R38) -/

/-- At the LATE threshold D rises to at most 8 (R38). -/
theorem lateEffect_keepsChecks (i : Fin 16) (s : State) : KeepsChecks s (lateEffect i s) := by
  have emptied : KeepsChecks s (modStation i (fun st => { st with lateCount := 0 }) (raise .stationThreshold s)) :=
    (KeepsChecks.refl s).after_onlyStation (OnlyStation.refl i s).after_raise.after_modStation
  refine emptied.trans ⟨id, fun ⟨low, high, one, eight⟩ => ⟨low, high, ?_, ?_⟩⟩
  · change 1 ≤ satInc 8 _
    unfold satInc
    split <;> omega
  · change satInc 8 _ ≤ 8
    unfold satInc
    split <;> omega

theorem KeepsChecks.after_countLate (h : KeepsChecks s t) {i : Fin 16} : KeepsChecks s (countLate i t) := by
  have counted {f : Station → Station} : KeepsChecks s (modStation i f t) :=
    h.after_onlyStation (OnlyStation.refl i t).after_modStation
  unfold countLate
  dsimp only
  split
  · exact counted.trans (lateEffect_keepsChecks i _)
  · exact counted

theorem KeepsChecks.after_applyMode (h : KeepsChecks s t) {b : Bool} {p : ModePair} : KeepsChecks s (applyMode b p t) := by
  obtain ⟨x, q, m, l, e, frame⟩ := applyMode_frame b p t
  exact h.congr (by rw [frame]; rfl)

theorem KeepsChecks.after_applyModeEvent (h : KeepsChecks s t) {e : ModeEvent} : KeepsChecks s (applyModeEvent e t) := by
  cases e <;> exact h.after_applyMode

theorem KeepsChecks.after_takeToggle (h : KeepsChecks s t) {i : Fin 16} {n : Nat} {down : Bool} {c : Counter} :
    KeepsChecks s (takeToggle i n down c t) := by
  have grouped {g : Fin 8} {f : ConferGroup → ConferGroup} {u : State} (hu : KeepsChecks s u) :
      KeepsChecks s (modGroup g f u) := hu.congr rfl
  unfold takeToggle
  split
  · unfold takeToggleOf
    split
    · exact h
    · split
      · exact (grouped h).after_recomputeLamps
      · unfold recordToggle
        split
        · exact grouped (grouped h).after_recomputeLamps
        · split
          · exact grouped (grouped h).after_recomputeLamps
          · exact (grouped (grouped h).after_recomputeLamps).after_raise
  · exact h

theorem KeepsChecks.after_takeValidEvent (h : KeepsChecks s t) {i : Fin 16} {e : ButtonEvent} {m : EventMeaning} :
    KeepsChecks s (takeValidEvent i e m t) := by
  have noted : KeepsChecks s (modStation i (fun x => { x with newestSerial := some e.serial }) t) :=
    h.after_onlyStation (OnlyStation.refl i t).after_modStation
  unfold takeValidEvent
  split
  · exact h
  · dsimp only
    split
    · cases m with
      | confer down => exact noted.after_takeToggle
      | mode x =>
        unfold routeAwake
        dsimp only
        split
        · exact noted.after_applyModeEvent
        · exact noted
    · cases m with
      | confer down => exact noted
      | mode x =>
        unfold routeStandby
        dsimp only
        split
        · exact noted.after_wake.after_applyModeEvent
        · exact noted

theorem KeepsChecks.after_countFormat (h : KeepsChecks s t) {i : Fin 16} {f : Frame} : KeepsChecks s (countFormat i f t) :=
  h.after_onlyStation (OnlyStation.refl i t).after_countFormat

theorem KeepsChecks.after_takeEvents (h : KeepsChecks s t) {i : Fin 16} {f : Frame} : KeepsChecks s (takeEvents i f t) := by
  refine h.after_foldl fun u e hu => ?_
  unfold takeEvent
  split
  · split
    · exact hu.after_takeValidEvent
    · exact hu.after_countFormat
  · exact hu.after_countFormat

theorem KeepsChecks.after_reportAndEvents (h : KeepsChecks s t) {i : Fin 16} {f : Frame} :
    KeepsChecks s (reportAndEvents i f t) :=
  (h.after_onlyStation (OnlyStation.refl i t).after_takeReport).after_takeEvents

theorem KeepsChecks.after_takeChecked (h : KeepsChecks s t) {i : Fin 16} {f : Frame} :
    KeepsChecks s (takeChecked i f t) := by
  unfold takeChecked
  split
  · refine KeepsChecks.after_takeEvents ?_
    unfold checkPattern
    split
    · exact h.congr rfl
    · exact h
    · exact h
  · unfold placeFrame
    split
    · exact h.after_reportAndEvents
    · exact h.after_countLate.after_reportAndEvents
    · exact h.after_countFormat
    · exact (h.after_onlyStation (OnlyStation.refl i t).after_modStation).after_reportAndEvents

theorem KeepsChecks.after_receiveAudio (h : KeepsChecks s t) {f : Frame} : KeepsChecks s (receiveAudio f t) := by
  unfold receiveAudio
  split
  · next i _ =>
    have accepted : KeepsChecks s (acceptFrame i t) := h.after_onlyStation (OnlyStation.refl i t).after_acceptFrame
    unfold receiveFrom
    split
    · dsimp only
      split
      · exact accepted.after_takeChecked
      · exact accepted.after_countFormat
    · split
      · exact h.after_takeEvents
      · exact h.after_countFormat
  · obtain ⟨x, y, d, e, forwarded⟩ := forwardFrom_spec .A f (logFault faultUnknownStation
      { subject := f.src, block := t.timebase.blockNumber, detail := frameStart f } (raise .unknownStation t))
    unfold unknownStation
    rw [forwarded]
    exact h.after_raise.congr rfl

/-! ## Requests (R168 to R181) -/

theorem takeRequest_keepsChecks (f : Frame) (t : State) : KeepsChecks t (takeRequest f t) := by
  have same := KeepsChecks.refl t
  unfold takeRequest
  split
  · unfold offerRequest
    split
    · exact same.congr rfl
    · unfold refuseBusy
      dsimp only
      split <;> exact same.congr rfl
  · exact same.congr rfl

/-- What a handler of requests keeps: the invariants, from the state it is given to the state it answers. -/
def HandlerKeepsChecks (handler : List Byte → State → Answer) : Prop :=
  ∀ (p : List Byte) (t : State), KeepsChecks t (handler p t).state

theorem serve_keepsChecks (k : RequestKind) {handler : List Byte → State → Answer} (keeps : HandlerKeepsChecks handler)
    (s : State) : KeepsChecks s (serve k handler s) := by
  unfold serve
  split
  · exact .refl s
  · next r rest _ =>
    split
    · have taken : KeepsChecks s { s with management := { s.management with requests := rest } } :=
        (KeepsChecks.refl s).congr rfl
      have handled := taken.trans (keeps (payloadOf r.body) _)
      dsimp only
      generalize handler (payloadOf r.body) _ = a at handled
      have replied : KeepsChecks s (queueReply a.after (replyFrame a.state r a.result a.data) a.state) := handled.congr rfl
      exact replied.after_settle
    · exact .refl s

theorem answerRead_keepsChecks : HandlerKeepsChecks answerRead := by
  intro p t
  unfold answerRead
  split
  · exact .refl t
  · split
    · exact .refl t
    · split
      · exact .refl t
      · split <;> exact .refl t

theorem answerReadStatus_keepsChecks : HandlerKeepsChecks answerReadStatus := by
  intro p t
  unfold answerReadStatus
  split
  · exact .refl t
  · exact (KeepsChecks.refl t).congr rfl

theorem answerWriteRefused_keepsChecks : HandlerKeepsChecks answerWriteRefused := by
  intro p t
  unfold answerWriteRefused
  split <;> exact .refl t

theorem answerWriteStation_keepsChecks : HandlerKeepsChecks answerWriteStation := by
  intro p t
  unfold answerWriteStation
  split
  · exact .refl t
  · exact answerStaged_keepsChecks _ t fun _ written held => stationWrite_consistent (writeCopy_consistent held) written

theorem answerWriteTrackMap_keepsChecks : HandlerKeepsChecks answerWriteTrackMap := by
  intro p t
  unfold answerWriteTrackMap
  split
  · exact .refl t
  · exact answerStaged_keepsChecks _ t fun _ written held => trackWrite_consistent (writeCopy_consistent held) written

theorem answerWriteDisposition_keepsChecks : HandlerKeepsChecks answerWriteDisposition := by
  intro p t
  unfold answerWriteDisposition
  split
  · exact .refl t
  · exact answerStaged_keepsChecks _ t fun _ written held =>
      dispositionWrite_consistent (writeCopy_consistent held) written

theorem answerWriteOverride_keepsChecks : HandlerKeepsChecks answerWriteOverride := by
  intro p t
  unfold answerWriteOverride
  split
  · exact .refl t
  · split
    · exact .refl t
    · exact KeepsChecks.after_recomputeLamps ((KeepsChecks.refl t).congr rfl)

theorem answerWriteStream_keepsChecks : HandlerKeepsChecks answerWriteStream := by
  intro p t
  unfold answerWriteStream
  split
  · exact .refl t
  · split
    · exact .refl t
    · split
      · exact .refl t
      · refine (KeepsChecks.refl t).after_foldl fun u x hu => ?_
        unfold storeStreamEntry
        split
        · exact hu.after_modStream
        · exact hu

/-- A Device Configuration that is read has its close delay limited to 1 to 8 (R165). -/
theorem readDeviceConfig_closeDelay {c d : DeviceConfig} {bs : List Byte} (read : readDeviceConfig c bs = some d) :
    1 ≤ d.closeDelay ∧ d.closeDelay ≤ 8 := by
  unfold readDeviceConfig at read
  split at read
  · cases read
  · split at read
    · cases read
    · cases read
      dsimp only
      omega

/-- An accepted write loads the configured close delay into D (R91). -/
theorem writeConfig_keepsChecks {c : DeviceConfig} (low : 1 ≤ c.closeDelay) (high : c.closeDelay ≤ 8) (s : State) :
    KeepsChecks s (writeConfig c s) := by
  have loaded : KeepsChecks s { s with config := c, assembler := { s.assembler with closeDelay := c.closeDelay } } :=
    ⟨id, fun _ => ⟨low, high, low, high⟩⟩
  unfold writeConfig
  dsimp only
  split
  · exact loaded.congr rfl
  · exact loaded

theorem answerWriteConfig_keepsChecks : HandlerKeepsChecks answerWriteConfig := by
  intro p t
  unfold answerWriteConfig
  split
  · exact .refl t
  · split
    · exact .refl t
    · next c read =>
      obtain ⟨low, high⟩ := readDeviceConfig_closeDelay read
      exact writeConfig_keepsChecks low high t

theorem answerSetMode_keepsChecks : HandlerKeepsChecks answerSetMode := by
  intro p t
  unfold answerSetMode
  split
  · exact (KeepsChecks.refl t).after_applyMode
  · exact .refl t

theorem answerPushMode_keepsChecks : HandlerKeepsChecks answerPushMode := by
  intro p t
  unfold answerPushMode
  split
  · exact (KeepsChecks.refl t).after_applyMode
  · exact .refl t

theorem answerPopMode_keepsChecks : HandlerKeepsChecks answerPopMode := by
  intro p t
  unfold answerPopMode
  split
  · exact (KeepsChecks.refl t).after_applyMode
  · exact .refl t

theorem answerOpen_keepsChecks : HandlerKeepsChecks answerOpen := by
  intro p t
  unfold answerOpen
  split
  · have armed : KeepsChecks t (armFields (BitVec.ofNat 64 (fieldAt p 4 8)) t) := (KeepsChecks.refl t).congr rfl
    exact armed.after_raise.after_endsTest (reexamineTest_ends _)
  · exact .refl t

theorem answerClose_keepsChecks : HandlerKeepsChecks answerClose := by
  intro p t
  unfold answerClose
  split
  · exact (KeepsChecks.refl t).after_returnToIdle
  · have marked : KeepsChecks t { t with proceeding := { t.proceeding with last := some t.timebase.blockNumber } } :=
      (KeepsChecks.refl t).congr rfl
    exact marked.after_leaves (Leaves.after_setProceedingState (Leaves.refl [.proceeding] _) (by simp))
  · exact .refl t
  · exact .refl t
  · exact .refl t

theorem answerSetTime_keepsChecks : HandlerKeepsChecks answerSetTime := by
  intro p t
  unfold answerSetTime
  split
  · exact .refl t
  · split
    · exact .refl t
    · exact (KeepsChecks.refl t).after_timebase

theorem answerStandby_keepsChecks : HandlerKeepsChecks answerStandby := by
  intro p t
  unfold answerStandby
  split
  · exact .refl t
  · split
    · exact .refl t
    · exact (KeepsChecks.refl t).congr rfl

theorem answerSoftReset_keepsChecks : HandlerKeepsChecks answerSoftReset := by
  intro p t
  unfold answerSoftReset
  split
  · exact (KeepsChecks.refl t).congr rfl
  · exact (KeepsChecks.refl t).congr rfl
  · exact .refl t

theorem answerSetController_keepsChecks : HandlerKeepsChecks answerSetController := by
  intro p t
  unfold answerSetController
  split
  · exact .refl t
  · exact (KeepsChecks.refl t).congr rfl

theorem answerStatus_keepsChecks : HandlerKeepsChecks answerStatus := fun _ t => (KeepsChecks.refl t).congr rfl

theorem answerReadFaults_keepsChecks : HandlerKeepsChecks answerReadFaults := fun _ t => .refl t

theorem answerUnknown_keepsChecks : HandlerKeepsChecks answerUnknown := fun _ t => (KeepsChecks.refl t).congr rfl

theorem answerClearFaults_keepsChecks : HandlerKeepsChecks answerClearFaults := by
  intro p t
  unfold answerClearFaults
  split
  · exact .refl t
  · exact (KeepsChecks.refl t).congr rfl

theorem answerClearCounters_keepsChecks : HandlerKeepsChecks answerClearCounters := by
  intro p t
  unfold answerClearCounters
  split
  · exact (KeepsChecks.refl t).congr rfl
  · split
    · exact (KeepsChecks.refl t).congr rfl
    · exact .refl t

theorem answerAttachTap_keepsChecks : HandlerKeepsChecks answerAttachTap := by
  intro p t
  unfold answerAttachTap
  split
  · exact (KeepsChecks.refl t).after_endsTest (attachTap_ends _ t)
  · exact .refl t

theorem answerDetach_keepsChecks : HandlerKeepsChecks answerDetach := by
  intro p t
  unfold answerDetach
  split
  · exact .refl t
  · exact (KeepsChecks.refl t).congr rfl
  · exact (KeepsChecks.refl t).after_endsTest (endTest_ends _ t)

theorem KeepsChecks.after_sendTestCommand (h : KeepsChecks s t) {a : Mac} {begins : Bool} {d : Nat} :
    KeepsChecks s (sendTestCommand a begins d t) := by
  obtain ⟨q, c, placed, -⟩ := queueTestCommand_spec (ownFrame t a kindTestCommand (testCommandPayload begins d)) t
  exact h.congr (by rw [sendTestCommand, placed]; rfl)

theorem startTest_keepsChecks (i : Fin 16) (d : Nat) (s : State) : KeepsChecks s (startTest i d s) := by
  have begun {e : Engine} : KeepsChecks s { s with engine := e } := (KeepsChecks.refl s).congr rfl
  exact begun.after_sendTestCommand.after_onlyStation (OnlyStation.refl i _).after_modStation.after_setStationState

theorem answerLineTest_keepsChecks : HandlerKeepsChecks answerLineTest := by
  intro p t
  unfold answerLineTest
  split
  · exact .refl t
  · split
    · exact .refl t
    · split
      · exact .refl t
      · exact startTest_keepsChecks _ _ t

/-! ## Every command -/

theorem KeepsChecks.after_replySent (h : KeepsChecks s t) {a : AfterReply} : KeepsChecks s (replySent a t) := by
  unfold replySent
  split
  · exact h.after_completeTransmission.after_settle
  · exact h

theorem KeepsChecks.after_changeLink (h : KeepsChecks s t) {p : Port} {up : Bool} :
    KeepsChecks s (changeLink p up t) := by
  unfold changeLink
  dsimp only
  split
  · exact h.after_modPort
  · exact h.after_modPort.after_completeTransmission

theorem KeepsChecks.after_forwardFrom (h : KeepsChecks s t) {p : Port} {f : Frame} : KeepsChecks s (forwardFrom p f t) := by
  obtain ⟨x, y, d, e, forwarded⟩ := forwardFrom_spec p f t
  exact h.congr (by rw [forwarded]; rfl)

theorem KeepsChecks.after_countMisdirected (h : KeepsChecks s t) {p : Port} {f : Frame} :
    KeepsChecks s (countMisdirected p f t) := by
  rw [countMisdirected_eq]
  exact h.after_modPort

theorem KeepsChecks.after_observeMark (h : KeepsChecks s t) {f : Frame} {time : Tick} :
    KeepsChecks s (observeMark f time t) := by
  unfold observeMark
  split
  · exact h.after_modPort
  · split
    · exact h.after_takeMark
    · exact h

theorem KeepsChecks.after_forwardMark (h : KeepsChecks s t) {f : Frame} : KeepsChecks s (forwardMark f t) := by
  unfold forwardMark
  split
  · exact h
  · exact h.after_forwardFrom

theorem KeepsChecks.after_takeCredit (h : KeepsChecks s t) {f : Frame} : KeepsChecks s (takeCredit f t) := by
  unfold takeCredit
  split
  · exact h.after_modPort
  · split
    · unfold creditStream
      split
      · exact h
      · split
        · unfold grantCredit
          split
          · exact h
          · exact h.after_modStream
        · exact h.after_modStream
    · exact h

theorem KeepsChecks.after_takeCloseAck (h : KeepsChecks s t) {f : Frame} : KeepsChecks s (takeCloseAck f t) := by
  unfold takeCloseAck
  split
  · exact h.after_modPort
  · split
    · split
      · exact h.after_takeAck
      · exact h
    · exact h

theorem KeepsChecks.after_endHoldoff (h : KeepsChecks s t) : KeepsChecks s (endHoldoff t) := by
  unfold endHoldoff
  dsimp only
  split
  · obtain ⟨q, built⟩ := buildNotice_spec { t with management := { t.management with holdoff := false, noticePending := false } }
    rw [built]
    exact h.congr rfl
  · exact h.congr rfl

theorem KeepsChecks.after_endDueTest (h : KeepsChecks s t) : KeepsChecks s (endDueTest t) := by
  unfold endDueTest
  split
  · split
    · exact (h.after_endsTest (endTest_ends _ t)).after_settle
    · exact h
  · exact h
  · exact h

theorem KeepsChecks.after_reportStall (h : KeepsChecks s t) {st : Stream} :
    KeepsChecks s (takeDrainFailure st (reportStall st t)) := by
  have reported : KeepsChecks s (reportStall st t) := h.after_raise.after_modStream.congr rfl
  exact reported.after_leaves (Leaves.refl [] _).after_takeDrainFailure

theorem exec_keepsChecks (c : Instr) (s t : State) (h : exec c s = .next t) : KeepsChecks s t := by
  have same := KeepsChecks.refl s
  have guarded {p : Bool} {u : State} (hu : KeepsChecks s u) : KeepsChecks s (if p then u else s) := by
    split
    · exact hu
    · exact same
  cases c with
  | powerOn => cases h; exact hardReset_keepsChecks _ s
  | supplyDip => cases h; exact hardReset_keepsChecks _ s
  | softResetFull => cases h; exact same.after_replySent
  | softResetRuntime => cases h; exact same.after_replySent
  | linkStateChange p up => cases h; exact same.after_changeLink.after_settle
  | receiveError p w b f => cases h; exact guarded same.after_modPort
  | loopedCopy p f => cases h; exact guarded same.after_modPort
  | passThrough p f => cases h; exact guarded same.after_forwardFrom.after_settle
  | misdirected p f => cases h; exact guarded same.after_wakeByFrame.after_countMisdirected.after_settle
  | cadenceMark f time => cases h; exact guarded same.after_observeMark.after_forwardMark.after_settle
  | guardExpiry => cases h; exact same.after_expireGuard.after_settle
  | synthesisTimerExpiry => cases h; exact same.after_expireSynthesis.after_settle
  | silenceCountLimit i =>
    cases h
    exact guarded (same.after_leaves ((Leaves.refl [.stations] s).after_enterIdleState (by simp))).after_settle
  | tallyRefresh =>
    cases h
    have refreshed : KeepsChecks s (sendRefresh s) := same.congr (by rw [sendRefresh_eq]; rfl)
    exact guarded refreshed.after_settle
  | recorderStalled st => cases h; exact guarded same.after_reportStall.after_settle
  | closeUnconfirmed st => cases h; exact guarded same.after_failClose.after_settle
  | lineTestEnd => cases h; exact same.after_endDueTest
  | noticeHoldoffExpiry => cases h; exact guarded same.after_endHoldoff.after_settle
  | stationAudio f => cases h; exact guarded same.after_receiveAudio.after_settle
  | credit f => cases h; exact guarded same.after_wakeByFrame.after_takeCredit.after_settle
  | closeAck f => cases h; exact guarded same.after_wakeByFrame.after_takeCloseAck.after_settle
  | frameTransmitted p => cases h; exact same.after_completeTransmission.after_settle
  | standbyEntry => cases h; exact same.after_replySent
  | request f => cases h; exact guarded (same.after_wakeByFrame.trans (takeRequest_keepsChecks f _)).after_settle
  | unknownRequest => cases h; exact serve_keepsChecks _ answerUnknown_keepsChecks s
  | readEntries => cases h; exact serve_keepsChecks _ answerRead_keepsChecks s
  | readStationStatus => cases h; exact serve_keepsChecks _ answerReadStatus_keepsChecks s
  | writeEntries => cases h; exact serve_keepsChecks _ answerWriteRefused_keepsChecks s
  | writeStation => cases h; exact serve_keepsChecks _ answerWriteStation_keepsChecks s
  | writeTrackMap => cases h; exact serve_keepsChecks _ answerWriteTrackMap_keepsChecks s
  | writeDisposition => cases h; exact serve_keepsChecks _ answerWriteDisposition_keepsChecks s
  | writeTallyOverride => cases h; exact serve_keepsChecks _ answerWriteOverride_keepsChecks s
  | writeStream => cases h; exact serve_keepsChecks _ answerWriteStream_keepsChecks s
  | writeDeviceConfig => cases h; exact serve_keepsChecks _ answerWriteConfig_keepsChecks s
  | setMode => cases h; exact serve_keepsChecks _ answerSetMode_keepsChecks s
  | pushMode => cases h; exact serve_keepsChecks _ answerPushMode_keepsChecks s
  | popMode => cases h; exact serve_keepsChecks _ answerPopMode_keepsChecks s
  | openProceeding => cases h; exact serve_keepsChecks _ answerOpen_keepsChecks s
  | closeProceeding => cases h; exact serve_keepsChecks _ answerClose_keepsChecks s
  | queryStatus => cases h; exact serve_keepsChecks _ answerStatus_keepsChecks s
  | readFaults => cases h; exact serve_keepsChecks _ answerReadFaults_keepsChecks s
  | clearFaults => cases h; exact serve_keepsChecks _ answerClearFaults_keepsChecks s
  | clearCounters => cases h; exact serve_keepsChecks _ answerClearCounters_keepsChecks s
  | attachTap => cases h; exact serve_keepsChecks _ answerAttachTap_keepsChecks s
  | detach => cases h; exact serve_keepsChecks _ answerDetach_keepsChecks s
  | lineTest => cases h; exact serve_keepsChecks _ answerLineTest_keepsChecks s
  | setRecordTime => cases h; exact serve_keepsChecks _ answerSetTime_keepsChecks s
  | standby => cases h; exact serve_keepsChecks _ answerStandby_keepsChecks s
  | softReset => cases h; exact serve_keepsChecks _ answerSoftReset_keepsChecks s
  | setController => cases h; exact serve_keepsChecks _ answerSetController_keepsChecks s

/-- Every step keeps each of the two invariants: a command, or the lapse of a period on an empty queue. -/
theorem step_keepsChecks (s t : State) (h : step s = .next t) : KeepsChecks s t := by
  unfold step at h
  split at h
  · cases h
    unfold idleTick
    split
    · exact .refl s
    · have counted : KeepsChecks s (countRefresh s) := (KeepsChecks.refl s).congr rfl
      exact counted.congr (by rw [countTest_frame]; rfl)
  · next c rest _ =>
    have dispatched : KeepsChecks s { s with pending := rest } := (KeepsChecks.refl s).congr rfl
    exact dispatched.trans (exec_keepsChecks c _ t h)

/-- Settles O4: each operation of the model extends the relation `KeepsChecks`; the tables change only by a checked write, by the
application of the checked shadow copy, and by a reset. -/
theorem tablesStayConsistent : Obligations.TablesStayConsistent := by
  unfold Obligations.TablesStayConsistent
  exact fun s t held h => (step_keepsChecks s t h).tables held

/-- Settles O6: D and the configured close delay change only by a limited write, by the LATE threshold below 8, and by a reset that
loads one from the other. -/
theorem closeDelayStaysInRange : Obligations.CloseDelayStaysInRange := by
  unfold Obligations.CloseDelayStaysInRange
  exact fun s t held h => (step_keepsChecks s t h).closeDelay held

end Sys2Proof.Machine
end


section
/-!
PROOFS. The Boundary Tracker of one station (R46 to R57): what each of its operations leaves in the station, each said once, and from
them what a resolution, an acquisition and a close point come to.
-/

namespace Sys2Proof.Machine

variable {s : State}

/-! ## Station states (R22, R23, R54) -/

/-- A change of station state moves the state alone. -/
@[simp] theorem setStationState_station (i : Fin 16) (x : StationState) (s : State) :
    (setStationState i x s).stations[i] = { s.stations[i] with state := x } := by
  by_cases same : s.stations[i].state = x
  · have stays : setStationState i x s = s := if_pos same
    rw [stays]
    subst x
    rfl
  · have moves : setStationState i x s = raise .stationState (modStation i (fun st => { st with state := x }) s) := if_neg same
    rw [moves, raise_stations]
    exact modStation_station_self s i _

/-- A station that moves raises STATION_STATE. -/
theorem setStationState_flagSet {i : Fin 16} {x : StationState} (moves : s.stations[i].state ≠ x) :
    flagSet (setStationState i x s) .stationState = true := by
  unfold setStationState
  rw [if_neg moves]
  exact raise_sets _ _

@[simp] theorem modTracker_station_self (i : Fin 16) (f : Tracker → Tracker) (s : State) :
    (modTracker i f s).stations[i] = { s.stations[i] with tracker := f s.stations[i].tracker } :=
  modStation_station_self s i _

/-- A station as it enters ACQUIRE. -/
def Station.toAcquire (x : Station) : Station :=
  { x with state := .acquire, releasePoint := none, evictedBelow := none, tracker := x.tracker.toAcquisition }

@[simp] theorem enterAcquire_station (i : Fin 16) (s : State) :
    (enterAcquire i s).stations[i] = s.stations[i].toAcquire := by
  unfold enterAcquire
  rw [setStationState_station, modStation_station_self]
  rfl

/-- In acquisition no boundary is RESOLVED. -/
theorem toAcquisition_unresolved (t : Tracker) :
    ∀ b ∈ t.toAcquisition.boundaries, ∀ c, b.status ≠ .resolved c := by
  intro b mem c
  obtain ⟨e, -, rfl⟩ := List.mem_map.mp mem
  rcases status : e.status with _ | p | _ <;> simp [status]

/-! ## Fixed-point positions (R47, R50) -/

theorem roundPosition_eq (e : BitVec 48) : roundPosition e = BitVec.ofNat 32 ((e.toNat + 32768) / 65536) := by
  unfold roundPosition
  split
  · exact congrArg (BitVec.ofNat 32) (by omega)
  · exact congrArg (BitVec.ofNat 32) (by omega)

/-- An updated rate lies in its range; the mark says whether the bound acted. -/
theorem clampRate_spec (r : Int) :
    15725440 ≤ (clampRate r).1 ∧ (clampRate r).1 ≤ 15731840 ∧
    ((clampRate r).2 = true ↔ (r < 15725440 ∨ 15731840 < r)) ∧
    ((clampRate r).2 = false → ((clampRate r).1 : Int) = r) := by
  have low : rateLow = 15725440 := rfl
  have high : rateHigh = 15731840 := rfl
  unfold clampRate
  rw [low, high]
  split
  · simp_all
  · split
    · simp_all
    · refine ⟨by omega, by omega, ?_, fun _ => by omega⟩
      simp_all

/-- The larger of peak absolute d and a new absolute d is kept. -/
theorem noteD_eq (t : Tracker) (d : Int) : t.noteD d = { t with lastD := d, peakD := max t.peakD d.natAbs } := by
  unfold Tracker.noteD
  rw [Nat.max_def]
  congr 1
  split <;> split <;> omega

/-! ## Resolution by prediction (R48) -/

/-- The tracker of a boundary resolved by prediction, before the coast count. -/
def Tracker.predicted (x : Tracker) (j : BlockNo) : Tracker :=
  { x with position := x.position + BitVec.ofNat 48 x.rate,
           boundaries := withStatus x.boundaries j (.resolved (roundPosition (x.position + BitVec.ofNat 48 x.rate))) }

/-- In HOLD and ONCE a prediction moves the tracker alone. -/
theorem resolveByPrediction_held {i : Fin 16} (j : BlockNo) (held : s.stations[i].tracker.mode ≠ .follow) :
    resolveByPrediction i j s = modTracker i (fun _ => s.stations[i].tracker.predicted j) s := by
  unfold resolveByPrediction
  dsimp only
  split
  · next follows => exact absurd follows held
  · rfl
  · rfl

/-- The station coasts over boundary j, as FOLLOW has it before the coast limit is looked at. -/
def coasted (i : Fin 16) (j : BlockNo) (s : State) : State :=
  let x := s.stations[i].tracker
  setStationState i .coast (modTracker i (fun _ => { x.predicted j with coastCount := x.coastCount + 1 }) s)

theorem resolveByPrediction_follow {i : Fin 16} (j : BlockNo) (follows : s.stations[i].tracker.mode = .follow) :
    resolveByPrediction i j s =
      if (s.entry i).coastLimit < s.stations[i].tracker.coastCount + 1 then enterAcquire i (coasted i j s)
      else coasted i j s := by
  unfold resolveByPrediction
  dsimp only
  split
  · rfl
  · next hold => exact absurd (follows.symm.trans hold) (by decide)
  · next once => exact absurd (follows.symm.trans once) (by decide)

/-- In FOLLOW within the coast limit the station coasts. -/
theorem resolveByPrediction_coasts {i : Fin 16} (j : BlockNo) (follows : s.stations[i].tracker.mode = .follow)
    (within : s.stations[i].tracker.coastCount < (s.entry i).coastLimit) :
    (resolveByPrediction i j s).stations[i] = { s.stations[i] with
      state := .coast
      tracker := { s.stations[i].tracker.predicted j with coastCount := s.stations[i].tracker.coastCount + 1 } } := by
  rw [resolveByPrediction_follow j follows, if_neg (Nat.not_lt.mpr within), coasted, setStationState_station,
    modTracker_station_self]

/-- In FOLLOW above the coast limit the station goes to ACQUIRE. -/
theorem resolveByPrediction_lost {i : Fin 16} (j : BlockNo) (follows : s.stations[i].tracker.mode = .follow)
    (beyond : (s.entry i).coastLimit ≤ s.stations[i].tracker.coastCount) :
    resolveByPrediction i j s = enterAcquire i (coasted i j s) := by
  rw [resolveByPrediction_follow j follows, if_pos (Nat.lt_succ_of_le beyond)]

theorem coasted_state (i : Fin 16) (j : BlockNo) (s : State) : (coasted i j s).stations[i].state = .coast :=
  setStationState_state i .coast _

/-! ## Resolution with a measurement (R49, R51, R52) -/

@[simp] theorem trackWith_station (i : Fin 16) (x : Tracker) (s : State) : (trackWith i x s).stations[i] =
    { s.stations[i] with state := .track, tracker := { x with coastCount := 0 } } := by
  unfold trackWith
  rw [setStationState_station, modTracker_station_self]

/-- A station that leaves COAST raises STATION_STATE. -/
theorem trackWith_flagSet {i : Fin 16} (x : Tracker) (coasts : s.stations[i].state = .coast) :
    flagSet (trackWith i x s) .stationState = true :=
  setStationState_flagSet (by rw [modTracker_station_self, coasts]; decide)

theorem takesThreshold_satInc8 (n threshold : Nat) :
    takesThreshold n (satInc8 n) threshold = true ↔ n < 255 ∧ n + 1 = threshold := by
  unfold takesThreshold satInc8 satInc
  simp only [Bool.and_eq_true, decide_eq_true_eq]
  split <;> omega

/-- One JITTER count; at the threshold an effective FOLLOW becomes HOLD and STATION_THRESHOLD rises (R36, R37). -/
theorem countJitter_station (i : Fin 16) (s : State) :
    (countJitter i s).stations[i] = { s.stations[i] with
      jitterCount := satInc8 s.stations[i].jitterCount
      tracker := { s.stations[i].tracker with
        mode := if s.stations[i].jitterCount < 255 ∧ s.stations[i].jitterCount + 1 = (s.entry i).jitterThreshold ∧
          s.stations[i].tracker.mode = .follow then .hold else s.stations[i].tracker.mode } } := by
  unfold countJitter
  dsimp only
  by_cases taken : takesThreshold s.stations[i].jitterCount (satInc8 s.stations[i].jitterCount) (s.entry i).jitterThreshold = true
  · rw [if_pos taken]
    obtain ⟨below, reached⟩ := (takesThreshold_satInc8 _ _).mp taken
    unfold jitterEffect
    rw [modTracker_station_self, raise_stations, modStation_station_self]
    by_cases follows : s.stations[i].tracker.mode = .follow
    · simp only [follows, below, reached, and_self, if_true]
    · simp only [follows, and_false, if_false]
  · rw [if_neg taken, modStation_station_self]
    rw [takesThreshold_satInc8] at taken
    rw [if_neg fun all => taken ⟨all.1, all.2.1⟩]

theorem countJitter_flagSet {i : Fin 16} (below : s.stations[i].jitterCount < 255)
    (reached : s.stations[i].jitterCount + 1 = (s.entry i).jitterThreshold) :
    flagSet (countJitter i s) .stationThreshold = true := by
  unfold countJitter
  dsimp only
  rw [if_pos ((takesThreshold_satInc8 _ _).mpr ⟨below, reached⟩)]
  exact raise_sets _ _

/-- The boundary position that the prediction of a tracker gives (R47). -/
def Tracker.predictedAt (x : Tracker) : Counter := roundPosition (x.position + BitVec.ofNat 48 x.rate)

/-- A station back in TRACK with boundary j at b and the given E and R, d noted (R49, R51 to R53). -/
def Station.trackedAt (z : Station) (j : BlockNo) (d : Int) (y : Tracker) (b : Counter) : Station :=
  { z with
    state := .track
    tracker := { y with boundaries := withStatus z.tracker.boundaries j (.resolved b), coastCount := 0, lastD := d,
                        peakD := max z.tracker.peakD d.natAbs } }

/-- A tracker re-anchored on a measurement (R51). -/
def Tracker.anchoredAt (x : Tracker) (m : Counter) : Tracker := { x with position := BitVec.ofNat 48 (m.toNat * 65536) }

section
variable {i : Fin 16} (j : BlockNo) {m : Counter}

/-- In FOLLOW within W the correction is made. -/
theorem resolveByMeasurement_near (follows : s.stations[i].tracker.mode = .follow)
    (near : (counterDiff m s.stations[i].tracker.predictedAt).natAbs ≤ (s.entry i).jitterWindow) :
    resolveByMeasurement i j m s =
      let d := counterDiff m s.stations[i].tracker.predictedAt
      let c := (s.stations[i].tracker.predict.noteD d).correct d
      trackWith i (c.setBoundary j (.resolved (roundPosition c.position))) s := by
  unfold resolveByMeasurement
  dsimp only
  split
  · exact if_pos near
  · next hold => exact absurd (follows.symm.trans hold) (by decide)
  · next once => exact absurd (follows.symm.trans once) (by decide)

/-- In FOLLOW outside W a coasting station is re-anchored. -/
theorem resolveByMeasurement_reanchors (follows : s.stations[i].tracker.mode = .follow)
    (far : ¬ (counterDiff m s.stations[i].tracker.predictedAt).natAbs ≤ (s.entry i).jitterWindow)
    (coasts : s.stations[i].state = .coast) :
    resolveByMeasurement i j m s =
      let x := s.stations[i].tracker
      let anchored := (x.predict.noteD (counterDiff m x.predictedAt)).setBoundary j (.resolved m)
      trackWith i { anchored with position := positionOf m, reanchor := satInc16 x.reanchor } s := by
  unfold resolveByMeasurement
  dsimp only
  split
  · exact (if_neg far).trans (if_pos coasts)
  · next hold => exact absurd (follows.symm.trans hold) (by decide)
  · next once => exact absurd (follows.symm.trans once) (by decide)

/-- In FOLLOW outside W a station in TRACK takes the prediction and counts one JITTER. -/
theorem resolveByMeasurement_jitters (follows : s.stations[i].tracker.mode = .follow)
    (far : ¬ (counterDiff m s.stations[i].tracker.predictedAt).natAbs ≤ (s.entry i).jitterWindow)
    (tracks : s.stations[i].state = .track) :
    resolveByMeasurement i j m s =
      let x := s.stations[i].tracker
      countJitter i (trackWith i
        ((x.predict.noteD (counterDiff m x.predictedAt)).setBoundary j (.resolved x.predictedAt)) s) := by
  unfold resolveByMeasurement
  dsimp only
  split
  · refine (if_neg far).trans (if_neg ?_)
    rw [tracks]
    decide
  · next hold => exact absurd (follows.symm.trans hold) (by decide)
  · next once => exact absurd (follows.symm.trans once) (by decide)

/-- HOLD takes the prediction. -/
theorem resolveByMeasurement_hold (holds : s.stations[i].tracker.mode = .hold) :
    resolveByMeasurement i j m s =
      let x := s.stations[i].tracker
      trackWith i ((x.predict.noteD (counterDiff m x.predictedAt)).setBoundary j (.resolved x.predictedAt)) s := by
  unfold resolveByMeasurement
  dsimp only
  split
  · next follows => exact absurd (holds.symm.trans follows) (by decide)
  · rfl
  · next once => exact absurd (holds.symm.trans once) (by decide)

/-- ONCE is re-anchored and becomes HOLD. -/
theorem resolveByMeasurement_once (once : s.stations[i].tracker.mode = .once) :
    resolveByMeasurement i j m s =
      let x := s.stations[i].tracker
      let anchored := (x.predict.noteD (counterDiff m x.predictedAt)).setBoundary j (.resolved m)
      trackWith i { anchored with position := positionOf m, mode := .hold } s := by
  unfold resolveByMeasurement
  dsimp only
  split
  · next follows => exact absurd (once.symm.trans follows) (by decide)
  · next hold => exact absurd (once.symm.trans hold) (by decide)
  · rfl

theorem resolveByMeasurement_near_station (follows : s.stations[i].tracker.mode = .follow)
    (near : (counterDiff m s.stations[i].tracker.predictedAt).natAbs ≤ (s.entry i).jitterWindow) :
    let d := counterDiff m s.stations[i].tracker.predictedAt
    (resolveByMeasurement i j m s).stations[i] = s.stations[i].trackedAt j d (s.stations[i].tracker.predict.correct d)
      (roundPosition (s.stations[i].tracker.predict.correct d).position) := by
  rw [resolveByMeasurement_near j follows near]
  dsimp only
  rw [noteD_eq]
  exact trackWith_station i _ s

theorem resolveByMeasurement_reanchors_station (follows : s.stations[i].tracker.mode = .follow)
    (far : ¬ (counterDiff m s.stations[i].tracker.predictedAt).natAbs ≤ (s.entry i).jitterWindow)
    (coasts : s.stations[i].state = .coast) :
    (resolveByMeasurement i j m s).stations[i] =
      s.stations[i].trackedAt j (counterDiff m s.stations[i].tracker.predictedAt)
        { s.stations[i].tracker.anchoredAt m with reanchor := satInc16 s.stations[i].tracker.reanchor } m := by
  rw [resolveByMeasurement_reanchors j follows far coasts]
  dsimp only
  rw [noteD_eq]
  exact trackWith_station i _ s

theorem resolveByMeasurement_hold_station (holds : s.stations[i].tracker.mode = .hold) :
    (resolveByMeasurement i j m s).stations[i] =
      s.stations[i].trackedAt j (counterDiff m s.stations[i].tracker.predictedAt) s.stations[i].tracker.predict
        s.stations[i].tracker.predictedAt := by
  rw [resolveByMeasurement_hold j holds]
  dsimp only
  rw [noteD_eq]
  exact trackWith_station i _ s

theorem resolveByMeasurement_once_station (once : s.stations[i].tracker.mode = .once) :
    (resolveByMeasurement i j m s).stations[i] =
      s.stations[i].trackedAt j (counterDiff m s.stations[i].tracker.predictedAt)
        { s.stations[i].tracker.anchoredAt m with mode := .hold } m := by
  rw [resolveByMeasurement_once j once]
  dsimp only
  rw [noteD_eq]
  exact trackWith_station i _ s

/-- The JITTER count of a far measurement, and HOLD at its threshold (R36, R37). -/
theorem resolveByMeasurement_jitters_station (follows : s.stations[i].tracker.mode = .follow)
    (far : ¬ (counterDiff m s.stations[i].tracker.predictedAt).natAbs ≤ (s.entry i).jitterWindow)
    (tracks : s.stations[i].state = .track) :
    (resolveByMeasurement i j m s).stations[i] =
      { s.stations[i].trackedAt j (counterDiff m s.stations[i].tracker.predictedAt)
          { s.stations[i].tracker.predict with
            mode := if s.stations[i].jitterCount < 255 ∧ s.stations[i].jitterCount + 1 = (s.entry i).jitterThreshold
              then .hold else .follow }
          s.stations[i].tracker.predictedAt with
        jitterCount := satInc8 s.stations[i].jitterCount } := by
  rw [resolveByMeasurement_jitters j follows far tracks]
  dsimp only
  rw [noteD_eq]
  have sameEntry {x : Tracker} : (trackWith i x s).entry i = s.entry i := by
    rw [(OnlyStation.refl i s).after_trackWith.frame]
    rfl
  have noted {x : Tracker} : (Tracker.setBoundary x j (.resolved s.stations[i].tracker.predictedAt)).mode = x.mode := rfl
  have sameMode : s.stations[i].tracker.predict.mode = .follow := follows
  rw [countJitter_station, sameEntry, trackWith_station]
  simp only [noted, sameMode, and_true]
  rfl

theorem resolveByMeasurement_jitters_flagSet (follows : s.stations[i].tracker.mode = .follow)
    (far : ¬ (counterDiff m s.stations[i].tracker.predictedAt).natAbs ≤ (s.entry i).jitterWindow)
    (tracks : s.stations[i].state = .track) (below : s.stations[i].jitterCount < 255)
    (reached : s.stations[i].jitterCount + 1 = (s.entry i).jitterThreshold) :
    flagSet (resolveByMeasurement i j m s) .stationThreshold = true := by
  rw [resolveByMeasurement_jitters j follows far tracks]
  have sameEntry {x : Tracker} : (trackWith i x s).entry i = s.entry i := by
    rw [(OnlyStation.refl i s).after_trackWith.frame]
    rfl
  refine countJitter_flagSet ?_ ?_
  · rwa [trackWith_station]
  · rwa [trackWith_station, sameEntry]

/-- A measurement that resolves a boundary of a coasting station raises STATION_STATE (R22). -/
theorem resolveByMeasurement_flagSet (coasts : s.stations[i].state = .coast) :
    flagSet (resolveByMeasurement i j m s) .stationState = true := by
  rcases mode : s.stations[i].tracker.mode with _ | _ | _
  · by_cases near : (counterDiff m s.stations[i].tracker.predictedAt).natAbs ≤ (s.entry i).jitterWindow
    · rw [resolveByMeasurement_near j mode near]
      exact trackWith_flagSet _ coasts
    · rw [resolveByMeasurement_reanchors j mode near coasts]
      exact trackWith_flagSet _ coasts
  · rw [resolveByMeasurement_hold j mode]
    exact trackWith_flagSet _ coasts
  · rw [resolveByMeasurement_once j mode]
    exact trackWith_flagSet _ coasts

end

/-! ## Acquisition (R31, R55) -/

theorem foldl_void (bs : List BlockNo) (l : List BoundaryEntry) :
    bs.foldl (fun acc b => withStatus acc b .void) l =
      l.map (fun e => if e.block ∈ bs then { e with status := .void } else e) := by
  induction bs generalizing l with
  | nil => simp
  | cons b bs ih =>
    rw [List.foldl_cons, ih, withStatus, List.map_map]
    refine List.map_congr_left fun e _ => ?_
    by_cases here : e.block = b
    · simp [here]
    · simp [here]

/-- Another boundary's status leaves a list that does not hold it. -/
theorem withStatus_of_not_mem {l : List BoundaryEntry} {j : BlockNo} (x : BoundaryStatus) (out : j ∉ l.map (·.block)) :
    withStatus l j x = l := by
  refine (List.map_congr_left fun e mem => if_neg ?_).trans (List.map_id l)
  rintro rfl
  exact out (List.mem_map_of_mem mem)

theorem olderThan_eq {older newer : List BoundaryEntry} {e : BoundaryEntry} (out : e.block ∉ older.map (·.block)) :
    olderThan (older ++ e :: newer) e.block = older := by
  have others : ∀ b ∈ older, (b.block != e.block) = true := by
    intro b mem
    rw [bne_iff_ne]
    intro same
    exact out (same ▸ List.mem_map_of_mem mem)
  rw [olderThan, List.takeWhile_append_of_pos others, List.takeWhile_cons_of_neg (by simp), List.append_nil]

/-- The acquired boundary is RESOLVED at its measurement, the PENDING ones before it are VOID, and the later ones stand. -/
theorem acquireList_eq {older newer : List BoundaryEntry} {j : BlockNo} (m : Counter)
    (distinct : ((older ++ { block := j, status := .pending } :: newer).map (·.block)).Nodup) :
    acquireList (older ++ { block := j, status := .pending } :: newer) j m =
      older.map (fun b => if b.status = .pending then { b with status := .void } else b) ++
        { block := j, status := .resolved m } :: newer := by
  rw [List.map_append, List.map_cons, List.nodup_append] at distinct
  obtain ⟨olderDistinct, rest, apart⟩ := distinct
  obtain ⟨afterJ, -⟩ := List.nodup_cons.mp rest
  have beforeJ : j ∉ older.map (·.block) := fun mem => apart j mem j List.mem_cons_self rfl
  have pendingIff (b : BoundaryEntry) (mem : b ∈ older) :
      b.block ∈ (older.filter (fun e => e.status == .pending)).map (·.block) ↔ b.status = .pending := by
    constructor
    · intro named
      obtain ⟨e, kept, same⟩ := List.mem_map.mp named
      obtain ⟨eMem, pending⟩ := List.mem_filter.mp kept
      have one : e = b := List.inj_on_of_nodup_map olderDistinct eMem mem same
      rw [← one]
      exact beq_iff_eq.mp pending
    · intro pending
      exact List.mem_map_of_mem (List.mem_filter.mpr ⟨mem, beq_iff_eq.mpr pending⟩)
  have notNamed (k : BlockNo) (out : k ∉ older.map (·.block)) :
      k ∉ (older.filter (fun e => e.status == .pending)).map (·.block) := fun named => by
    obtain ⟨e, kept, same⟩ := List.mem_map.mp named
    exact out (same ▸ List.mem_map_of_mem (List.mem_filter.mp kept).1)
  have voided : older.map (fun e => if e.block ∈ (older.filter (fun e => e.status == .pending)).map (·.block)
      then { e with status := .void } else e) =
      older.map (fun b => if b.status = .pending then { b with status := .void } else b) :=
    List.map_congr_left fun b mem => by simp only [pendingIff b mem]
  have kept : newer.map (fun e => if e.block ∈ (older.filter (fun e => e.status == .pending)).map (·.block)
      then { e with status := .void } else e) = newer := by
    refine (List.map_congr_left fun e mem => if_neg (notNamed _ fun named => ?_)).trans (List.map_id newer)
    exact apart e.block named e.block (List.mem_cons_of_mem _ (List.mem_map_of_mem mem)) rfl
  unfold acquireList olderPending
  rw [olderThan_eq (e := { block := j, status := .pending }) beforeJ, foldl_void, List.map_append, List.map_cons, voided, kept,
    if_neg (notNamed j beforeJ)]
  have blocks : (older.map (fun b : BoundaryEntry => if b.status = .pending then { b with status := .void } else b)).map
      (·.block) = older.map (·.block) := by
    rw [List.map_map]
    refine List.map_congr_left fun b _ => ?_
    simp only [Function.comp_apply]
    split <;> rfl
  rw [withStatus, List.map_append, List.map_cons, if_pos rfl]
  have front := withStatus_of_not_mem (.resolved m) (blocks ▸ beforeJ)
  have back := withStatus_of_not_mem (.resolved m) afterJ
  rw [withStatus] at front back
  rw [front, back]

/-- The window releases the frames that end at or before the boundary (R31). -/
theorem releaseFrames_eq (b : Counter) (w : List HeldFrame) :
    releaseFrames b w = w.filter (fun h => decide (0 < counterDiff (h.counter + 48) b)) := by
  refine List.filter_congr fun h _ => ?_
  have ends : h.endCounter = h.counter + 48 := rfl
  rw [isAtOrBefore, ends, Bool.eq_iff_iff]
  simp

theorem acquireOn_station (i : Fin 16) (j : BlockNo) (m : Counter) (s : State) : (acquireOn i j m s).stations[i] =
    { s.stations[i] with
      state := .track
      window := s.stations[i].window.filter (fun h => decide (0 < counterDiff (h.counter + 48) m))
      releasePoint := some m
      evictedBelow := none
      tracker := { s.stations[i].tracker with
        position := BitVec.ofNat 48 (m.toNat * 65536), rate := 15728640, rateLimit := false, coastCount := 0
        boundaries := acquireList s.stations[i].tracker.boundaries j m } } := by
  unfold acquireOn
  rw [setStationState_station, modStation_station_self, ← releaseFrames_eq]
  rfl

/-! ## Close points (R46, R56, R57) -/

theorem running_of_timed {x : StationState} (timed : x = .track ∨ x = .coast) : x.timed = true ∧ x.running = true := by
  rcases timed with rfl | rfl <;> exact ⟨rfl, rfl⟩

/-- The deadline leaves a boundary that is not PENDING. -/
theorem resolveDeadline_decided {i : Fin 16} {j : BlockNo} (decided : statusOf s.stations[i].tracker.boundaries j ≠ some .pending) :
    resolveDeadline i j s = s := if_neg decided

theorem resolveDeadline_timed {i : Fin 16} {j : BlockNo} (pending : statusOf s.stations[i].tracker.boundaries j = some .pending)
    (timed : s.stations[i].state.timed = true) : resolveDeadline i j s = resolveByPrediction i j s :=
  (if_pos pending).trans (if_pos timed)

theorem resolveDeadline_acquiring {i : Fin 16} {j : BlockNo}
    (pending : statusOf s.stations[i].tracker.boundaries j = some .pending) (acquires : s.stations[i].state = .acquire) :
    resolveDeadline i j s = modTracker i (fun t => t.setBoundary j .void) s := by
  refine (if_pos pending).trans (if_neg ?_)
  rw [acquires]
  decide

theorem blockEnds_of_resolved {x : Station} {k : BlockNo} {b e : Counter} (timed : x.state.timed = true)
    (begins : statusOf x.tracker.boundaries k = some (.resolved b))
    (ends : statusOf x.tracker.boundaries (k + 1) = some (.resolved e)) : blockEnds x k = some (b, e) := by
  rw [blockEnds, if_pos timed, begins, ends]

theorem blockEnds_untimed {x : Station} (k : BlockNo) (untimed : x.state.timed = false) : blockEnds x k = none := by
  rw [blockEnds, untimed]
  rfl

theorem blockEnds_unresolved {x : Station} {k : BlockNo}
    (unresolved : ∀ b, statusOf x.tracker.boundaries k ≠ some (.resolved b)) : blockEnds x k = none := by
  unfold blockEnds
  split
  · split
    · next b e begins _ => exact absurd begins (unresolved b)
    · rfl
  · rfl

theorem legalLength_iff (n : Int) : legalLength n = true ↔ 232 ≤ n ∧ n ≤ 248 := by
  have short : shortestBlock = 232 := rfl
  have long : longestBlock = 248 := rfl
  rw [legalLength, short, long, Bool.and_eq_true, decide_eq_true_iff, decide_eq_true_iff]

/-- The close point of block k at a station, once the deadline of boundary k + 1 was met. -/
def closeMeasured (i : Fin 16) (k : BlockNo) (t : State) : State × Option Timing :=
  match blockEnds t.stations[i] k with
  | some (b, e) =>
    if legalLength (counterDiff e b) then (t, some { start := b, length := (counterDiff e b).toNat })
    else (timingFault i k b e t, none)
  | none => (t, none)

theorem closeTiming_running {i : Fin 16} (k : BlockNo) (running : s.stations[i].state.running = true) :
    closeTiming i k s = closeMeasured i k (resolveDeadline i (k + 1) s) := if_pos running

theorem closeMeasured_none {i : Fin 16} {k : BlockNo} (unended : blockEnds s.stations[i] k = none) :
    closeMeasured i k s = (s, none) := by
  unfold closeMeasured
  rw [unended]

theorem closeMeasured_timed {i : Fin 16} {k : BlockNo} {b e : Counter} (ends : blockEnds s.stations[i] k = some (b, e))
    (low : 232 ≤ counterDiff e b) (high : counterDiff e b ≤ 248) :
    closeMeasured i k s = (s, some { start := b, length := (counterDiff e b).toNat }) := by
  unfold closeMeasured
  rw [ends]
  exact if_pos ((legalLength_iff _).mpr ⟨low, high⟩)

theorem closeMeasured_fault {i : Fin 16} {k : BlockNo} {b e : Counter} (ends : blockEnds s.stations[i] k = some (b, e))
    (out : counterDiff e b < 232 ∨ 248 < counterDiff e b) : closeMeasured i k s = (timingFault i k b e s, none) := by
  unfold closeMeasured
  rw [ends]
  refine if_neg fun legal => ?_
  rw [legalLength_iff] at legal
  omega

@[simp] theorem timingFault_station (i : Fin 16) (k : BlockNo) (b e : Counter) (s : State) :
    (timingFault i k b e s).stations[i] = s.stations[i].toAcquire := by
  unfold timingFault
  rw [logFault_stations, raise_stations, enterAcquire_station]

theorem timingFault_flagSet (i : Fin 16) (k : BlockNo) (b e : Counter) (s : State) :
    flagSet (timingFault i k b e s) .timingFault = true := raise_sets _ _

@[simp] theorem enterAcquire_faults (i : Fin 16) (s : State) : (enterAcquire i s).management.faults = s.management.faults :=
  setStationState_faults i .acquire _

theorem timingFault_class (i : Fin 16) (k : BlockNo) (b e : Counter) (s : State) :
    (timingFault i k b e s).management.faults[faultTiming] = (s.management.faults[faultTiming]).record
      { subject := BitVec.ofNat 48 i.val, block := k, detail := wordBytes b ++ wordBytes e ++ wordBytes (e - b) } := by
  unfold timingFault
  rw [logFault_class_self, raise_management_faults, enterAcquire_faults]

/-- Replacing a boundary's status gives it that status and leaves the others'. -/
theorem statusOf_withStatus_self {l : List BoundaryEntry} {j : BlockNo} (x : BoundaryStatus) (held : statusOf l j ≠ none) :
    statusOf (withStatus l j x) j = some x := by
  induction l with
  | nil => exact absurd rfl held
  | cons e l ih =>
    unfold statusOf withStatus at *
    by_cases here : e.block = j
    · simp [here]
    · rw [List.find?_cons_of_neg (by simpa using here)] at held
      rw [List.map_cons, if_neg here, List.find?_cons_of_neg (by simpa using here)]
      exact ih held

theorem statusOf_withStatus_other {l : List BoundaryEntry} {j k : BlockNo} (x : BoundaryStatus) (other : k ≠ j) :
    statusOf (withStatus l j x) k = statusOf l k := by
  induction l with
  | nil => rfl
  | cons e l ih =>
    unfold statusOf withStatus at *
    rw [List.map_cons]
    by_cases here : e.block = j
    · have apart : e.block ≠ k := fun same => other (same.symm.trans here)
      rw [if_pos here, List.find?_cons_of_neg (by simpa using apart), List.find?_cons_of_neg (by simpa using apart), ih]
    · rw [if_neg here]
      by_cases found : e.block = k
      · simp [found]
      · rw [List.find?_cons_of_neg (by simpa using found), List.find?_cons_of_neg (by simpa using found), ih]

/-- A prediction that does not lose the station leaves it timed, with the boundary RESOLVED at the predicted position. -/
theorem resolveByPrediction_kept {i : Fin 16} (j : BlockNo) (timed : s.stations[i].state.timed = true)
    (kept : ¬ (s.stations[i].tracker.mode = .follow ∧ (s.entry i).coastLimit ≤ s.stations[i].tracker.coastCount)) :
    (resolveByPrediction i j s).stations[i].state.timed = true ∧
    (resolveByPrediction i j s).stations[i].tracker.boundaries =
      withStatus s.stations[i].tracker.boundaries j (.resolved s.stations[i].tracker.predictedAt) := by
  by_cases follows : s.stations[i].tracker.mode = .follow
  · have within : s.stations[i].tracker.coastCount < (s.entry i).coastLimit :=
      Nat.lt_of_not_le fun beyond => kept ⟨follows, beyond⟩
    rw [resolveByPrediction_coasts j follows within]
    exact ⟨rfl, rfl⟩
  · rw [resolveByPrediction_held j follows, modTracker_station_self]
    exact ⟨timed, rfl⟩

section
variable {i : Fin 16} {k : BlockNo} (pending : statusOf s.stations[i].tracker.boundaries (k + 1) = some .pending)
include pending

/-- In ACQUIRE a boundary still PENDING at the close point becomes VOID (R46). -/
theorem closeTiming_acquiring (acquires : s.stations[i].state = .acquire) :
    closeTiming i k s = (modTracker i (fun t => t.setBoundary (k + 1) .void) s, none) := by
  have untimed : (modTracker i (fun t => t.setBoundary (k + 1) .void) s).stations[i].state.timed = false := by
    rw [modTracker_station_self, acquires]
    rfl
  rw [closeTiming_running k (by rw [acquires]; rfl), resolveDeadline_acquiring pending acquires,
    closeMeasured_none (blockEnds_untimed k untimed)]

/-- In TRACK and COAST it is resolved by prediction before the block is measured (R46, R56). -/
theorem closeTiming_predicted (timed : s.stations[i].state = .track ∨ s.stations[i].state = .coast) :
    closeTiming i k s = closeMeasured i k (resolveByPrediction i (k + 1) s) := by
  obtain ⟨isTimed, running⟩ := running_of_timed timed
  rw [closeTiming_running k running, resolveDeadline_timed pending isTimed]

theorem closeTiming_lost (timed : s.stations[i].state = .track ∨ s.stations[i].state = .coast)
    (follows : s.stations[i].tracker.mode = .follow) (beyond : (s.entry i).coastLimit ≤ s.stations[i].tracker.coastCount) :
    closeTiming i k s = (resolveByPrediction i (k + 1) s, none) := by
  have untimed : (resolveByPrediction i (k + 1) s).stations[i].state.timed = false := by
    rw [resolveByPrediction_lost (k + 1) follows beyond, enterAcquire_state]
    rfl
  rw [closeTiming_predicted pending timed, closeMeasured_none (blockEnds_untimed k untimed)]

section
variable (timed : s.stations[i].state = .track ∨ s.stations[i].state = .coast)
  (kept : ¬ (s.stations[i].tracker.mode = .follow ∧ (s.entry i).coastLimit ≤ s.stations[i].tracker.coastCount))
include timed kept

theorem statusOf_predicted :
    (resolveByPrediction i (k + 1) s).stations[i].state.timed = true ∧
    statusOf (resolveByPrediction i (k + 1) s).stations[i].tracker.boundaries k =
      statusOf s.stations[i].tracker.boundaries k ∧
    statusOf (resolveByPrediction i (k + 1) s).stations[i].tracker.boundaries (k + 1) =
      some (.resolved s.stations[i].tracker.predictedAt) := by
  obtain ⟨still, boundaries⟩ := resolveByPrediction_kept (k + 1) (running_of_timed timed).1 kept
  have other : k ≠ k + 1 := by bv_omega
  rw [boundaries]
  exact ⟨still, statusOf_withStatus_other _ other, statusOf_withStatus_self _ (by rw [pending]; exact Option.some_ne_none _)⟩

theorem closeTiming_unbegun (unresolved : ∀ b, statusOf s.stations[i].tracker.boundaries k ≠ some (.resolved b)) :
    closeTiming i k s = (resolveByPrediction i (k + 1) s, none) := by
  obtain ⟨-, begins, -⟩ := statusOf_predicted pending timed kept
  rw [closeTiming_predicted pending timed, closeMeasured_none (blockEnds_unresolved (by rwa [begins]))]

theorem blockEnds_predicted {b : Counter} (resolved : statusOf s.stations[i].tracker.boundaries k = some (.resolved b)) :
    blockEnds (resolveByPrediction i (k + 1) s).stations[i] k = some (b, s.stations[i].tracker.predictedAt) := by
  obtain ⟨still, begins, ends⟩ := statusOf_predicted pending timed kept
  exact blockEnds_of_resolved still (begins.trans resolved) ends

end
end

/-- What changes one station leaves every other part but the flags, the Fault Log and the management queue. -/
theorem OnlyStation.alone {i : Fin 16} {s t : State} (h : OnlyStation i s t) :
    (∀ k : Fin 16, k ≠ i → t.stations[k] = s.stations[k]) ∧
      t = { s with stations := t.stations, management := t.management, ports := t.ports } := by
  refine ⟨h.others, ?_⟩
  have frame := h.frame
  have ports : t.ports = { s.ports with management := t.ports.management } := congrArg State.ports frame
  rw [ports]
  exact frame

/-- Settles O12: the branches of the tracker's operations, taken one by one. -/
theorem correctionMovesTracker : Obligations.CorrectionMovesTracker := by
  unfold Obligations.CorrectionMovesTracker
  refine ⟨fun t d => ?_, roundPosition_eq, fun s i j timed => ⟨?_, fun m => ?_⟩, ?_, ?_, ?_⟩
  · obtain ⟨low, high, limited, free⟩ := clampRate_spec ((t.rate : Int) + d * 256)
    exact ⟨rfl, low, high, limited, free, rfl, rfl⟩
  · rintro t rfl
    refine ⟨(OnlyStation.refl i s).after_resolveByPrediction.alone, fun held => ?_, fun follows within => ?_,
      fun follows beyond => ?_⟩
    · rw [resolveByPrediction_held j held, modTracker_station_self]
      rfl
    · exact resolveByPrediction_coasts j follows within
    · have lost := resolveByPrediction_lost j follows beyond
      have moves : flagSet (resolveByPrediction i j s) .stationState = true := by
        rw [lost]
        exact enterAcquire_flagSet (by rw [coasted_state]; decide)
      rw [lost, enterAcquire_station] at *
      exact ⟨rfl, rfl, rfl, moves, toAcquisition_unresolved _⟩
  · refine ⟨(OnlyStation.refl i s).after_resolveByMeasurement.alone, resolveByMeasurement_flagSet j, ?_, ?_, ?_, ?_, ?_⟩
    · exact resolveByMeasurement_near_station j
    · exact resolveByMeasurement_reanchors_station j
    · exact fun follows far tracks => ⟨resolveByMeasurement_jitters_station j follows far tracks,
        fun taken => resolveByMeasurement_jitters_flagSet j follows far tracks taken.1 taken.2⟩
    · exact resolveByMeasurement_hold_station j
    · exact resolveByMeasurement_once_station j
  · intro s i j m older newer z list distinct
    rw [list] at distinct
    rw [acquireOn_station, list, acquireList_eq m distinct]
  · intro s i k b e timed begins ends n r
    obtain ⟨isTimed, running⟩ := running_of_timed timed
    have both := blockEnds_of_resolved isTimed begins ends
    have measured : r = closeMeasured i k s := by
      have decided : statusOf s.stations[i].tracker.boundaries (k + 1) ≠ some .pending := by
        rw [ends]
        simp
      exact (closeTiming_running k running).trans (by rw [resolveDeadline_decided decided])
    refine ⟨fun low high => measured.trans (closeMeasured_timed both low high), fun out => ?_⟩
    rw [measured.trans (closeMeasured_fault both out), timingFault_station, timingFault_class]
    obtain ⟨first, repeated⟩ := FaultClass.record_cases (s.management.faults[faultTiming])
      { subject := BitVec.ofNat 48 i.val, block := k, detail := wordBytes b ++ wordBytes e ++ wordBytes (e - b) }
    exact ⟨rfl, rfl, rfl, toAcquisition_unresolved _, timingFault_flagSet i k b e s, first, repeated⟩
  · intro s i k pending
    refine ⟨closeTiming_acquiring pending, fun timed => ⟨fun lost => closeTiming_lost pending timed lost.1 lost.2,
      fun kept unresolved => closeTiming_unbegun pending timed kept unresolved, fun kept b resolved => ?_⟩⟩
    have both := blockEnds_predicted pending timed kept resolved
    have measured := closeTiming_predicted pending timed
    refine ⟨fun low high => measured.trans (closeMeasured_timed both low high), fun out => ?_⟩
    rw [measured, closeMeasured_fault both out, timingFault_station]
    exact ⟨rfl, rfl, timingFault_flagSet i k b _ _⟩

end Sys2Proof.Machine
end


section
/-!
PROOFS. Silence and unknown stations (R23 to R25, R89): the entry into ABSENT and the report of a frame that no entry's address sent.
-/

namespace Sys2Proof.Machine

variable {s t : State} {i : Fin 16}

/-! ## Twenty silent boundaries (R24) -/

/-- A group of the station is flushed, and every other group stands. -/
theorem flushStation_group (i : Fin 16) (s : State) (g : Fin 8) : (flushStation i s).groups[g] =
    if groupStation s.tables.active g = some i then s.groups[g].flush else s.groups[g] := by
  simp [flushStation]

/-- The entry into an idle state changes one station and its groups. -/
theorem enterIdleState_only (i : Fin 16) (x : StationState) (s : State) :
    ∃ u, OnlyStation i s u ∧ enterIdleState i x s = flushStation i u ∧
      u.stations[i] = { s.stations[i].emptied with state := x, newestSerial := none } ∧
      (s.stations[i].state ≠ x → flagSet u .stationState = true) := by
  refine ⟨_, (OnlyStation.refl i s).after_modStation.after_setStationState, rfl, ?_, fun moves => ?_⟩
  · rw [setStationState_station, modStation_station_self]
  · exact setStationState_flagSet (by rw [modStation_station_self]; exact moves)

/-- The groups are none of what the end of a command looks at. -/
theorem OnlyStation.settle_flushed (h : OnlyStation i s t) (settled : s.Settled) (k : Fin 16) :
    ∃ p, Machine.settle (flushStation k t) = { flushStation k t with ports := p } :=
  settled.settle_same (by rw [flushStation_output, h.frame]) (by rw [flushStation_engine, h.frame])
    (by rw [flushStation_ports, h.frame]) (by rw [flushStation_ports, h.frame])

theorem exec_silenceCountLimit (running : s.stations[i].state.running = true) (silent : 20 ≤ s.stations[i].silence) :
    exec (.silenceCountLimit i) s = .next (settle (enterAbsent i s)) := by
  refine congrArg Host.Outcome.next (if_pos ?_)
  unfold silenceDue
  rw [running]
  exact decide_eq_true silent

/-- Settles O25: the entry into ABSENT, and an end of the command that takes nothing but a NOTICE. -/
theorem silenceMakesAbsent : Obligations.SilenceMakesAbsent := by
  unfold Obligations.SilenceMakesAbsent
  intro s i settled running silent
  obtain ⟨u, only, entered, station, moved⟩ := enterIdleState_only i .absent s
  obtain ⟨p, ends⟩ := only.settle_flushed settled i
  have awaited : s.stations[i].state ≠ .absent := fun absent => by
    rw [absent] at running
    cases running
  have tables : u.tables = s.tables := by rw [only.frame]
  have groups : u.groups = s.groups := by rw [only.frame]
  refine ⟨_, exec_silenceCountLimit running silent, ?_⟩
  rw [enterAbsent, entered, ends]
  refine ⟨station, only.others, fun g own => ?_, fun g other => ?_, moved awaited, ?_⟩
  · refine (flushStation_group i u g).trans ?_
    rw [tables, if_pos own, groups]
    rfl
  · refine (flushStation_group i u g).trans ?_
    rw [tables, if_neg other, groups]
  · rw [only.frame]
    rfl

/-! ## Unknown stations (R25, R178) -/

theorem stationOf_eq_none_iff (s : State) (f : Frame) : stationOf s f = none ↔
    ∀ i : Fin 16, (s.entry i).valid = true → (s.entry i).address ≠ 0 → (s.entry i).address ≠ f.src := by
  unfold stationOf
  rw [List.find?_eq_none]
  simp only [List.mem_finRange, true_implies, Bool.and_eq_true, bne_iff_ne, beq_iff_eq, not_and, ne_eq, and_imp]

/-- The report of an unknown station, before the frame is forwarded: the flag and the Fault Log. -/
def unknownReported (f : Frame) (s : State) : State :=
  logFault faultUnknownStation { subject := f.src, block := s.timebase.blockNumber, detail := frameStart f }
    (raise .unknownStation s)

theorem receiveAudio_unknown {f : Frame} (unknown : stationOf s f = none) :
    receiveAudio f s = forwardFrom .A f (unknownReported f s) := by
  unfold receiveAudio
  rw [unknown]
  rfl

/-- The report writes the Management Unit and may place a NOTICE. -/
theorem unknownReported_frame (f : Frame) (s : State) : unknownReported f s = { s with
    management := (unknownReported f s).management
    ports := { s.ports with management := (unknownReported f s).ports.management } } := by
  obtain ⟨q, h, p, raised⟩ := raise_spec .unknownStation s
  unfold unknownReported
  rw [raised]
  rfl

/-- After the report and the forwarding the end of the command changes the ports alone. -/
theorem settle_unknown (settled : s.Settled) (f : Frame) :
    settle (forwardFrom .A f (unknownReported f s)) =
      { s with management := (settle (forwardFrom .A f (unknownReported f s))).management,
               ports := (settle (forwardFrom .A f (unknownReported f s))).ports } := by
  obtain ⟨x, y, d, e, forwarded⟩ := forwardFrom_spec .A f (unknownReported f s)
  obtain ⟨p, ends⟩ := settled.settle_same (t := forwardFrom .A f (unknownReported f s))
    (by rw [forwarded, unknownReported_frame]) (by rw [forwarded, unknownReported_frame])
    (by rw [forwarded, unknownReported_frame]) (by rw [forwarded, unknownReported_frame])
  rw [ends, forwarded]
  rw [show (unknownReported f s) = _ from unknownReported_frame f s]

/-- Settles O32: the report, and the queue toward port B that no arbiter writes. -/
theorem unknownStationIsReported : Obligations.UnknownStationIsReported := by
  unfold Obligations.UnknownStationIsReported
  intro s f settled arrives unknown
  have received := receiveAudio_unknown ((stationOf_eq_none_iff s f).mpr unknown)
  have queue : (settle (forwardFrom .A f (unknownReported f s))).ports.forwardAB =
      (forwardFrom .A f (unknownReported f s)).ports.forwardAB := (settle_forwards _).forwardAB
  have role : (unknownReported f s).config = s.config := by rw [unknownReported_frame]
  have before : (unknownReported f s).ports.forwardAB = s.ports.forwardAB := by rw [unknownReported_frame]
  obtain ⟨x, y, d, e, forwarded⟩ := forwardFrom_spec .A f (unknownReported f s)
  refine ⟨_, exec_stationAudio f arrives, ?_⟩
  rw [received]
  refine ⟨?_, fun empty => ?_, fun inline room => ?_, fun terminal => ?_, settle_unknown settled f⟩
  · rw [settle_flagSet, forwarded]
    exact raise_sets _ _
  · rw [settle_management, forwarded]
    unfold unknownReported
    rw [logFault_class_self, raise_management_faults]
    exact (FaultClass.record_cases _ _).1 empty
  · rw [queue, forwardFrom_A_inline (by rw [role]; exact inline), before, if_pos room]
  · rw [queue, forwardFrom_terminal (by rw [role]; exact terminal), before]

end Sys2Proof.Machine
end


section
/-!
PROOFS. The Station Receiver's way with a frame (R24 to R32): acceptance and checks, the four cases of placement, and the end of a
command that changed one station.
-/

namespace Sys2Proof.Machine

variable {s t : State} {i : Fin 16} {f : Frame}

/-! ## One station changed -/

/-- Two changes of a station that give the same station are the same change. -/
theorem modStation_congr {g h : Station → Station} (same : g s.stations[i] = h s.stations[i]) :
    modStation i g s = modStation i h s := by
  unfold modStation modifyAt
  rw [same]

theorem modStation_modStation (i : Fin 16) (g h : Station → Station) (s : State) :
    modStation i g (modStation i h s) = modStation i (fun x => g (h x)) s := by
  have self := modStation_station_self s i h
  unfold modStation modifyAt at *
  dsimp only at *
  rw [self, Vector.set_set]

/-- A station is none of what the end of a command looks at. -/
theorem settle_modStation (settled : s.Settled) (i : Fin 16) (g : Station → Station) :
    settle (modStation i g s) = modStation i g s :=
  settle_of_settled _ (settled.congr rfl (fun p => by cases p <;> rfl) (fun _ => rfl) rfl rfl rfl rfl)

/-! ## Acceptance and checks (R24 to R26) -/

/-- The state in which a station has just been heard (R24). -/
def heard (i : Fin 16) (s : State) : State := modStation i (fun x => { x with silence := 0 }) s

theorem heard_station (i : Fin 16) (s : State) : (heard i s).stations[i] = { s.stations[i] with silence := 0 } :=
  modStation_station_self s i _

theorem acceptFrame_known (known : s.stations[i].state ≠ .absent) : acceptFrame i s = heard i s :=
  if_neg (by rw [modStation_station_self]; exact known)

theorem acceptFrame_absent (absent : s.stations[i].state = .absent) : acceptFrame i s = enterAcquire i (heard i s) :=
  if_pos (by rw [modStation_station_self]; exact absent)

/-- Acceptance leaves the entries, and moves no station into or out of TEST. -/
theorem passesChecks_acceptFrame (i : Fin 16) (f : Frame) (s : State) :
    passesChecks (acceptFrame i s) i f = passesChecks s i f := by
  by_cases absent : s.stations[i].state = .absent
  · have entry : (acceptFrame i s).entry i = s.entry i := by
      rw [((OnlyStation.refl i s).after_acceptFrame).frame]
      rfl
    have untested : ((acceptFrame i s).stations[i].state == .test) = (s.stations[i].state == .test) := by
      rw [acceptFrame_absent absent, enterAcquire_state, absent]
      rfl
    unfold passesChecks
    rw [entry, untested]
  · rw [acceptFrame_known absent]
    have state : (heard i s).stations[i].state = s.stations[i].state := by rw [heard_station]
    exact passesChecks_congr (modStation_entry s i i _) state f

theorem receiveAudio_checked (awake : s.part.awake = true) (source : stationOf s f = some i)
    (passes : passesChecks s i f = true) : receiveAudio f s = takeChecked i f (acceptFrame i s) := by
  rw [receiveAudio, source]
  dsimp only
  rw [receiveFrom, if_pos awake, if_pos ((passesChecks_acceptFrame i f s).trans passes)]

theorem receiveAudio_failed (awake : s.part.awake = true) (source : stationOf s f = some i)
    (fails : passesChecks s i f = false) : receiveAudio f s = countFormat i f (acceptFrame i s) := by
  rw [receiveAudio, source]
  dsimp only
  rw [receiveFrom, if_pos awake, if_neg (by rw [passesChecks_acceptFrame, fails]; decide)]

theorem known_of_running {x : StationState} (running : x.running = true) : x ≠ .absent ∧ x ≠ .test := by
  constructor <;> (rintro rfl; cases running)

/-- A checked frame of a running station is placed once the station has been heard. -/
theorem receiveAudio_running (awake : s.part.awake = true) (source : stationOf s f = some i)
    (passes : passesChecks s i f = true) (running : s.stations[i].state.running = true) :
    receiveAudio f s = placeFrame i f (heard i s) := by
  obtain ⟨known, untested⟩ := known_of_running running
  rw [receiveAudio_checked awake source passes, acceptFrame_known known, takeChecked, if_neg]
  rw [heard_station]
  exact untested

/-! ## The cases of placement (R28) -/

theorem isLate_eq_false_iff (x : Station) (c : Counter) :
    isLate x c = false ↔ ∀ r, x.releasePoint = some r → 0 < counterDiff (c + 48) r := by
  have ends : frameEnd c = c + 48 := rfl
  unfold isLate
  cases x.releasePoint with
  | none => simp
  | some r => simp [isAtOrBefore, ends]

theorem overlaps_eq_false_iff (c : Counter) (h : HeldFrame) :
    overlaps c h = false ↔ 48 ≤ (counterDiff c h.counter).natAbs := by
  have samples : frameSamples = 48 := rfl
  simp [overlaps, samples]

theorem counterDiff_self (c : Counter) : counterDiff c c = 0 := by
  simp [counterDiff]

theorem placeCase_duplicate {x : Station} {c : Counter} (held : ∃ h ∈ x.window, h.counter = c) : placeCase x c = .duplicate :=
  if_pos (by simpa using held)

theorem placeCase_late {x : Station} {c : Counter} (fresh : ∀ h ∈ x.window, h.counter ≠ c) (late : isLate x c = true) :
    placeCase x c = .late := by
  refine (if_neg ?_).trans (if_pos late)
  simpa using fresh

theorem placeCase_overlap {x : Station} {c : Counter} (fresh : ∀ h ∈ x.window, h.counter ≠ c)
    (inTime : isLate x c = false) (shared : ∃ h ∈ x.window, (counterDiff c h.counter).natAbs < 48) :
    placeCase x c = .overlap := by
  refine (if_neg ?_).trans ((if_neg (by rw [inTime]; decide)).trans (if_pos ?_))
  · simpa using fresh
  · obtain ⟨h, mem, near⟩ := shared
    exact List.any_eq_true.mpr ⟨h, mem, decide_eq_true near⟩

theorem placeCase_placement {x : Station} {c : Counter} (apart : ∀ h ∈ x.window, 48 ≤ (counterDiff c h.counter).natAbs)
    (inTime : isLate x c = false) : placeCase x c = .placement := by
  refine (if_neg ?_).trans ((if_neg (by rw [inTime]; decide)).trans (if_neg ?_))
  · rw [List.any_eq_true]
    rintro ⟨h, mem, same⟩
    have far := apart h mem
    rw [beq_iff_eq.mp same, counterDiff_self] at far
    exact absurd far (by decide)
  · rw [List.any_eq_true]
    rintro ⟨h, mem, near⟩
    rw [(overlaps_eq_false_iff c h).mpr (apart h mem)] at near
    exact absurd near (by decide)

/-- Having been heard changes nothing that placement looks at. -/
theorem placeCase_heard (i : Fin 16) (c : Counter) (s : State) :
    placeCase (heard i s).stations[i] c = placeCase s.stations[i] c := by
  rw [heard_station]
  rfl

theorem placeFrame_duplicate (copy : placeCase s.stations[i] (audioCounter f.body) = .duplicate) :
    placeFrame i f s = reportAndEvents i f s := by
  rw [placeFrame, copy]

theorem placeFrame_late (late : placeCase s.stations[i] (audioCounter f.body) = .late) :
    placeFrame i f s = reportAndEvents i f (countLate i s) := by
  rw [placeFrame, late]

theorem placeFrame_overlap (overlap : placeCase s.stations[i] (audioCounter f.body) = .overlap) :
    placeFrame i f s = countFormat i f s := by
  rw [placeFrame, overlap]

theorem placeFrame_placement (placement : placeCase s.stations[i] (audioCounter f.body) = .placement) :
    placeFrame i f s =
      reportAndEvents i f (modStation i (fun x => x.place (windowSize (s.entry i)) (heldOf f)) s) := by
  rw [placeFrame, placement]

/-! ## Eviction (R29) -/

/-- The running minimum is a counter of the list or the one it starts with, and of lowest rank among them. -/
theorem lowestCounter_spec (r c : Counter) (w : List HeldFrame) :
    (lowestCounter r c w = c ∨ ∃ h ∈ w, h.counter = lowestCounter r c w) ∧
    rankFrom r (lowestCounter r c w) ≤ rankFrom r c ∧
    ∀ h ∈ w, rankFrom r (lowestCounter r c w) ≤ rankFrom r h.counter := by
  unfold lowestCounter
  induction w generalizing c with
  | nil => exact ⟨.inl rfl, le_rfl, fun _ mem => absurd mem List.not_mem_nil⟩
  | cons h w ih =>
    rw [List.foldl_cons]
    by_cases lower : rankFrom r h.counter < rankFrom r c
    · rw [if_pos lower]
      obtain ⟨origin, start, all⟩ := ih h.counter
      refine ⟨.inr ?_, start.trans lower.le, List.forall_mem_cons.mpr ⟨start, all⟩⟩
      rcases origin with head | ⟨g, mem, same⟩
      · exact ⟨h, List.mem_cons_self, head.symm⟩
      · exact ⟨g, List.mem_cons_of_mem _ mem, same⟩
    · rw [if_neg lower]
      obtain ⟨origin, start, all⟩ := ih c
      refine ⟨origin.imp_right fun ⟨g, mem, same⟩ => ⟨g, List.mem_cons_of_mem _ mem, same⟩, start,
        List.forall_mem_cons.mpr ⟨start.trans (Nat.le_of_not_lt lower), all⟩⟩

theorem rankFrom_injective (r : Counter) : Function.Injective (rankFrom r) := by
  intro a b same
  have differences : a - r = b - r := BitVec.eq_of_toNat_eq same
  exact sub_left_inj.mp differences

/-- The counter of lowest rank is the only one that is none above the others. -/
theorem lowestCounter_eq {r c low : Counter} {w : List HeldFrame} (named : low = c ∨ ∃ h ∈ w, h.counter = low)
    (start : rankFrom r low ≤ rankFrom r c) (all : ∀ h ∈ w, rankFrom r low ≤ rankFrom r h.counter) :
    lowestCounter r c w = low := by
  obtain ⟨origin, below, least⟩ := lowestCounter_spec r c w
  refine rankFrom_injective r (Nat.le_antisymm ?_ ?_)
  · rcases named with rfl | ⟨h, mem, rfl⟩
    · exact below
    · exact least h mem
  · rcases origin with same | ⟨h, mem, same⟩
    · rwa [same]
    · rw [← same]
      exact all h mem

/-! ## Mark reports (R44, R45) -/

theorem lookupMark_eq_none {l : List MarkEntry} {m : MarkNo} (missing : ∀ e ∈ l, e.mark ≠ m) : lookupMark l m = none := by
  rw [lookupMark, List.find?_eq_none.mpr (by simpa using missing)]
  rfl

theorem takeReport_unknown {m : MarkNo} (c : Counter) (missing : ∀ e ∈ s.timebase.history, e.mark ≠ m) :
    takeReport i m c s = s := by
  rw [takeReport, lookupMark_eq_none missing]

theorem lookupMark_found {l : List MarkEntry} {m : MarkNo} {e : MarkEntry}
    (found : l.find? (fun e => e.mark == m) = some e) : lookupMark l m = some e.block := by
  rw [lookupMark, found]
  rfl

theorem takeReport_decided {m : MarkNo} {j : BlockNo} (c : Counter) (mapped : lookupMark s.timebase.history m = some j)
    (decided : statusOf s.stations[i].tracker.boundaries j ≠ some .pending) : takeReport i m c s = s := by
  rw [takeReport, mapped]
  exact if_neg decided

theorem takeReport_pending {m : MarkNo} {j : BlockNo} (c : Counter) (mapped : lookupMark s.timebase.history m = some j)
    (pending : statusOf s.stations[i].tracker.boundaries j = some .pending) :
    takeReport i m c s = useMeasurement i j c s := by
  rw [takeReport, mapped]
  exact if_pos pending

theorem useMeasurement_acquiring (j : BlockNo) (m : Counter) (acquires : s.stations[i].state = .acquire) :
    useMeasurement i j m s = acquireOn i j m s := if_pos acquires

/-- The older PENDING boundaries resolved by prediction, one after another, whatever becomes of the station. -/
def predictedOver (i : Fin 16) (l : List BlockNo) (s : State) : State := l.foldl (fun x b => resolveByPrediction i b x) s

theorem timed_iff (x : StationState) : x.timed = true ↔ x.running = true ∧ x ≠ .acquire := by
  cases x <;> decide

theorem setStationState_running {x : StationState} (running : x.running = true) (i : Fin 16) (s : State) :
    (setStationState i x s).stations[i].state.running = true := by
  rw [setStationState_state]
  exact running

/-- A prediction leaves a running station running. -/
theorem resolveByPrediction_running (j : BlockNo) (running : s.stations[i].state.running = true) :
    (resolveByPrediction i j s).stations[i].state.running = true := by
  by_cases follows : s.stations[i].tracker.mode = .follow
  · rw [resolveByPrediction_follow j follows]
    split
    · exact setStationState_running rfl i _
    · exact setStationState_running rfl i _
  · rw [resolveByPrediction_held j follows, modTracker_station_self]
    exact running

theorem predictedOver_running (l : List BlockNo) (running : s.stations[i].state.running = true) :
    (predictedOver i l s).stations[i].state.running = true :=
  List.foldlRecOn (motive := fun u : State => u.stations[i].state.running = true) l _ running
    fun _ still b _ => resolveByPrediction_running b still

/-- While no prediction but the last sends the station to ACQUIRE, each older boundary is resolved. -/
theorem foldl_resolveOlder_timed (l : List BlockNo) (running : s.stations[i].state.running = true)
    (tracks : ∀ q, q < l.length → (predictedOver i (l.take q) s).stations[i].state ≠ .acquire) :
    l.foldl (resolveOlder i) s = predictedOver i l s := by
  induction l generalizing s with
  | nil => rfl
  | cons b l ih =>
    have timed : s.stations[i].state.timed = true := (timed_iff _).mpr ⟨running, tracks 0 (Nat.zero_lt_succ _)⟩
    have first : resolveOlder i s b = resolveByPrediction i b s := if_pos timed
    rw [List.foldl_cons, first, ih (resolveByPrediction_running b running) fun q below => ?_]
    · rfl
    · exact tracks (q + 1) (Nat.succ_lt_succ below)

/-- Once the station is in ACQUIRE the boundaries that remain are left. -/
theorem foldl_resolveOlder_acquiring (l : List BlockNo) (acquires : s.stations[i].state = .acquire) :
    l.foldl (resolveOlder i) s = s :=
  List.foldlRecOn (motive := fun u => u = s) l _ rfl fun u same b _ => by
    subst same
    exact if_neg (by rw [acquires]; decide)

/-- Where the n-th boundary is the first to send the station to ACQUIRE, the later ones are left. -/
theorem foldl_resolveOlder_lost (l : List BlockNo) {n : Nat} (running : s.stations[i].state.running = true)
    (lost : (predictedOver i (l.take n) s).stations[i].state = .acquire)
    (first : ∀ q, q < n → (predictedOver i (l.take q) s).stations[i].state ≠ .acquire) :
    l.foldl (resolveOlder i) s = predictedOver i (l.take n) s := by
  have until_lost : (l.take n).foldl (resolveOlder i) s = predictedOver i (l.take n) s := by
    refine foldl_resolveOlder_timed _ running fun q below => ?_
    have within : q < n := below.trans_le (List.length_take_le n l)
    rw [List.take_take, Nat.min_eq_left within.le]
    exact first q within
  conv_lhs => rw [← List.take_append_drop n l, List.foldl_append, until_lost]
  exact foldl_resolveOlder_acquiring _ lost

/-- The PENDING boundaries before j in a list. -/
theorem olderPending_eq (l : List BoundaryEntry) (j : BlockNo) : olderPending l j =
    ((l.takeWhile (fun b => b.block != j)).filter (fun b => decide (b.status = .pending))).map (·.block) := rfl

section
variable (j : BlockNo) (m : Counter) (timed : s.stations[i].state = .track ∨ s.stations[i].state = .coast)
include timed

theorem useMeasurement_timed : useMeasurement i j m s =
    let t := (olderPending s.stations[i].tracker.boundaries j).foldl (resolveOlder i) s
    if t.stations[i].state = .acquire then acquireOn i j m t else resolveByMeasurement i j m t := by
  refine if_neg fun acquires => ?_
  rw [acquires] at timed
  exact absurd timed (by decide)

/-- No older boundary loses the station: j is resolved with the measurement (R45). -/
theorem useMeasurement_tracked
    (tracks : ∀ n, (predictedOver i ((olderPending s.stations[i].tracker.boundaries j).take n) s).stations[i].state ≠ .acquire) :
    useMeasurement i j m s =
      resolveByMeasurement i j m (predictedOver i (olderPending s.stations[i].tracker.boundaries j) s) := by
  have all := tracks (olderPending s.stations[i].tracker.boundaries j).length
  rw [List.take_length] at all
  rw [useMeasurement_timed j m timed, foldl_resolveOlder_timed _ (running_of_timed timed).2 fun q _ => tracks q]
  exact if_neg all

/-- The n-th older boundary is the first to lose the station, which is acquired on j (R45). -/
theorem useMeasurement_lost {n : Nat}
    (lost : (predictedOver i ((olderPending s.stations[i].tracker.boundaries j).take n) s).stations[i].state = .acquire)
    (first : ∀ q, q < n →
      (predictedOver i ((olderPending s.stations[i].tracker.boundaries j).take q) s).stations[i].state ≠ .acquire) :
    useMeasurement i j m s =
      acquireOn i j m (predictedOver i ((olderPending s.stations[i].tracker.boundaries j).take n) s) := by
  rw [useMeasurement_timed j m timed, foldl_resolveOlder_lost _ (running_of_timed timed).2 lost first]
  exact if_pos lost

end

/-! ## A checked frame without events -/

theorem reportAndEvents_quiet (quiet : audioEventCount f.body = 0) (i : Fin 16) (s : State) :
    reportAndEvents i f s = takeReport i (audioMark f.body) (audioMarkCounter f.body) s := takeEvents_none quiet i _

/-- The state in which a frame has been heard and placed (R24, R28). -/
def placed (i : Fin 16) (f : Frame) (s : State) : State :=
  modStation i (fun x => ({ x with silence := 0 } : Station).place (windowSize (s.entry i)) (heldOf f)) s

/-- With room the frame joins the window's list. -/
theorem placed_room (room : s.stations[i].window.length < 2 ^ (s.entry i).windowOrder) (f : Frame) :
    placed i f s = modStation i (fun x => { x with silence := 0, window := x.window ++ [heldOf f] }) s :=
  modStation_congr (if_pos room)

/-- Evicted-below rises to the end of the evicted frame in TRACK and COAST (R29). -/
theorem raiseEvicted_eq (x : Station) (low : Counter) : raiseEvicted x low =
    if x.state = .track ∨ x.state = .coast then
      (match x.evictedBelow with
       | some e => if counterDiff e (low + 48) < 0 then some (low + 48) else some e
       | none => some (low + 48))
    else x.evictedBelow := by
  have ends : frameEnd low = low + 48 := rfl
  have timed : x.state.timed = true ↔ x.state = .track ∨ x.state = .coast := by cases x.state <;> decide
  by_cases tracks : x.state = .track ∨ x.state = .coast
  · rw [raiseEvicted, if_pos (timed.mpr tracks), if_pos tracks, ends]
    cases x.evictedBelow with
    | none => rfl
    | some e => exact if_congr (isBefore_iff e _) rfl rfl
  · rw [raiseEvicted, if_neg (fun isTimed => tracks (timed.mp isTimed)), if_neg tracks]

/-- In a full window the frame of lowest rank is evicted (R29). -/
theorem placed_full (full : 2 ^ (s.entry i).windowOrder ≤ s.stations[i].window.length) {low : Counter}
    (lowest : lowestCounter (rankReference s.stations[i] (audioCounter f.body)) (audioCounter f.body)
      s.stations[i].window = low) :
    placed i f s = modStation i (fun x => { x with
      silence := 0
      window := if low = audioCounter f.body then x.window
        else x.window.filter (fun h => h.counter != low) ++ [heldOf f]
      evictCount := satInc16 x.evictCount
      evictedBelow := raiseEvicted x low }) s := by
  refine modStation_congr ((if_neg (Nat.not_lt.mpr full)).trans ?_)
  subst lowest
  rfl

theorem heard_isLate (i : Fin 16) (c : Counter) (s : State) : isLate (heard i s).stations[i] c = isLate s.stations[i] c := by
  rw [heard_station]
  rfl

section
variable (awake : s.part.awake = true) (source : stationOf s f = some i) (passes : passesChecks s i f = true)
  (quiet : audioEventCount f.body = 0)
include awake source passes quiet

section
variable (running : s.stations[i].state.running = true)
include running

/-- A copy of a held frame is heard, and its mark report used. -/
theorem receiveAudio_copy (held : ∃ h ∈ s.stations[i].window, h.counter = audioCounter f.body) :
    receiveAudio f s = takeReport i (audioMark f.body) (audioMarkCounter f.body) (heard i s) := by
  rw [receiveAudio_running awake source passes running,
    placeFrame_duplicate ((placeCase_heard i _ s).trans (placeCase_duplicate held)), reportAndEvents_quiet quiet]

/-- A frame that shares no sample with a held one and is not late is placed, and its mark report used. -/
theorem receiveAudio_placed (apart : ∀ h ∈ s.stations[i].window, 48 ≤ (counterDiff (audioCounter f.body) h.counter).natAbs)
    (inTime : ∀ r, s.stations[i].releasePoint = some r → 0 < counterDiff (audioCounter f.body + 48) r) :
    receiveAudio f s = takeReport i (audioMark f.body) (audioMarkCounter f.body) (placed i f s) := by
  have placement := placeCase_placement apart ((isLate_eq_false_iff _ _).mpr inTime)
  rw [receiveAudio_running awake source passes running,
    placeFrame_placement ((placeCase_heard i _ s).trans placement), reportAndEvents_quiet quiet, heard,
    modStation_modStation, modStation_entry]
  rfl

end

/-- A frame of an ABSENT station brings it to ACQUIRE and is held there (R24, R28). -/
theorem receiveAudio_absent (absent : s.stations[i].state = .absent) (empty : s.stations[i].window = []) :
    receiveAudio f s = takeReport i (audioMark f.body) (audioMarkCounter f.body)
      (modStation i (fun x => { x with window := [heldOf f] }) (enterAcquire i (heard i s))) := by
  have station : (enterAcquire i (heard i s)).stations[i] = ({ s.stations[i] with silence := 0 } : Station).toAcquire := by
    rw [enterAcquire_station, heard_station]
  have window : (enterAcquire i (heard i s)).stations[i].window = [] := by
    rw [station]
    exact empty
  have placement : placeCase (enterAcquire i (heard i s)).stations[i] (audioCounter f.body) = .placement := by
    refine placeCase_placement (by rw [window]; simp) ((isLate_eq_false_iff _ _).mpr ?_)
    rw [station]
    exact fun r released => absurd released (Option.some_ne_none r).symm
  have joins : modStation i (fun x => x.place (windowSize ((enterAcquire i (heard i s)).entry i)) (heldOf f))
      (enterAcquire i (heard i s)) = modStation i (fun x => { x with window := [heldOf f] }) (enterAcquire i (heard i s)) := by
    refine modStation_congr ((if_pos ?_).trans ?_)
    · rw [window]
      exact Nat.two_pow_pos _
    · rw [window]
      rfl
  rw [receiveAudio_checked awake source passes, acceptFrame_absent absent, takeChecked,
    if_neg (by rw [enterAcquire_state]; decide), placeFrame_placement placement, joins, reportAndEvents_quiet quiet]

end

/-- What a mark report comes to where the end of the command takes nothing but what it placed itself. -/
theorem OnlyStation.exec_ends (only : OnlyStation i s t) (settled : s.Settled) (arrives : arrivesAs s .A f .stationAudio = true)
    (received : receiveAudio f s = t) :
    ∃ u, exec (.stationAudio f) s = .next u ∧ u = { t with ports := u.ports } := by
  obtain ⟨p, ends⟩ := only.settle settled
  refine ⟨_, exec_stationAudio f arrives, ?_⟩
  rw [received, ends]

/-- The end of such a command, once its ports are named: what it leaves is what it came to. -/
theorem OnlyStation.ended {u : State} (only : OnlyStation i s t) (ends : u = { t with ports := u.ports }) :
    u.stations = t.stations ∧ u.management = t.management ∧
      u = { s with stations := u.stations, management := u.management, ports := u.ports } := by
  have frame := only.frame
  generalize u.ports = p at ends
  subst ends
  exact ⟨rfl, rfl, congrArg (fun x : State => { x with ports := p }) frame⟩

/-- A command that came to a change of one station ends with it. -/
theorem exec_modStation {g : Station → Station} (settled : s.Settled) (arrives : arrivesAs s .A f .stationAudio = true)
    (received : receiveAudio f s = modStation i g s) : exec (.stationAudio f) s = .next (modStation i g s) := by
  rw [exec_stationAudio f arrives, received, settle_modStation settled]

theorem predictedOver_only (l : List BlockNo) (only : OnlyStation i s t) : OnlyStation i s (predictedOver i l t) :=
  List.foldlRecOn l _ only fun _ still _ _ => still.after_resolveByPrediction

/-- A mark report that maps to boundary j, once the frame that brought it left the tracker and the state as they were (R44, R45). -/
theorem exec_reported (settled : s.Settled) (arrives : arrivesAs s .A f .stationAudio = true) {g : Station → Station}
    {e : MarkEntry} (found : s.timebase.history.find? (fun e => e.mark == audioMark f.body) = some e)
    (state : (g s.stations[i]).state = s.stations[i].state) (tracker : (g s.stations[i]).tracker = s.stations[i].tracker)
    (received : receiveAudio f s = takeReport i (audioMark f.body) (audioMarkCounter f.body) (modStation i g s)) :
    let u := modStation i g s
    let m := audioMarkCounter f.body
    let older := olderPending s.stations[i].tracker.boundaries e.block
    let after := fun n => predictedOver i (older.take n) u
    let becomes := fun w => ∃ t, exec (.stationAudio f) s = .next t ∧ t = { w with ports := t.ports }
    (statusOf s.stations[i].tracker.boundaries e.block ≠ some .pending → exec (.stationAudio f) s = .next u) ∧
    (statusOf s.stations[i].tracker.boundaries e.block = some .pending →
      (s.stations[i].state = .acquire → becomes (acquireOn i e.block m u)) ∧
      (s.stations[i].state = .track ∨ s.stations[i].state = .coast →
        ((∀ n, (after n).stations[i].state ≠ .acquire) →
          becomes (resolveByMeasurement i e.block m (after older.length))) ∧
        (∀ n, (after n).stations[i].state = .acquire → (∀ q, q < n → (after q).stations[i].state ≠ .acquire) →
          becomes (acquireOn i e.block m (after n))))) := by
  intro u m older after becomes
  have self : u.stations[i] = g s.stations[i] := modStation_station_self s i g
  have sameState : u.stations[i].state = s.stations[i].state := by rw [self]; exact state
  have sameTracker : u.stations[i].tracker = s.stations[i].tracker := by rw [self]; exact tracker
  have mapped : lookupMark u.timebase.history (audioMark f.body) = some e.block := lookupMark_found found
  have only : OnlyStation i s u := (OnlyStation.refl i s).after_modStation
  have list : older = olderPending u.stations[i].tracker.boundaries e.block := by rw [sameTracker]
  refine ⟨fun decided => ?_, fun pending => ?_⟩
  · refine exec_modStation settled arrives (received.trans (takeReport_decided m mapped ?_))
    rwa [sameTracker]
  · have used := received.trans (takeReport_pending m mapped (by rwa [sameTracker]))
    refine ⟨fun acquires => ?_, fun timed => ⟨fun tracks => ?_, fun n lost first => ?_⟩⟩
    · exact only.after_acquireOn.exec_ends settled arrives
        (used.trans (useMeasurement_acquiring e.block m (sameState.trans acquires)))
    · have all : after older.length = predictedOver i older u := congrArg (predictedOver i · u) (List.take_length ..)
      have resolved := useMeasurement_tracked e.block m (sameState ▸ timed) (fun n => list ▸ tracks n)
      rw [all]
      exact (predictedOver_only older only).after_resolveByMeasurement.exec_ends settled arrives
        (used.trans (list ▸ resolved))
    · have acquired := useMeasurement_lost e.block m (sameState ▸ timed) (list ▸ lost) (fun q below => list ▸ first q below)
      exact (predictedOver_only _ only).after_acquireOn.exec_ends settled arrives (used.trans (list ▸ acquired))

/-- Settles O33: the cases of acceptance and placement, each followed by the frame's mark report. -/
theorem checkedFrameIsPlaced : Obligations.CheckedFrameIsPlaced := by
  unfold Obligations.CheckedFrameIsPlaced
  intro s f i settled arrives awake source passes quiet z c held
  refine ⟨fun unmapped => ⟨fun running copy => ?_, fun running apart inTime => ⟨fun room => ?_, fun full low => ?_⟩,
    fun absent empty => ?_⟩, fun e u found running how => ?_⟩
  · refine exec_modStation settled arrives ?_
    rw [receiveAudio_copy awake source passes quiet running copy]
    exact takeReport_unknown _ unmapped
  · refine exec_modStation settled arrives ?_
    rw [receiveAudio_placed awake source passes quiet running apart inTime, placed_room room]
    exact takeReport_unknown _ unmapped
  · intro reference rank named start least
    have lowest : lowestCounter (rankReference s.stations[i] c) c s.stations[i].window = low :=
      lowestCounter_eq named start least
    have evicted : receiveAudio f s = placed i f s := by
      rw [receiveAudio_placed awake source passes quiet running apart inTime]
      exact takeReport_unknown _ unmapped
    rw [placed_full full lowest] at evicted
    refine (exec_modStation settled arrives evicted).trans (congrArg Host.Outcome.next (modStation_congr ?_))
    rw [raiseEvicted_eq]
    rfl
  · have received : receiveAudio f s = modStation i (fun x => { x with window := [held] }) (enterAcquire i (heard i s)) := by
      rw [receiveAudio_absent awake source passes quiet absent empty]
      refine takeReport_unknown _ ?_
      have history : (enterAcquire i (heard i s)).timebase = s.timebase := by
        rw [((OnlyStation.refl i (heard i s)).after_enterAcquire).frame]
        rfl
      rw [modStation_timebase, history]
      exact unmapped
    have only : OnlyStation i s (modStation i (fun x => { x with window := [held] }) (enterAcquire i (heard i s))) :=
      (OnlyStation.refl i s).after_modStation.after_enterAcquire.after_modStation
    obtain ⟨t, run, ends⟩ := only.exec_ends settled arrives received
    obtain ⟨stations, management, frame⟩ := only.ended ends
    have station : t.stations[i] = { ({ z with silence := 0 } : Station).toAcquire with window := [held] } := by
      rw [stations, modStation_station_self, enterAcquire_station, heard_station]
    refine ⟨t, run, ?_, fun bare => ?_, fun k other => ?_, ?_, frame⟩
    · rw [station]
      rfl
    · rw [station]
      exact (congrArg (List.map _) bare).trans List.map_nil
    · rw [stations]
      exact only.others k other
    · rw [flagSet, management]
      refine enterAcquire_flagSet (s := heard i s) ?_
      rw [heard_station]
      exact fun acquires => StationState.noConfusion (absent.symm.trans acquires)
  · rcases how with ⟨copy, rfl⟩ | ⟨apart, inTime, room, rfl⟩
    · exact exec_reported settled arrives found rfl rfl (receiveAudio_copy awake source passes quiet running copy)
    · refine exec_reported settled arrives found rfl rfl ?_
      rw [receiveAudio_placed awake source passes quiet running apart inTime, placed_room room]
      rfl

end Sys2Proof.Machine
end


section
/-!
PROOFS. Late frames and FORMAT errors (R26, R28, R33, R35, R36, R38, R39, R54): what one count leaves in the station, and where a frame
comes to one.
-/

namespace Sys2Proof.Machine

variable {s t : State} {i : Fin 16} {f : Frame}

/-! ## Late frames (R28, R35, R36, R38) -/

theorem satInc8_below {n : Nat} (below : n < 255) : satInc8 n = n + 1 := if_pos below

theorem modStation_stations (i : Fin 16) (g : Station → Station) (s : State) :
    (modStation i g s).stations = modifyAt s.stations i g := rfl

/-- A late frame below the threshold is counted. -/
theorem countLate_counts (below : s.stations[i].lateCount < 255)
    (short : s.stations[i].lateCount + 1 ≠ (s.entry i).lateThreshold) :
    countLate i s = modStation i (fun x => { x with lateCount := s.stations[i].lateCount + 1 }) s := by
  unfold countLate
  dsimp only
  rw [if_neg (by rw [takesThreshold_satInc8]; exact fun taken => short taken.2), satInc8_below below]

/-- A late frame that reaches the threshold takes it. -/
theorem countLate_takes (below : s.stations[i].lateCount < 255)
    (reached : s.stations[i].lateCount + 1 = (s.entry i).lateThreshold) :
    countLate i s = lateEffect i (modStation i (fun x => { x with lateCount := satInc8 s.stations[i].lateCount }) s) :=
  if_pos ((takesThreshold_satInc8 _ _).mpr ⟨below, reached⟩)

/-- The LATE threshold before D rises: the flag, and a count of 0. -/
def lateNoted (i : Fin 16) (s : State) : State :=
  modStation i (fun x => { x with lateCount := 0 }) (raise .stationThreshold s)

theorem lateNoted_stations (i : Fin 16) (g : Station → Station) (s : State) :
    (lateNoted i (modStation i g s)).stations = (modStation i (fun x => { g x with lateCount := 0 }) s).stations := by
  unfold lateNoted
  rw [modStation_stations, raise_stations, ← modStation_stations, modStation_modStation]

theorem lateEffect_eq (i : Fin 16) (s : State) : lateEffect i s =
    { lateNoted i s with assembler := { s.assembler with closeDelay :=
        if s.assembler.closeDelay < 8 then s.assembler.closeDelay + 1 else s.assembler.closeDelay } } := by
  have assembler : (lateNoted i s).assembler = s.assembler := raise_assembler _ s
  unfold lateEffect
  dsimp only
  rw [show modStation i (fun st => { st with lateCount := 0 }) (raise .stationThreshold s) = lateNoted i s from rfl, assembler]
  rfl

/-- D is none of what the end of a command looks at. -/
theorem OnlyStation.settle_closeDelay (h : OnlyStation i s t) (settled : s.Settled) (d : Nat) :
    ∃ p, Machine.settle { t with assembler := { s.assembler with closeDelay := d } } =
      { t with assembler := { s.assembler with closeDelay := d }, ports := p } :=
  settled.settle_same (t := { t with assembler := { s.assembler with closeDelay := d } })
    (by rw [h.frame]) (by rw [h.frame]) (by rw [h.frame]) (by rw [h.frame])

/-- A late frame without events whose mark is not known comes to one LATE count. -/
theorem receiveAudio_late (awake : s.part.awake = true) (source : stationOf s f = some i) (passes : passesChecks s i f = true)
    (quiet : audioEventCount f.body = 0) (running : s.stations[i].state.running = true)
    (unmapped : ∀ e ∈ s.timebase.history, e.mark ≠ audioMark f.body)
    (fresh : ∀ h ∈ s.stations[i].window, h.counter ≠ audioCounter f.body)
    (late : isLate s.stations[i] (audioCounter f.body) = true) :
    receiveAudio f s = countLate i (heard i s) := by
  have history : (countLate i (heard i s)).timebase = s.timebase := by
    unfold countLate lateEffect
    dsimp only
    split
    · exact raise_timebase _ _
    · rfl
  rw [receiveAudio_running awake source passes running,
    placeFrame_late ((placeCase_heard i _ s).trans (placeCase_late fresh late)), reportAndEvents_quiet quiet]
  exact takeReport_unknown _ (by rw [history]; exact unmapped)

/-- Settles O34: the LATE count, and D's rise at its threshold. -/
theorem lateFrameIsCounted : Obligations.LateFrameIsCounted := by
  unfold Obligations.LateFrameIsCounted
  intro s f i r settled arrives awake source running passes quiet unmapped fresh released ended below
  have late : isLate s.stations[i] (audioCounter f.body) = true := by
    rw [isLate, released]
    exact decide_eq_true ended
  have received := receiveAudio_late awake source passes quiet running unmapped fresh late
  have counted : (heard i s).stations[i].lateCount = s.stations[i].lateCount := by rw [heard_station]
  have entry : (heard i s).entry i = s.entry i := modStation_entry s i i _
  refine ⟨fun short => ?_, fun reached => ?_⟩
  · refine exec_modStation settled arrives (received.trans ?_)
    rw [countLate_counts (by rwa [counted]) (by rwa [counted, entry]), heard, modStation_modStation]
    refine modStation_congr ?_
    rw [show (modStation i (fun x => { x with silence := 0 }) s).stations[i].lateCount = s.stations[i].lateCount from counted]
  · rw [countLate_takes (by rwa [counted]) (by rwa [counted, entry]), lateEffect_eq] at received
    have only : OnlyStation i s (lateNoted i
        (modStation i (fun x => { x with lateCount := satInc8 (heard i s).stations[i].lateCount }) (heard i s))) :=
      (OnlyStation.refl i s).after_modStation.after_modStation.after_raise.after_modStation
    obtain ⟨p, ends⟩ := only.settle_closeDelay settled
      (if s.assembler.closeDelay < 8 then s.assembler.closeDelay + 1 else s.assembler.closeDelay)
    have run := (exec_stationAudio f arrives).trans (congrArg Host.Outcome.next ((congrArg settle received).trans ends))
    refine ⟨_, run, (lateNoted_stations i _ _).trans ?_, rfl, raise_sets _ _, ?_⟩
    · rw [heard, modStation_modStation]
    · rw [only.frame]

/-! ## FORMAT errors (R26, R33, R39) -/

/-- The occurrence that a FORMAT error writes (R178). -/
def formatOccurrence (i : Fin 16) (f : Frame) (s : State) : Occurrence :=
  { subject := BitVec.ofNat 48 i.val, block := s.timebase.blockNumber, detail := frameStart f }

/-- One FORMAT error counted and logged, its threshold not looked at. -/
def formatCounted (i : Fin 16) (f : Frame) (s : State) : State :=
  logFault faultFrameFormat (formatOccurrence i f s)
    (modStation i (fun x => { x with formatCount := satInc8 x.formatCount }) s)

/-- The count takes the FORMAT threshold (R36). -/
def formatTaken (i : Fin 16) (s : State) : Prop :=
  s.stations[i].formatCount < 255 ∧ s.stations[i].formatCount + 1 = (s.entry i).formatThreshold

theorem countFormat_counts (short : ¬ formatTaken i s) : countFormat i f s = formatCounted i f s := by
  refine (if_neg (by rw [takesThreshold_satInc8]; exact short)).trans ?_
  exact congrArg (logFault _ _) (modStation_congr rfl)

theorem countFormat_takes (taken : formatTaken i s) : countFormat i f s = formatEffect i (formatCounted i f s) := by
  refine (if_pos ((takesThreshold_satInc8 _ _).mpr taken)).trans ?_
  exact congrArg (fun u => formatEffect i (logFault _ _ u)) (modStation_congr rfl)

theorem formatEffect_faults (i : Fin 16) (s : State) : (formatEffect i s).management.faults = s.management.faults := by
  unfold formatEffect
  dsimp only
  split
  · rw [enterAcquire_faults]
    exact raise_management_faults _ s
  · exact raise_management_faults _ s

theorem countFormat_class (i : Fin 16) (f : Frame) (s : State) : (countFormat i f s).management.faults[faultFrameFormat] =
    (s.management.faults[faultFrameFormat]).record (formatOccurrence i f s) := by
  have counted : (formatCounted i f s).management.faults[faultFrameFormat] =
      (s.management.faults[faultFrameFormat]).record (formatOccurrence i f s) := logFault_class_self _ _ _
  by_cases taken : formatTaken i s
  · rw [countFormat_takes taken, formatEffect_faults, counted]
  · rw [countFormat_counts taken, counted]

theorem formatEffect_flagSet (i : Fin 16) (s : State) : flagSet (formatEffect i s) .stationThreshold = true := by
  unfold formatEffect
  dsimp only
  split
  · exact (OnlyStation.refl i _).after_enterAcquire.flags _ (raise_sets _ _)
  · exact raise_sets _ _

/-- The threshold empties the window and the count, and sends a running station to ACQUIRE (R39, R54). -/
theorem formatEffect_station (i : Fin 16) (s : State) : (formatEffect i s).stations[i] =
    let x := { s.stations[i] with window := [], formatCount := 0 }
    if s.stations[i].state.running then x.toAcquire else x := by
  have emptied : (modStation i (fun x => { x with window := [], formatCount := 0 })
      (raise .stationThreshold s)).stations[i] = { s.stations[i] with window := [], formatCount := 0 } := by
    rw [modStation_station_self, raise_stations]
  have state := congrArg Station.state emptied
  unfold formatEffect
  dsimp only at state ⊢
  rw [state]
  split
  · rw [enterAcquire_station, emptied]
  · rw [emptied]

/-! ## Where a frame comes to a FORMAT error (R26, R28, R33) -/

/-- The state in which a frame was heard and left a window of the given frames. -/
def leftWith (i : Fin 16) (w : List HeldFrame) (s : State) : State :=
  modStation i (fun x => { x with silence := 0, window := w }) s

theorem heard_leftWith (i : Fin 16) (s : State) : heard i s = leftWith i s.stations[i].window s := modStation_congr rfl

theorem eventMeaning_unknown {code : Byte} (unknown : code.toNat = 0 ∨ 8 < code.toNat) : eventMeaning code = none := by
  rcases unknown with zero | high
  · rw [eventMeaning, zero]
    rfl
  · obtain ⟨m, beyond⟩ := Nat.exists_eq_add_of_le' (Nat.succ_le_of_lt high)
    rw [eventMeaning, beyond]
    rfl

/-- An event of an unknown code, or of a channel that the station does not have, comes to a FORMAT error (R33, step 1). -/
theorem takeEvent_invalid {e : ButtonEvent}
    (invalid : e.code.toNat = 0 ∨ 8 < e.code.toNat ∨ (s.entry i).channels ≤ e.channel.toNat) :
    takeEvent i f s e = countFormat i f s := by
  unfold takeEvent
  split
  · next m known =>
    refine if_neg fun within => ?_
    rcases invalid with zero | high | beyond
    · rw [eventMeaning_unknown (.inl zero)] at known
      cases known
    · rw [eventMeaning_unknown (.inr high)] at known
      cases known
    · omega
  · rfl

theorem takeEvents_single {e : ButtonEvent} (only : audioEvents f.body = [e]) (i : Fin 16) (s : State) :
    takeEvents i f s = takeEvent i f s e := by
  rw [takeEvents, only]
  rfl

section
variable (awake : s.part.awake = true) (source : stationOf s f = some i)
include awake source

theorem receiveAudio_unchecked (fails : passesChecks s i f = false) (known : s.stations[i].state ≠ .absent) :
    receiveAudio f s = countFormat i f (leftWith i s.stations[i].window s) := by
  rw [receiveAudio_failed awake source fails, acceptFrame_known known, heard_leftWith]

section
variable (passes : passesChecks s i f = true) (running : s.stations[i].state.running = true)
  (inTime : ∀ r, s.stations[i].releasePoint = some r → 0 < counterDiff (audioCounter f.body + 48) r)
include passes running inTime

theorem receiveAudio_overlap (fresh : ∀ h ∈ s.stations[i].window, h.counter ≠ audioCounter f.body)
    (shared : ∃ h ∈ s.stations[i].window, (counterDiff (audioCounter f.body) h.counter).natAbs < 48) :
    receiveAudio f s = countFormat i f (leftWith i s.stations[i].window s) := by
  have overlap := placeCase_overlap fresh ((isLate_eq_false_iff _ _).mpr inTime) shared
  rw [receiveAudio_running awake source passes running,
    placeFrame_overlap ((placeCase_heard i _ s).trans overlap), heard_leftWith]

/-- A placed frame's only event is taken after a report of an unknown mark. -/
theorem receiveAudio_event {e : ButtonEvent}
    (apart : ∀ h ∈ s.stations[i].window, 48 ≤ (counterDiff (audioCounter f.body) h.counter).natAbs)
    (room : s.stations[i].window.length < 2 ^ (s.entry i).windowOrder)
    (unmapped : ∀ h ∈ s.timebase.history, h.mark ≠ audioMark f.body) (only : audioEvents f.body = [e]) :
    receiveAudio f s = takeEvent i f (leftWith i (s.stations[i].window ++ [heldOf f]) s) e := by
  have placement := placeCase_placement apart ((isLate_eq_false_iff _ _).mpr inTime)
  have joined : modStation i (fun x => x.place (windowSize ((heard i s).entry i)) (heldOf f)) (heard i s) =
      leftWith i (s.stations[i].window ++ [heldOf f]) s := by
    rw [heard, modStation_modStation, modStation_entry]
    exact (placed_room room f).trans (modStation_congr rfl)
  rw [receiveAudio_running awake source passes running,
    placeFrame_placement ((placeCase_heard i _ s).trans placement), joined, reportAndEvents,
    takeReport_unknown (s := leftWith i _ s) _ unmapped, takeEvents_single only]

end
end

/-! ## What a FORMAT error leaves -/

theorem formatCounted_leftWith (i : Fin 16) (f : Frame) (w : List HeldFrame) (s : State) :
    formatCounted i f (leftWith i w s) = logFault faultFrameFormat (formatOccurrence i f s) (modStation i (fun x =>
      { x with silence := 0, window := w, formatCount := satInc8 s.stations[i].formatCount }) s) := by
  unfold formatCounted leftWith
  rw [modStation_modStation]
  exact congrArg (logFault _ _) (modStation_congr rfl)

/-- A FORMAT error below its threshold leaves the station's count and the Fault Log; at the threshold the station's window is emptied. -/
theorem exec_countFormat {w : List HeldFrame} (settled : s.Settled) (arrives : arrivesAs s .A f .stationAudio = true)
    (received : receiveAudio f s = countFormat i f (leftWith i w s)) :
    ∃ t, exec (.stationAudio f) s = .next t ∧
      t.management.faults[faultFrameFormat] = (s.management.faults[faultFrameFormat]).record (formatOccurrence i f s) ∧
      (¬ formatTaken i s → t = { modStation i (fun x =>
          { x with silence := 0, window := w, formatCount := satInc8 s.stations[i].formatCount }) s with
        management := { s.management with faults := t.management.faults } }) ∧
      (formatTaken i s → flagSet t .stationThreshold = true ∧ (∀ k : Fin 16, k ≠ i → t.stations[k] = s.stations[k]) ∧
        t = { s with stations := t.stations, management := t.management, ports := t.ports } ∧
        t.stations[i] =
          let x := { s.stations[i] with silence := 0, window := [], formatCount := 0 }
          if s.stations[i].state.running then x.toAcquire else x) := by
  have left : (leftWith i w s).stations[i] = { s.stations[i] with silence := 0, window := w } := modStation_station_self s i _
  have entry : (leftWith i w s).entry i = s.entry i := modStation_entry s i i _
  have sameTaken : formatTaken i (leftWith i w s) = formatTaken i s := by
    unfold formatTaken
    rw [left, entry]
  have only : OnlyStation i s (countFormat i f (leftWith i w s)) := (OnlyStation.refl i s).after_modStation.after_countFormat
  obtain ⟨t, run, ends⟩ := only.exec_ends settled arrives received
  obtain ⟨stations, management, frame⟩ := only.ended ends
  refine ⟨t, run, ?_, fun short => ?_, fun taken => ⟨?_, fun k other => ?_, frame, ?_⟩⟩
  · rw [management]
    exact countFormat_class i f _
  · have counted := countFormat_counts (f := f) (sameTaken ▸ short)
    have quiet : (countFormat i f (leftWith i w s)).Settled := by
      rw [counted]
      exact settled.congr rfl (fun p => by cases p <;> rfl) (fun _ => rfl) rfl rfl rfl rfl
    have same : t = formatCounted i f (leftWith i w s) := by
      have ran := (exec_stationAudio f arrives).symm.trans run
      rw [received, settle_of_settled _ quiet, counted] at ran
      exact (Host.Outcome.next.inj ran).symm
    rw [same, formatCounted_leftWith]
    rfl
  · rw [flagSet, management, countFormat_takes (sameTaken ▸ taken)]
    exact formatEffect_flagSet i _
  · rw [stations]
    exact only.others k other
  · rw [stations, countFormat_takes (sameTaken ▸ taken), formatEffect_station]
    have counted : (formatCounted i f (leftWith i w s)).stations[i] =
        { s.stations[i] with silence := 0, window := w, formatCount := satInc8 s.stations[i].formatCount } := by
      rw [formatCounted, logFault_stations, modStation_station_self, left]
    rw [counted]

/-- Settles O35: each of the three ways to a FORMAT error, and what one leaves. -/
theorem failedCheckCountsFormat : Obligations.FailedCheckCountsFormat := by
  unfold Obligations.FailedCheckCountsFormat
  intro s f i window arrives awake source known settled z c failed notLate overlapping badEvent how n taken
  have received : receiveAudio f s = countFormat i f (leftWith i window s) := by
    rcases how with ⟨fails | ⟨passes, running, inTime, fresh, shared⟩, rfl⟩ |
      ⟨⟨passes, running, inTime, apart, room, unmapped, e, only, invalid⟩, rfl⟩
    · exact receiveAudio_unchecked awake source fails known
    · exact receiveAudio_overlap awake source passes running inTime fresh shared
    · exact (receiveAudio_event awake source passes running inTime apart room unmapped only).trans (takeEvent_invalid invalid)
  obtain ⟨t, run, logged, counts, takes⟩ := exec_countFormat settled arrives received
  obtain ⟨first, repeated⟩ := FaultClass.record_cases (s.management.faults[faultFrameFormat]) (formatOccurrence i f s)
  refine ⟨t, run, ?_, ?_, counts, fun reached => ?_⟩
  · rw [logged]
    exact first
  · rw [logged]
    exact repeated
  · obtain ⟨flag, others, frame, station⟩ := takes reached
    refine ⟨flag, others, frame, fun stopped => ?_, fun running => ?_⟩
    · rw [station]
      dsimp only
      rw [if_neg (by rw [stopped]; decide)]
    · dsimp only at station
      rw [if_pos running] at station
      rw [station]
      exact ⟨rfl, rfl, toAcquisition_unresolved _⟩

end Sys2Proof.Machine
end


section
/-!
PROOFS. Button events (R33, R34, R65 to R67, R80 to R84, R140): what the buttons mean, what a mode button and a toggle make of the
state, and the way of a frame's only event.
-/

namespace Sys2Proof.Machine

variable {s t : State} {i : Fin 16} {f : Frame} {e : ButtonEvent}

/-! ## Event codes (R182) -/

/-- The code of a mode button. -/
def ModeEvent.code : ModeEvent → Nat
  | .goOnRecord => 3
  | .goOffRecord => 4
  | .beginSidebar => 5
  | .endSidebar => 6
  | .beginClosed => 7
  | .callRecess => 8

theorem exists_modeEvent {n : Nat} (low : 3 ≤ n) (high : n ≤ 8) : ∃ x : ModeEvent, n = x.code := by
  interval_cases n
  · exact ⟨.goOnRecord, rfl⟩
  · exact ⟨.goOffRecord, rfl⟩
  · exact ⟨.beginSidebar, rfl⟩
  · exact ⟨.endSidebar, rfl⟩
  · exact ⟨.beginClosed, rfl⟩
  · exact ⟨.callRecess, rfl⟩

theorem eventMeaning_mode {code : Byte} {x : ModeEvent} (button : code.toNat = x.code) :
    eventMeaning code = some (.mode x) := by
  rw [eventMeaning, button]
  cases x <;> rfl

theorem eventMeaning_confer {code : Byte} {down : Bool} (button : code.toNat = if down then 1 else 2) :
    eventMeaning code = some (.confer down) := by
  rw [eventMeaning, button]
  cases down <;> rfl

/-! ## Mode buttons (R65 to R68) -/

/-- The button pushes onto a full Mode Stack (R66). -/
def ModeEvent.overflows (x : ModeEvent) (s : State) : Bool := decide (4 ≤ s.mode.stack.length ∧ (x.code = 5 ∨ x.code = 7))

theorem overflows_of {x : ModeEvent} (full : 4 ≤ s.mode.stack.length ∧ (x.code = 5 ∨ x.code = 7)) :
    x.overflows s = true := decide_eq_true full

theorem pushPair_eq (m : CourtMode) (p : ModePair) :
    pushPair m p = { current := m, stack := p.stack.drop (p.stack.length - 3) ++ [p.current] } := by
  have four : stackSize = 4 := rfl
  unfold pushPair
  rw [four]
  split
  · rw [show p.stack.length - 3 = 0 by omega, List.drop_zero]
  · rw [show p.stack.length - 4 + 1 = p.stack.length - 3 by omega]

theorem pushModeTo_eq {x : ModeEvent} (pushes : x.code = 5 ∨ x.code = 7) (m : CourtMode) (s : State) :
    pushModeTo m s = applyMode (x.overflows s)
      { current := m, stack := s.mode.stack.drop (s.mode.stack.length - 3) ++ [s.mode.current] } s := by
  have overflow : pushOverflows s.modePair = x.overflows s := by simp [pushOverflows, ModeEvent.overflows, pushes]; rfl
  rw [pushModeTo, overflow, pushPair_eq]
  rfl

/-- END_SIDEBAR in SIDEBAR pops the newest saved mode, or goes to OFF_RECORD (R67). -/
theorem endSidebarPair_eq {p : ModePair} (sidebar : p.current = .sidebar) : endSidebarPair p =
    (popPair p).getD { current := .offRecord, stack := [] } := if_pos sidebar

/-- A mode button that acts is the mode operation it stands for. -/
theorem applyModeEvent_pressed {x : ModeEvent} {m : CourtMode} {stack : List CourtMode}
    (pressed : modeButton x.code s.mode.current s.mode.stack = some (m, stack)) :
    applyModeEvent x s = applyMode (x.overflows s) { current := m, stack := stack } s := by
  have replaces {n : Nat} (replacing : n ≠ 5 ∧ n ≠ 7) :
      decide (4 ≤ s.mode.stack.length ∧ (n = 5 ∨ n = 7)) = false := by simp [replacing]
  cases x with
  | goOnRecord => cases pressed; rw [ModeEvent.overflows, replaces (by decide)]; rfl
  | goOffRecord => cases pressed; rw [ModeEvent.overflows, replaces (by decide)]; rfl
  | callRecess => cases pressed; rw [ModeEvent.overflows, replaces (by decide)]; rfl
  | beginSidebar => cases pressed; exact pushModeTo_eq (.inl rfl) _ s
  | beginClosed => cases pressed; exact pushModeTo_eq (.inr rfl) _ s
  | endSidebar =>
    rw [ModeEvent.overflows, replaces (by decide)]
    change endSidebar s = _
    have pair : endSidebarPair s.modePair = { current := m, stack := stack } := by
      by_cases sidebar : s.mode.current = .sidebar
      · rw [endSidebarPair_eq sidebar]
        simp only [modeButton, ModeEvent.code, sidebar, if_true] at pressed
        cases last : s.mode.stack.getLast? with
        | none => simp_all [popPair, State.modePair]
        | some y => simp_all [popPair, State.modePair]
      · simp [modeButton, ModeEvent.code, sidebar] at pressed
    rw [endSidebar, pair]

/-- A mode button that is dropped leaves everything (R67). -/
theorem applyModeEvent_dropped {x : ModeEvent} (dropped : modeButton x.code s.mode.current s.mode.stack = none) :
    applyModeEvent x s = s := by
  cases x with
  | endSidebar =>
    have other : s.mode.current ≠ .sidebar := by
      intro sidebar
      simp only [modeButton, ModeEvent.code, sidebar, if_true] at dropped
      split at dropped <;> cases dropped
    have pair : endSidebarPair s.modePair = s.modePair := if_neg other
    change endSidebar s = s
    rw [endSidebar, pair, applyMode_eq, writeMode]
    simp [State.modePair]
  | goOnRecord | goOffRecord | callRecess | beginSidebar | beginClosed => cases dropped

/-- A mode operation was taken: the mode, the groups as they were, and its flags (R66, R68). -/
structure ModeSet (s : State) (overflow : Bool) (p : ModePair) (t : State) : Prop where
  mode : t.mode = { s.mode with current := p.current, stack := p.stack }
  groups : t.groups = s.groups
  changed : p.current ≠ s.mode.current ∨ p.stack ≠ s.mode.stack → flagSet t .modeChanged = true
  overflowed : overflow = true → flagSet t .modeStackOverflow = true

theorem applyMode_sets (overflow : Bool) (p : ModePair) (s : State) : ModeSet s overflow p (applyMode overflow p s) := by
  obtain ⟨x, q, m, l, e, frame⟩ := applyMode_frame overflow p s
  refine ⟨by rw [frame], by rw [frame], fun differs => applyMode_flags (writeMode_changed overflow fun same => ?_),
    fun overflows => ?_⟩
  · rcases differs with current | stack
    · exact current (congrArg ModePair.current same)
    · exact stack (congrArg ModePair.stack same)
  · subst overflows
    exact applyMode_flags (writeMode_overflow p s)

/-- A mode operation clears no flag. -/
theorem applyMode_keeps {overflow : Bool} {p : ModePair} {g : EventFlag} (set : flagSet s g = true) :
    flagSet (applyMode overflow p s) g = true := by
  refine applyMode_flags ?_
  have changed : flagSet (if p = s.modePair then { s with mode := { s.mode with current := p.current, stack := p.stack } }
      else raise .modeChanged { s with mode := { s.mode with current := p.current, stack := p.stack } }) g = true := by
    split
    · exact set
    · exact raise_keeps _ _ _ set
  unfold writeMode
  dsimp only
  split
  · exact raise_keeps _ _ _ changed
  · exact changed

/-! ## Toggle points (R82 to R84) -/

/-- A counter raised to a bound that it lies before (R1). -/
def raisedTo (bound : Option Counter) (c : Counter) : Counter :=
  match bound with
  | some b => if counterDiff c b < 0 then b else c
  | none => c

/-- A raised point is marked when it moved. -/
theorem raisePoint_eq (bound : Option Counter) (c : Counter) (l : Bool) :
    raisePoint bound (c, l) = (raisedTo bound c, l || decide (raisedTo bound c ≠ c)) := by
  cases bound with
  | none => simp [raisePoint, raisedTo]
  | some b =>
    by_cases before : counterDiff c b < 0
    · have moved : b ≠ c := by
        rintro rfl
        rw [counterDiff_self] at before
        exact absurd before (by decide)
      simp [raisePoint, raisedTo, isBefore_iff, before, moved]
    · simp [raisePoint, raisedTo, isBefore_iff, before]

/-- The entry of a toggle: its point raised twice, LATE when it moved. -/
theorem toggleEntry_eq (down : Bool) (closed : Option Counter) (l : List Toggle) (c : Counter) :
    toggleEntry down closed l c =
      { down := down, point := raisedTo (newestPoint l) (raisedTo closed c),
        late := decide (raisedTo closed c ≠ c ∨ raisedTo (newestPoint l) (raisedTo closed c) ≠ raisedTo closed c) } := by
  rw [toggleEntry, raisePoint_eq, raisePoint_eq]
  simp

theorem laterOf_eq (a b : Counter) : laterOf a b = if counterDiff a b < 0 then b else a :=
  if_congr (isBefore_iff a b) rfl rfl

theorem eq_of_counterDiff_zero {a b : Counter} (zero : counterDiff a b = 0) : a = b := by
  have none_apart : a - b = 0 := BitVec.eq_of_toInt_eq (by simpa [counterDiff] using zero)
  exact sub_eq_zero.mp none_apart

/-- Of two counters that are not apart it does not matter which is kept. -/
theorem laterOf_eq_of_pos (a b : Counter) : laterOf a b = if 0 < counterDiff a b then a else b := by
  rw [laterOf_eq]
  rcases lt_trichotomy (counterDiff a b) 0 with before | same | after
  · rw [if_pos before, if_neg (by omega)]
  · rw [eq_of_counterDiff_zero same, ite_self, ite_self]
  · rw [if_neg (by omega), if_pos after]

/-! ## Toggles of a group (R80 to R84) -/

section
variable {g : Fin 8} {down : Bool} {c : Counter}

theorem takeToggle_ungrouped {n : Nat} (ungrouped : toggleGroup s.tables.active i n = none) :
    takeToggle i n down c s = s := by
  rw [takeToggle, ungrouped]

theorem takeToggle_grouped {n : Nat} (grouped : toggleGroup s.tables.active i n = some g) :
    takeToggle i n down c s = takeToggleOf g i down c s := by
  rw [takeToggle, grouped]

theorem takeToggleOf_repeated (same : s.groups[g].requested = down) : takeToggleOf g i down c s = s := if_pos same

/-- The request of a group set, and the lamps after it (R75, R82). -/
def requested (g : Fin 8) (down : Bool) (s : State) : State :=
  recomputeLamps (modGroup g (fun x => { x with requested := down }) s)

theorem takeToggleOf_idle (differs : s.groups[g].requested ≠ down)
    (idle : s.proceeding.state = .idle ∨ s.proceeding.state = .armed) : takeToggleOf g i down c s =
      recomputeLamps (modGroup g (fun x => { x with requested := down, engaged := down }) s) :=
  (if_neg differs).trans (if_pos idle)

theorem takeToggleOf_proceeding (differs : s.groups[g].requested ≠ down) (notIdle : s.proceeding.state ≠ .idle)
    (notArmed : s.proceeding.state ≠ .armed) : takeToggleOf g i down c s = recordToggle g i down c (requested g down s) :=
  (if_neg differs).trans (if_neg fun out => out.elim notIdle notArmed)

/-- From the first state to the second group g may have changed, beside the lamps, the flags and the ports. -/
structure OnlyGroup (g : Fin 8) (s t : State) : Prop where
  mode : t.mode = s.mode
  others : ∀ k : Fin 8, k ≠ g → t.groups[k] = s.groups[k]

theorem OnlyGroup.refl (g : Fin 8) (s : State) : OnlyGroup g s s := ⟨rfl, fun _ _ => rfl⟩

theorem OnlyGroup.after_modGroup (h : OnlyGroup g s t) {x : ConferGroup → ConferGroup} : OnlyGroup g s (modGroup g x t) :=
  ⟨h.mode, fun k other => (modGroup_group_other t g k x other).trans (h.others k other)⟩

theorem OnlyGroup.congr {u : State} (h : OnlyGroup g s t) (mode : u.mode = t.mode) (groups : u.groups = t.groups) :
    OnlyGroup g s u := ⟨mode.trans h.mode, fun k other => by rw [groups]; exact h.others k other⟩

theorem OnlyGroup.after_recomputeLamps (h : OnlyGroup g s t) : OnlyGroup g s (recomputeLamps t) :=
  h.congr (recomputeLamps_mode t) (recomputeLamps_groups t)

theorem OnlyGroup.after_raise (h : OnlyGroup g s t) {x : EventFlag} : OnlyGroup g s (raise x t) :=
  h.congr (raise_mode x t) (raise_groups x t)

theorem OnlyGroup.after_takeToggleOf (h : OnlyGroup g s t) : OnlyGroup g s (takeToggleOf g i down c t) := by
  unfold takeToggleOf
  split
  · exact h
  · split
    · exact h.after_modGroup.after_recomputeLamps
    · unfold recordToggle
      split
      · exact h.after_modGroup.after_recomputeLamps.after_modGroup
      · split
        · exact h.after_modGroup.after_recomputeLamps.after_modGroup
        · exact h.after_modGroup.after_recomputeLamps.after_modGroup.after_raise

theorem requested_group (g : Fin 8) (down : Bool) (s : State) :
    (requested g down s).groups[g] = { s.groups[g] with requested := down } := by
  rw [requested, recomputeLamps_groups, modGroup_group_self]

theorem requested_stations (g : Fin 8) (down : Bool) (s : State) : (requested g down s).stations = s.stations := by
  rw [requested, recomputeLamps_stations]
  rfl

theorem takeToggleOf_idle_group (differs : s.groups[g].requested ≠ down)
    (idle : s.proceeding.state = .idle ∨ s.proceeding.state = .armed) :
    (takeToggleOf g i down c s).groups[g] = { s.groups[g] with requested := down, engaged := down } := by
  rw [takeToggleOf_idle differs idle, recomputeLamps_groups, modGroup_group_self]

section
variable (differs : s.groups[g].requested ≠ down) (notIdle : s.proceeding.state ≠ .idle)
  (notArmed : s.proceeding.state ≠ .armed)
include differs notIdle notArmed

/-- With a place in the list the toggle is entered (R82). -/
theorem takeToggleOf_entered (free : s.groups[g].forced = false) (room : s.groups[g].toggles.length < 8) :
    (takeToggleOf g i down c s).groups[g] = { s.groups[g] with
      requested := down
      toggles := s.groups[g].toggles ++ [toggleEntry down s.stations[i].releasePoint s.groups[g].toggles c] } := by
  have group := requested_group g down s
  rw [takeToggleOf_proceeding differs notIdle notArmed, recordToggle, if_neg, if_pos]
  · rw [modGroup_group_self, group, requested_stations]
  · rw [group]
    exact room
  · rw [group, free]
    decide

/-- A full list makes the group FORCED (R83). -/
theorem takeToggleOf_forces (free : s.groups[g].forced = false) (full : 8 ≤ s.groups[g].toggles.length) :
    flagSet (takeToggleOf g i down c s) .conferForced = true ∧
    (takeToggleOf g i down c s).groups[g] = ({ s.groups[g] with requested := down } : ConferGroup).force c := by
  have group := requested_group g down s
  have forced : takeToggleOf g i down c s =
      raise .conferForced (modGroup g (ConferGroup.force c) (requested g down s)) := by
    rw [takeToggleOf_proceeding differs notIdle notArmed, recordToggle, if_neg, if_neg]
    · rw [group]
      exact Nat.not_lt.mpr full
    · rw [group, free]
      decide
  rw [forced, raise_groups, modGroup_group_self, group]
  exact ⟨raise_sets _ _, rfl⟩

/-- A FORCED group keeps its list (R84). -/
theorem takeToggleOf_discards (forced : s.groups[g].forced = true) :
    (takeToggleOf g i down c s).groups[g] = ({ s.groups[g] with requested := down } : ConferGroup).discardForced c := by
  have group := requested_group g down s
  rw [takeToggleOf_proceeding differs notIdle notArmed, recordToggle, if_pos, modGroup_group_self, group]
  rw [group]
  exact forced

end
end

/-! ## The event (R33, R34, R140) -/

theorem takeEvent_known {m : EventMeaning} (known : eventMeaning e.code = some m)
    (channel : e.channel.toNat < (s.entry i).channels) : takeEvent i f s e = takeValidEvent i e m s := by
  rw [takeEvent, known]
  exact if_pos channel

theorem takeValidEvent_repeated (m : EventMeaning) (repeated : isRepeat s.stations[i].newestSerial e.serial = true) :
    takeValidEvent i e m s = s := if_pos repeated

/-- The event's serial has entered the history (R33). -/
def serialNoted (i : Fin 16) (e : ButtonEvent) (s : State) : State :=
  modStation i (fun x => { x with newestSerial := some e.serial }) s

theorem takeValidEvent_awake (m : EventMeaning) (fresh : isRepeat s.stations[i].newestSerial e.serial = false)
    (awake : s.part.awake = true) : takeValidEvent i e m s = routeAwake i e m (serialNoted i e s) :=
  (if_neg (by rw [fresh]; decide)).trans (if_pos awake)

theorem takeValidEvent_standby (m : EventMeaning) (fresh : isRepeat s.stations[i].newestSerial e.serial = false)
    (standby : s.part.awake = false) : takeValidEvent i e m s = routeStandby i m (serialNoted i e s) :=
  (if_neg (by rw [fresh]; decide)).trans (if_neg (by rw [standby]; decide))

/-- In STANDBY a checked frame is looked at for its events alone (R27). -/
theorem receiveAudio_standby (standby : s.part.awake = false) (source : stationOf s f = some i)
    (passes : passesChecks s i f = true) (only : audioEvents f.body = [e]) : receiveAudio f s = takeEvent i f s e := by
  rw [receiveAudio, source]
  dsimp only
  rw [receiveFrom, if_neg (by rw [standby]; decide), if_pos passes, takeEvents_single only]

theorem routeAwake_confer (i : Fin 16) (e : ButtonEvent) (down : Bool) (s : State) :
    routeAwake i e (.confer down) s = takeToggle i e.channel.toNat down e.counter s := rfl

/-- A mode button that is not the bench's, or that the Mode Unit drops, leaves the state. -/
theorem routeAwake_drops {x : ModeEvent} (dropped : (s.entry i).benchAuthority = false ∨
    modeButton x.code s.mode.current s.mode.stack = none) : routeAwake i e (.mode x) s = s := by
  unfold routeAwake
  dsimp only
  split
  · next bench =>
    rcases dropped with plain | none_
    · rw [plain] at bench
      cases bench
    · exact applyModeEvent_dropped none_
  · rfl

theorem routeAwake_acts {x : ModeEvent} {m : CourtMode} {stack : List CourtMode} (bench : (s.entry i).benchAuthority = true)
    (pressed : modeButton x.code s.mode.current s.mode.stack = some (m, stack)) :
    ModeSet s (x.overflows s) { current := m, stack := stack } (routeAwake i e (.mode x) s) := by
  have acts : routeAwake i e (.mode x) s = applyModeEvent x s := if_pos bench
  rw [acts, applyModeEvent_pressed pressed]
  exact applyMode_sets _ _ s

/-- What the end of the command leaves of a mode operation. -/
theorem ModeSet.settle {overflow : Bool} {p : ModePair} (set : ModeSet s overflow p t) :
    ModeSet s overflow p (Machine.settle t) := by
  obtain ⟨mode, groups, changed, overflowed⟩ := set
  refine ⟨?_, ?_, ?_, ?_⟩
  · rwa [settle_mode]
  · rwa [settle_groups]
  · rwa [settle_flagSet]
  · rwa [settle_flagSet]

/-- In STANDBY a toggle, and a mode button without bench authority and wake enable, only enters the history (R27). -/
theorem routeStandby_drops {m : EventMeaning}
    (dropped : ∀ x, m = .mode x → (s.entry i).benchAuthority = false ∨ (s.entry i).wakeEnable = false) :
    routeStandby i m s = s := by
  cases m with
  | confer down => rfl
  | mode x =>
    refine if_neg ?_
    rw [Bool.and_eq_true]
    rintro ⟨bench, wakes⟩
    rcases dropped x rfl with plain | asleep
    · rw [plain] at bench
      cases bench
    · rw [asleep] at wakes
      cases wakes

theorem routeStandby_wakes {x : ModeEvent} (bench : (s.entry i).benchAuthority = true)
    (wakes : (s.entry i).wakeEnable = true) : routeStandby i (.mode x) s = applyModeEvent x (wake (.bench i) s) :=
  if_pos (by rw [bench, wakes]; rfl)

/-- What a mode event changes (R66, R68). -/
theorem applyModeEvent_frame (x : ModeEvent) (s : State) : ∃ v q m l e n, applyModeEvent x s =
    { s with mode := n, stations := v, ports := q, management := m, tally := l, engine := e } := by
  have framed (o : Bool) (p : ModePair) : ∃ v q m l e n, applyMode o p s =
      { s with mode := n, stations := v, ports := q, management := m, tally := l, engine := e } := by
    obtain ⟨v, q, m, l, e, frame⟩ := applyMode_frame o p s
    exact ⟨v, q, m, l, e, _, frame⟩
  cases x <;> exact framed _ _

theorem applyModeEvent_keeps {x : ModeEvent} {g : EventFlag} (set : flagSet s g = true) :
    flagSet (applyModeEvent x s) g = true := by
  cases x <;> exact applyMode_keeps set

/-! ## Settling the obligation -/

section
variable (arrives : arrivesAs s .A f .stationAudio = true) (source : stationOf s f = some i)
  (passes : passesChecks s i f = true) (only : audioEvents f.body = [e])
  (channel : e.channel.toNat < (s.entry i).channels)
include arrives source passes only channel

/-- In STANDBY the frame comes to its event. -/
theorem exec_event_standby {m : EventMeaning} (standby : s.part.awake = false) (known : eventMeaning e.code = some m) :
    exec (.stationAudio f) s = .next (settle (takeValidEvent i e m s)) := by
  rw [exec_stationAudio f arrives, receiveAudio_standby standby source passes only, takeEvent_known known channel]

/-- Awake, a placed frame comes to its event once it has been placed. -/
theorem exec_event_awake {m : EventMeaning} (awake : s.part.awake = true) (running : s.stations[i].state.running = true)
    (unmapped : ∀ h ∈ s.timebase.history, h.mark ≠ audioMark f.body)
    (apart : ∀ h ∈ s.stations[i].window, 48 ≤ (counterDiff (audioCounter f.body) h.counter).natAbs)
    (inTime : ∀ r, s.stations[i].releasePoint = some r → 0 < counterDiff (audioCounter f.body + 48) r)
    (room : s.stations[i].window.length < 2 ^ (s.entry i).windowOrder) (known : eventMeaning e.code = some m) :
    exec (.stationAudio f) s =
      .next (settle (takeValidEvent i e m (leftWith i (s.stations[i].window ++ [heldOf f]) s))) := by
  rw [exec_stationAudio f arrives, receiveAudio_event awake source passes running inTime apart room unmapped only,
    takeEvent_known known]
  rw [leftWith, modStation_entry]
  exact channel

end

/-- A valid code is a confer button's or a mode button's. -/
theorem button_cases {n : Nat} (low : 1 ≤ n) (high : n ≤ 8) :
    (n ≤ 2 ∧ ∃ down : Bool, n = if down then 1 else 2) ∨ (3 ≤ n ∧ ∃ x : ModeEvent, n = x.code) := by
  by_cases confers : n ≤ 2
  · refine .inl ⟨confers, decide (n = 1), ?_⟩
    interval_cases n <;> rfl
  · exact .inr ⟨by omega, exists_modeEvent (by omega) high⟩

theorem exists_meaning {code : Byte} (low : 1 ≤ code.toNat) (high : code.toNat ≤ 8) : ∃ m, eventMeaning code = some m := by
  rcases button_cases low high with ⟨-, down, button⟩ | ⟨-, x, button⟩
  · exact ⟨_, eventMeaning_confer button⟩
  · exact ⟨_, eventMeaning_mode button⟩

theorem modeButton_confer {n : Nat} (confers : n ≤ 2) (m : CourtMode) (l : List CourtMode) : modeButton n m l = none := by
  interval_cases n <;> rfl

theorem leftWith_station (i : Fin 16) (w : List HeldFrame) (s : State) :
    (leftWith i w s).stations[i] = { s.stations[i] with silence := 0, window := w } := modStation_station_self s i _

/-- A frame heard and placed, with its event's serial entered. -/
theorem serialNoted_leftWith (i : Fin 16) (e : ButtonEvent) (w : List HeldFrame) (s : State) :
    serialNoted i e (leftWith i w s) =
      modStation i (fun _ => { s.stations[i] with silence := 0, window := w, newestSerial := some e.serial }) s :=
  (modStation_modStation i _ _ s).trans (modStation_congr rfl)

theorem raisedTo_newest (l : List Toggle) (p : Counter) : raisedTo (newestPoint l) p =
    match l.getLast? with
    | some x => if counterDiff p x.point < 0 then x.point else p
    | none => p := by
  unfold newestPoint
  cases l.getLast? <;> rfl

theorem force_eq (c : Counter) (g : ConferGroup) : g.force c =
    { g with forced := true, forcedPoint := some (match g.toggles.getLast? with
      | some x => if counterDiff c x.point < 0 then x.point else c
      | none => c) } := by
  unfold ConferGroup.force newestPoint
  cases g.toggles.getLast? with
  | none => rfl
  | some x => simp only [Option.map_some, laterOf_eq]

theorem discardForced_eq (c : Counter) (g : ConferGroup) : g.discardForced c =
    { g with forcedPoint := some (match g.forcedPoint with
      | some x => if 0 < counterDiff c x then c else x
      | none => c) } := by
  unfold ConferGroup.discardForced
  cases g.forcedPoint with
  | none => rfl
  | some x => simp only [laterOf_eq_of_pos]

/-- A mode button with bench authority and wake enable wakes the part and is then applied (R27, R140). -/
theorem wakes_then_acts (x : ModeEvent) (i : Fin 16) (s : State) :
    let t := settle (applyModeEvent x (wake (.bench i) s))
    t.part = { s.part with awake := true, wakeCause := some (.bench i) } ∧ flagSet t .woken = true ∧
    t.timebase = { s.timebase with state := .search, candidateCount := 0, history := [] } ∧
    t.tables = s.tables ∧ t.proceeding = s.proceeding ∧ t.config = s.config := by
  obtain ⟨flag, woken⟩ := wake_woken (.bench i) s
  obtain ⟨v, q, m, l, e, n, acted⟩ := applyModeEvent_frame x (wake (.bench i) s)
  refine ⟨?_, ?_, ?_, ?_, ?_, ?_⟩
  · rw [settle_part, acted, woken]
  · rw [settle_flagSet]
    exact applyModeEvent_keeps flag
  · rw [settle_timebase, acted, woken]
  · rw [settle_tables, acted, woken]
  · rw [settle_proceeding, acted, woken]
  · rw [settle_config, acted, woken]

/-- Settles O36: the event's way awake and in STANDBY, each with the button's own effect. -/
theorem buttonEventsAct : Obligations.ButtonEventsAct := by
  unfold Obligations.ButtonEventsAct
  intro s f i e settled arrives source passes only channel low high repeated placed taken pressed pushed modeDone
  obtain ⟨m₀, known₀⟩ := exists_meaning low high
  refine ⟨fun awake running unmapped apart inTime room => ?_, fun standby => ?_⟩
  · have ran {m : EventMeaning} (known : eventMeaning e.code = some m) :=
      exec_event_awake arrives source passes only channel awake running unmapped apart inTime room known
    have noted : serialNoted i e (leftWith i (s.stations[i].window ++ [heldOf f]) s) = taken :=
      serialNoted_leftWith i e _ s
    have serial : (leftWith i (s.stations[i].window ++ [heldOf f]) s).stations[i].newestSerial =
        s.stations[i].newestSerial := by rw [leftWith_station]
    refine ⟨fun again => ?_, fun fresh => ?_⟩
    · rw [ran known₀, takeValidEvent_repeated m₀ (by rw [serial]; exact again), leftWith, settle_modStation settled]
      exact congrArg Host.Outcome.next (modStation_congr rfl)
    have routed {m : EventMeaning} (known : eventMeaning e.code = some m) :
        exec (.stationAudio f) s = .next (settle (routeAwake i e m taken)) := by
      have new := takeValidEvent_awake (s := leftWith i (s.stations[i].window ++ [heldOf f]) s) (i := i) (e := e) m
        (by rw [serial]; exact fresh) awake
      rw [ran known, new, noted]
    have unchanged : settle taken = taken := settle_modStation settled i _
    refine ⟨fun button dropped => ?_, fun m stack bench press => ?_, fun down button => ?_⟩
    · obtain ⟨x, code⟩ := exists_modeEvent button high
      have drops : routeAwake i e (.mode x) taken = taken :=
        routeAwake_drops (dropped.imp_right fun none_ => by rw [← code]; exact none_)
      rw [routed (eventMeaning_mode code), drops, unchanged]
    · have button : 3 ≤ e.code.toNat := by
        by_contra confers
        rw [show pressed = none from modeButton_confer (by omega) _ _] at press
        cases press
      obtain ⟨x, code⟩ := exists_modeEvent button high
      have acts : ModeSet taken (x.overflows taken) { current := m, stack := stack } (routeAwake i e (.mode x) taken) :=
        routeAwake_acts bench (by rw [← code]; exact press)
      obtain ⟨mode, groups, changed, overflowed⟩ := acts.settle
      have overfull (push : pushed) : x.overflows taken = true := overflows_of (code ▸ push)
      refine ⟨_, routed (eventMeaning_mode code), ?_⟩
      exact ⟨mode, groups, changed, fun push => overflowed (overfull push)⟩
    · have toggled := routed (eventMeaning_confer button)
      rw [routeAwake_confer] at toggled
      refine ⟨fun ungrouped => ?_, fun g grouped => ?_⟩
      · rw [toggled, takeToggle_ungrouped (s := taken) ungrouped, unchanged]
      intro c p q first later
      rw [takeToggle_grouped (s := taken) grouped] at toggled
      refine ⟨fun same => ?_, fun differs => ?_⟩
      · rw [toggled, takeToggleOf_repeated (s := taken) same, unchanged]
      have group := (OnlyGroup.refl g taken).after_takeToggleOf (i := i) (down := down) (c := e.counter)
      have station : taken.stations[i] = { placed with newestSerial := some e.serial } := modStation_station_self s i _
      have point : taken.stations[i].releasePoint = s.stations[i].releasePoint := by rw [station]
      refine ⟨_, toggled, ?_, fun k other => ?_, fun idle => ?_, fun notIdle notArmed =>
        ⟨fun free place => ?_, fun free full => ?_, fun forced => ?_⟩⟩
      · rw [settle_mode]
        exact group.mode
      · rw [settle_groups]
        exact group.others k other
      · rw [settle_groups]
        exact takeToggleOf_idle_group differs idle
      · rw [settle_groups, takeToggleOf_entered (s := taken) differs notIdle notArmed free place, point, toggleEntry_eq,
          raisedTo_newest]
        rfl
      · obtain ⟨flag, after⟩ := takeToggleOf_forces (i := i) (c := e.counter) (s := taken) differs notIdle notArmed free full
        rw [settle_groups, settle_flagSet, after, force_eq]
        exact ⟨flag, rfl⟩
      · rw [settle_groups, takeToggleOf_discards (s := taken) differs notIdle notArmed forced, discardForced_eq]
        rfl
  · have ran {m : EventMeaning} (known : eventMeaning e.code = some m) :=
      exec_event_standby arrives source passes only channel standby known
    have unchanged : settle (serialNoted i e s) = serialNoted i e s := settle_modStation settled i _
    refine ⟨fun again => ?_, fun fresh dropped => ?_, fun fresh button bench wakes => ?_⟩
    · rw [ran known₀, takeValidEvent_repeated m₀ again, settle_of_settled s settled]
    · have drops : routeStandby i m₀ (serialNoted i e s) = serialNoted i e s := by
        refine routeStandby_drops fun x isMode => ?_
        rcases dropped with confers | powerless
        · rcases button_cases low high with ⟨-, down, button⟩ | ⟨mode, -⟩
          · rw [eventMeaning_confer button, isMode] at known₀
            cases known₀
          · omega
        · exact powerless
      rw [ran known₀, takeValidEvent_standby m₀ fresh standby, drops, unchanged]
      rfl
    · obtain ⟨x, code⟩ := exists_modeEvent button high
      have woke : exec (.stationAudio f) s =
          .next (settle (applyModeEvent x (wake (.bench i) (serialNoted i e s)))) := by
        rw [ran (eventMeaning_mode code), takeValidEvent_standby _ fresh standby,
          routeStandby_wakes (s := serialNoted i e s) bench wakes]
      obtain ⟨part, flag, timebase, tables, proceeding, config⟩ := wakes_then_acts x i (serialNoted i e s)
      have woken := (wake_woken (.bench i) (serialNoted i e s)).2
      have mode : (wake (.bench i) (serialNoted i e s)).mode = s.mode := by rw [woken]; rfl
      have groups : (wake (.bench i) (serialNoted i e s)).groups = s.groups := by rw [woken]; rfl
      refine ⟨_, woke, part, flag, timebase, tables, proceeding, config, fun m stack press => ?_, fun none_ => ?_⟩
      · have acts := applyModeEvent_pressed (x := x) (s := wake (.bench i) (serialNoted i e s)) (m := m) (stack := stack)
          (by rw [mode, ← code]; exact press)
        obtain ⟨set, kept, changed, overflowed⟩ := (applyMode_sets (x.overflows (wake (.bench i) (serialNoted i e s)))
          { current := m, stack := stack } (wake (.bench i) (serialNoted i e s))).settle
        rw [← acts] at set kept changed overflowed
        rw [mode] at set changed
        refine ⟨set, kept.trans groups, changed, fun push => overflowed (overflows_of ?_)⟩
        rw [mode, ← code]
        exact push
      · rw [settle_mode, applyModeEvent_dropped (by rw [mode, ← code]; exact none_), mode]

end Sys2Proof.Machine
end


section
/-!
PROOFS. READ_ENTRIES (R40, R53, R59, R170): the data of its REPLY, and the peaks that a read of STATION_STATUS clears.
-/

namespace Sys2Proof.Machine

variable {s : State} {p : List Byte} {t : TableCode}

/-! ## The data (R185) -/

/-- A byte beyond the end is a field of 0. -/
theorem length_of_field {k : Nat} (named : 0 < fieldAt p k 1) : k < p.length := by
  by_contra short
  rw [fieldAt, List.drop_eq_nil_of_le (Nat.le_of_not_lt short)] at named
  exact absurd named (by decide)

theorem byte_fieldAt_cons {b : Byte} {l : List Byte} {k : Nat} (here : p.drop k = b :: l) : byte (fieldAt p k 1) = [b] := by
  simp [byte, fieldAt, here, beNat]

/-- The three bytes of a table access are copied as they stand in the payload. -/
theorem accessBytes_eq (long : 6 < p.length) :
    byte (pTable p) ++ byte (pFirst p) ++ byte (pCount p) = (p.drop 4).take 3 := by
  have at4 : p.drop 4 = p[4] :: p.drop 5 := List.drop_eq_getElem_cons _
  have at5 : p.drop 5 = p[5] :: p.drop 6 := List.drop_eq_getElem_cons _
  have at6 : p.drop 6 = p[6] :: p.drop 7 := List.drop_eq_getElem_cons _
  rw [pTable, pFirst, pCount, byte_fieldAt_cons at4, byte_fieldAt_cons at5, byte_fieldAt_cons at6, at4, at5, at6]
  rfl

/-- The entries read are none of what a request's leave of the queue changes. -/
theorem entryBytes_dequeued (s : State) (rest : List Request) (shadow : Bool) (t : TableCode) (k : Nat) :
    entryBytes (dequeued s rest) shadow t k = entryBytes s shadow t k := by
  cases t <;> rfl

theorem readData_dequeued (rest : List Request) (named : 0 < fieldAt p 6 1) : readData (dequeued s rest) p t =
    (p.drop 4).take 3 ++ [0] ++
      (List.range (fieldAt p 6 1)).flatMap (fun e => entryBytes s (byteAt p 7 == 1) t (fieldAt p 5 1 + e)) := by
  rw [readData, accessBytes_eq (length_of_field named), rangeBytes]
  simp only [entryBytes_dequeued]
  rfl

/-! ## The answers (R170) -/

theorem rangeOk_iff (t : TableCode) (first count : Nat) :
    rangeOk t first count = true ↔ 0 < count ∧ first + count ≤ t.entries := by
  rw [rangeOk, Bool.and_eq_true, decide_eq_true_iff, decide_eq_true_iff]

theorem rangeOk_eq_false_iff (t : TableCode) (first count : Nat) :
    rangeOk t first count = false ↔ count = 0 ∨ t.entries < first + count := by
  rw [← Bool.not_eq_true, rangeOk_iff]
  omega

theorem answerRead_marked (marked : 1 < (byteAt p 7).toNat) (s : State) : answerRead p s = refuse .range s :=
  if_pos ((isYesNo_eq_false_iff _).mpr marked)

section
variable (plain : isYesNo (byteAt p 7) = true)
include plain

theorem answerRead_unknown (unknown : 8 ≤ fieldAt p 4 1) (s : State) : answerRead p s = refuse .range s := by
  rw [answerRead, if_neg (by rw [plain]; decide), pTable, tableOf_unknown unknown]

/-- A known table is looked at for its access and its range. -/
theorem answerRead_known (known : tableOf (fieldAt p 4 1) = some t) (s : State) : answerRead p s =
    if t = .tallyOverride then refuse .unreadable s
    else if rangeOk t (pFirst p) (pCount p) = false then refuse .range s
    else acceptWith (readData s p t) s := by
  rw [answerRead, if_neg (by rw [plain]; decide), pTable, known]

theorem answerRead_unreadable (write_only : fieldAt p 4 1 = 3) (s : State) : answerRead p s = refuse .unreadable s :=
  (answerRead_known plain (by rw [write_only]; rfl) s).trans (if_pos rfl)

theorem answerRead_outside (known : tableOf (fieldAt p 4 1) = some t) (readable : t ≠ .tallyOverride)
    (outside : fieldAt p 6 1 = 0 ∨ t.entries < fieldAt p 5 1 + fieldAt p 6 1) (s : State) :
    answerRead p s = refuse .range s :=
  (answerRead_known plain known s).trans ((if_neg readable).trans (if_pos ((rangeOk_eq_false_iff _ _ _).mpr outside)))

theorem answerRead_reads (known : tableOf (fieldAt p 4 1) = some t) (readable : t ≠ .tallyOverride)
    (named : 0 < fieldAt p 6 1) (fits : fieldAt p 5 1 + fieldAt p 6 1 ≤ t.entries) (s : State) :
    answerRead p s = acceptWith (readData s p t) s := by
  have range : rangeOk t (pFirst p) (pCount p) = true := (rangeOk_iff _ _ _).mpr ⟨named, fits⟩
  rw [answerRead_known plain known, if_neg readable, if_neg (by rw [range]; decide)]

theorem answerReadStatus_reads (named : 0 < fieldAt p 6 1) (fits : fieldAt p 5 1 + fieldAt p 6 1 ≤ 16) (s : State) :
    answerReadStatus p s =
      acceptWith (readData s p .stationStatus) (clearPeaks (fieldAt p 5 1) (fieldAt p 6 1) s) := by
  have range : rangeOk .stationStatus (pFirst p) (pCount p) = true := (rangeOk_iff _ _ _).mpr ⟨named, fits⟩
  refine if_neg ?_
  rw [plain, range]
  decide

end

theorem answerReadStatus_refused (refused : 1 < (byteAt p 7).toNat ∨ fieldAt p 6 1 = 0 ∨ 16 < fieldAt p 5 1 + fieldAt p 6 1)
    (s : State) : answerReadStatus p s = refuse .range s :=
  if_pos (refused.imp (isYesNo_eq_false_iff _).mpr (rangeOk_eq_false_iff .stationStatus _ _).mpr)

theorem clearPeaks_station (first count : Nat) (s : State) (i : Fin 16) : (clearPeaks first count s).stations[i] =
    if first ≤ i.val ∧ i.val < first + count then
      { s.stations[i] with tracker := { s.stations[i].tracker with peakD := 0 } }
    else s.stations[i] := by
  simp [clearPeaks]

/-- Peaks are none of what the end of a command looks at. -/
theorem clearPeaks_settled (settled : s.Settled) (first count : Nat) : (clearPeaks first count s).Settled :=
  settled.congr rfl (fun p => by cases p <;> rfl) (fun _ => rfl) rfl rfl rfl rfl

/-- A read that clears peaks changes the stations, the queue that the request left, and the ports. -/
theorem clearPeaks_replied (a : AfterReply) (f : Frame) (first count : Nat) (s : State) (rest : List Request) :
    withReply a f (clearPeaks first count (dequeued s rest)) = { s with
      stations := (withReply a f (clearPeaks first count (dequeued s rest))).stations
      management := { s.management with requests := rest }
      ports := (withReply a f (clearPeaks first count (dequeued s rest))).ports } := by
  obtain ⟨-, b, m, h, frame⟩ := withReply_spec a f (clearPeaks first count (dequeued s rest))
  obtain ⟨v, cleared⟩ : ∃ v, clearPeaks first count (dequeued s rest) =
      { s with stations := v, management := { s.management with requests := rest } } := ⟨_, rfl⟩
  rw [frame, cleared]

/-- Settles O45: each check of the two handlers, and the data and the peaks of a read that passes. -/
theorem readReturnsEntries : Obligations.ReadReturnsEntries := by
  unfold Obligations.ReadReturnsEntries
  intro s r rest settled first count plain data
  refine ⟨fun serving => ⟨fun marked => ?_, fun yes unknown => ?_, fun yes write_only => ?_, fun yes t known readable =>
    ⟨fun outside => ?_, fun named fits => ?_⟩⟩, fun serving => ⟨fun refused => ?_, fun yes named fits => ?_⟩⟩
  · exact congrArg Host.Outcome.next (serve_refused settled serving (answerRead_marked marked _))
  · exact congrArg Host.Outcome.next (serve_refused settled serving (answerRead_unknown yes unknown _))
  · exact congrArg Host.Outcome.next (serve_refused settled serving (answerRead_unreadable yes write_only _))
  · exact congrArg Host.Outcome.next (serve_refused settled serving (answerRead_outside yes known readable outside _))
  · have answer := answerRead_reads yes known readable named fits (dequeued s rest)
    rw [readData_dequeued rest named] at answer
    exact congrArg Host.Outcome.next (serve_read settled serving answer)
  · exact congrArg Host.Outcome.next (serve_refused settled serving (answerReadStatus_refused refused _))
  · have answer := answerReadStatus_reads yes named fits (dequeued s rest)
    rw [readData_dequeued rest named] at answer
    have cleared := clearPeaks_settled (dequeued_settled s rest settled) first count
    have served : serve .readStationStatus answerReadStatus s =
        withReply .nothing (replyTo s.config r .ok (data .stationStatus)) (clearPeaks first count (dequeued s rest)) := by
      rw [serve_reply s .readStationStatus r rest answerReadStatus serving (by rw [answer]; exact cleared), answer]
      rfl
    obtain ⟨replied, b, m, h, frame⟩ := withReply_spec .nothing (replyTo s.config r .ok (data .stationStatus))
      (clearPeaks first count (dequeued s rest))
    refine ⟨_, congrArg Host.Outcome.next served, replied, fun i low high => ?_, fun i out => ?_, ?_⟩
    · rw [frame]
      exact (clearPeaks_station first count _ i).trans (if_pos ⟨low, high⟩)
    · rw [frame]
      exact (clearPeaks_station first count _ i).trans (if_neg (by omega))
    · exact clearPeaks_replied .nothing _ first count s rest

end Sys2Proof.Machine
end


section
/-!
PROOFS. LINE_TEST (R149, R161): the refusals in their order, the start of a test, and the TEST_COMMAND BEGIN that port A takes or the
control queue holds.
-/

namespace Sys2Proof.Machine

variable {s : State} {i : Fin 16} {p : List Byte} {d : Nat}

/-! ## Refusals (R149) -/

theorem allWithheld_iff (s : State) (i : Fin 16) : allWithheld s i = true ↔
    ∀ k : Fin 48, s.tables.active.tracks[k].mapped = true → s.tables.active.tracks[k].station = i →
      dispositionIn s.tables.active s.mode.current s.tables.active.tracks[k].role = .withheldD := by
  have one (e : TrackEntry) : (!(e.mapped && e.station == i) ||
      dispositionIn s.tables.active s.mode.current e.role == .withheldD) = true ↔
      (e.mapped = true → e.station = i → dispositionIn s.tables.active s.mode.current e.role = .withheldD) := by
    rw [Bool.or_eq_true, Bool.not_eq_true', ← Bool.not_eq_true, Bool.and_eq_true, beq_iff_eq, beq_iff_eq]
    tauto
  rw [allWithheld, List.all_eq_true]
  constructor
  · intro all k
    exact (one _).mp (all _ (Vector.mem_toList_iff.mpr (Vector.getElem_mem k.isLt)))
  · intro each e mem
    obtain ⟨k, below, rfl⟩ := Vector.mem_iff_getElem.mp (Vector.mem_toList_iff.mp mem)
    exact (one _).mpr (each ⟨k, below⟩)

theorem permissionExamined_iff (s : State) : permissionExamined s = true ↔
    s.proceeding.state = .armed ∨ s.proceeding.state = .opened ∨ s.proceeding.state = .draining := by
  rw [permissionExamined, Bool.or_eq_true, beq_iff_eq, recording_iff]

/-- The state refuses a test that is running, a DISABLED station, and a track that is not WITHHELD where that is examined. -/
theorem testRefused_iff (s : State) (i : Fin 16) : testRefused s i = true ↔
    (∃ y, s.engine.state = .test y) ∨ s.stations[i].state = .disabled ∨
      permissionExamined s = true ∧ allWithheld s i = false := by
  have testing : (match s.engine.state with
      | .test _ => true
      | .tap _ => false
      | .idle => false) = true ↔ ∃ y, s.engine.state = .test y := by
    cases s.engine.state <;> simp
  unfold testRefused
  rw [Bool.or_eq_true, Bool.or_eq_true, beq_iff_eq, Bool.and_eq_true, Bool.not_eq_true', or_assoc]
  exact or_congr testing Iff.rfl

theorem answerLineTest_range (outside : 16 ≤ fieldAt p 4 1 ∨ fieldAt p 6 2 = 0 ∨ 12000 < fieldAt p 6 2) (s : State) :
    answerLineTest p s = refuse .range s := by
  unfold answerLineTest
  split
  · rfl
  · next i named =>
    refine if_pos (outside.resolve_left fun beyond => ?_)
    rw [finOf?_beyond beyond] at named
    cases named

section
variable (named : fieldAt p 4 1 = i.val) (positive : 0 < fieldAt p 6 2) (bounded : fieldAt p 6 2 ≤ 12000)
include named positive bounded

/-- Operands in range leave the decision to the state. -/
theorem answerLineTest_inRange (s : State) : answerLineTest p s =
    if testRefused s i then refuse .state s else accept (startTest i (fieldAt p 6 2) s) := by
  have longest : testLongest = 12000 := rfl
  rw [answerLineTest, named, finOf?_val]
  exact if_neg (by omega)

end

/-! ## The start (R149) -/

/-- A test of a station that has just started. -/
def startedTest (i : Fin 16) (a : Mac) (d : Nat) : LineTest :=
  { station := i, address := a, duration := d, elapsed := 0, answered := false, checker := Checker.fresh }

/-- The engine as a test starts. -/
def Engine.testing (i : Fin 16) (a : Mac) (d : Nat) (e : Engine) : Engine :=
  { e.clearFigures with state := .test (startedTest i a d), waiting := none, meter := 0 }

/-- The TEST_COMMAND BEGIN of a test (R182). -/
def beginCommand (s : State) (i : Fin 16) (d : Nat) : Frame :=
  ownFrame s (s.entry i).address kindTestCommand (testCommandPayload true d)

/-- The state in which the engine has entered the test and BEGIN has been queued. -/
def begun (i : Fin 16) (d : Nat) (s : State) : State :=
  queueTestCommand (beginCommand s i d) { s with engine := s.engine.testing i (s.entry i).address d }

theorem startTest_eq (i : Fin 16) (d : Nat) (s : State) : startTest i d s = enterTest i (begun i d s) := rfl

/-- From BEGIN's queueing on only the station changes. -/
theorem startTest_only (i : Fin 16) (d : Nat) (s : State) : OnlyStation i (begun i d s) (startTest i d s) :=
  (OnlyStation.refl i _).after_modStation.after_setStationState

theorem begun_spec (i : Fin 16) (d : Nat) (s : State) : ∃ q c, begun i d s =
      { s with engine := s.engine.testing i (s.entry i).address d
               ports := { s.ports with control := q, tallyDrop := c } } ∧
    ({ tally := false, frame := beginCommand s i d } : ControlFrame) ∈ q ∧
    (s.ports.control.length < 64 → q = s.ports.control ++ [{ tally := false, frame := beginCommand s i d }]) := by
  obtain ⟨q, c, queued, inside⟩ := queueTestCommand_spec (beginCommand s i d)
    { s with engine := s.engine.testing i (s.entry i).address d }
  refine ⟨q, c, queued, inside, fun room => ?_⟩
  have joined := queueTestCommand_room (beginCommand s i d)
    (s := { s with engine := s.engine.testing i (s.entry i).address d }) room
  exact congrArg (·.ports.control) (queued.symm.trans joined)

theorem startTest_station (i : Fin 16) (d : Nat) (s : State) :
    (startTest i d s).stations[i] = { s.stations[i].emptied with state := .test } := by
  obtain ⟨q, c, told, -⟩ := begun_spec i d s
  rw [startTest_eq, enterTest, setStationState_station, modStation_station_self, told]

theorem startTest_flagSet (moves : s.stations[i].state ≠ .test) (d : Nat) :
    flagSet (startTest i d s) .stationState = true := by
  obtain ⟨q, c, told, -⟩ := begun_spec i d s
  rw [startTest_eq, enterTest, told]
  exact setStationState_flagSet (by rw [modStation_station_self]; exact moves)

/-- The start changes the engine, the station, the control queue, and what the rise of STATION_STATE changes. -/
theorem startTest_frame (i : Fin 16) (d : Nat) (s : State) : ∃ q c, startTest i d s = { s with
      engine := s.engine.testing i (s.entry i).address d
      stations := (startTest i d s).stations, management := (startTest i d s).management
      ports := { s.ports with control := q, tallyDrop := c, management := (startTest i d s).ports.management } } ∧
    ({ tally := false, frame := beginCommand s i d } : ControlFrame) ∈ q ∧
    (s.ports.control.length < 64 → q = s.ports.control ++ [{ tally := false, frame := beginCommand s i d }]) := by
  obtain ⟨q, c, told, inside, joined⟩ := begun_spec i d s
  refine ⟨q, c, ?_, inside, joined⟩
  have frame := (startTest_only i d s).frame
  rw [told] at frame
  exact frame

theorem monitorFor_test {x : LineTest} (test : s.engine.state = .test x) (q : Port) : monitorFor s q = none := by
  unfold monitorFor
  rw [test]

/-! ## The request (R149, R169) -/

section
variable {r : Request} {rest : List Request}

/-- LINE_TEST carried out: its state is that of the test's start but for the ports, and the REPLY is on its way. -/
theorem serve_startTest (settled : s.Settled) (serving : Serving s .lineTest r rest)
    (answer : answerLineTest r.payload (dequeued s rest) = accept (startTest i d (dequeued s rest))) :
    ∃ t, serve .lineTest answerLineTest s = t ∧ Replied .nothing (replyTo s.config r .ok []) t ∧
      t = { startTest i d (dequeued s rest) with ports := t.ports } ∧
      (portReady s .A = true → t.ports.a.transmitting =
        some { origin := .control, frame := beginCommand (dequeued s rest) i d }) ∧
      (portReady s .A = false → t.ports.control = (startTest i d (dequeued s rest)).ports.control) := by
  obtain ⟨q, c, frame, inside, joined⟩ := startTest_frame i d (dequeued s rest)
  generalize startTest i d (dequeued s rest) = u at frame answer ⊢
  have output : u.output = s.output := by rw [frame]; rfl
  have sender : u.output.sending = none → u.output.openS.eligible = false ∧ u.output.sealedS.eligible = false := by
    rw [output]
    exact settled.1
  have config : u.config = s.config := by rw [frame]; rfl
  have ready : portReady u .A = portReady s .A := by rw [frame]; rfl
  have control : u.ports.control = q := by rw [frame]
  have served : serve .lineTest answerLineTest s = settle (queueReply .nothing (replyTo s.config r .ok []) u) := by
    rw [serve_serving s .lineTest r rest answerLineTest serving, answer, ← config]
    rfl
  obtain ⟨replied, x, w, taken, quiet⟩ := settle_queueReply_spec .nothing (replyTo s.config r .ok []) u sender
  have kept : w = u.engine.waiting := quiet fun _ => by
    refine monitorFor_test (x := startedTest i ((dequeued s rest).entry i).address d) ?_ .A
    rw [frame]
    rfl
  obtain ⟨busy, takes⟩ := settle_portA (s := queueReply .nothing (replyTo s.config r .ok []) u) sender
  refine ⟨_, served, replied, ?_, fun free => ?_, fun occupied => ?_⟩
  · rw [taken, kept]
  · have empty : (dequeued s rest).ports.control = [] := (settled.2.1 free).1
    have alone : u.ports.control = [{ tally := false, frame := beginCommand (dequeued s rest) i d }] := by
      rw [control, joined (by rw [empty]; decide), empty]
      rfl
    exact takes _ [] (ready.trans free) alone
  · exact busy (ready.trans occupied)

end

/-- Settles O57: the refusals in order, and the start with the command that port A takes or the control queue holds. -/
theorem lineTestStartsOrRefuses : Obligations.LineTestStartsOrRefuses := by
  unfold Obligations.LineTestStartsOrRefuses
  intro s r rest settled serving d refused
  refine ⟨fun outside => ?_, fun i named positive bounded => ?_⟩
  · exact congrArg Host.Outcome.next (serve_refused settled serving (answerLineTest_range outside _))
  have decides := answerLineTest_inRange (i := i) named positive bounded (dequeued s rest)
  refine ⟨fun why => ?_, fun untested enabled permitted => ?_⟩
  · have no : testRefused (dequeued s rest) i = true := by
      refine (testRefused_iff _ i).mpr (why.imp_right (Or.imp_right ?_))
      rintro ⟨examined, k, mapped, ofStation, recorded⟩
      refine ⟨(permissionExamined_iff _).mpr examined, Bool.eq_false_iff.mpr fun all => ?_⟩
      exact recorded ((allWithheld_iff _ i).mp all k mapped ofStation)
    rw [if_pos no] at decides
    exact congrArg Host.Outcome.next (serve_refused settled serving decides)
  · have yes : ¬ testRefused (dequeued s rest) i = true := by
      rw [testRefused_iff]
      rintro (⟨y, test⟩ | disabled | ⟨examined, not_all⟩)
      · exact untested y test
      · exact enabled disabled
      · have states := (permissionExamined_iff _).mp examined
        rcases permitted with idle | confirming | all
        · rw [show (dequeued s rest).proceeding.state = .idle from idle] at states
          exact absurd states (by decide)
        · rw [show (dequeued s rest).proceeding.state = .confirming from confirming] at states
          exact absurd states (by decide)
        · rw [(allWithheld_iff (dequeued s rest) i).mpr all] at not_all
          cases not_all
    rw [if_neg yes] at decides
    obtain ⟨t, served, replied, frame, sent, waits⟩ := serve_startTest settled serving decides
    obtain ⟨q, c, started, inside, joined⟩ := startTest_frame i d (dequeued s rest)
    have engine : t.engine = s.engine.testing i (s.entry i).address d := by rw [frame, started]; rfl
    have stations : t.stations = (startTest i d (dequeued s rest)).stations := by rw [frame]
    have management : t.management = (startTest i d (dequeued s rest)).management := by rw [frame]
    have control : (startTest i d (dequeued s rest)).ports.control = q := by rw [started]
    refine ⟨t, congrArg Host.Outcome.next served, replied, ?_, ?_, ?_, ?_, ?_, ?_, ?_, ?_, fun k other => ?_,
      fun moves => ?_, ?_, ?_⟩
    · rw [engine]
      exact ⟨_, rfl, rfl, rfl, rfl, rfl, rfl⟩
    · rw [engine]; rfl
    · rw [engine]; rfl
    · rw [engine]; rfl
    · rw [engine]; rfl
    · rw [engine]; rfl
    · rw [engine]; rfl
    · rw [stations, startTest_station]
      rfl
    · obtain ⟨q', c', told, -⟩ := begun_spec i d (dequeued s rest)
      rw [stations, (startTest_only i d (dequeued s rest)).others k other, told]
      rfl
    · rw [flagSet, management]
      exact startTest_flagSet (s := dequeued s rest) moves d
    · rintro command rfl
      refine ⟨sent, fun occupied => ?_, fun occupied room => ?_⟩
      · rw [waits occupied, control]
        exact inside
      · rw [waits occupied, control]
        exact joined room
    · have shape : (startTest i d (dequeued s rest)) = { s with
          engine := (startTest i d (dequeued s rest)).engine, stations := (startTest i d (dequeued s rest)).stations
          management := (startTest i d (dequeued s rest)).management
          ports := (startTest i d (dequeued s rest)).ports } := by
        generalize startTest i d (dequeued s rest) = u at started
        rw [started]
        rfl
      generalize startTest i d (dequeued s rest) = u at frame shape
      rw [frame, shape]

end Sys2Proof.Machine
end


section
/-!
PROOFS. Applied Station Table entries (R21, R23, R59, R152): what one entry's application leaves in its station, the engine and the
flags, and what the application of all written entries comes to.
-/

namespace Sys2Proof.Machine

variable {s t u : State} {i : Fin 16} {old new : StationEntry}

/-! ## Work on every index, once -/

/-- Each index is worked on once: what the others' work keeps until then holds for the work on index i, and what that brings and the
others' work keeps holds at the end. -/
theorem forEach_once {σ : Type} {n : Nat} {f : Fin n → σ → σ} {P Q : σ → Prop} (i : Fin n) (brings : ∀ t, P t → Q (f i t))
    (before : ∀ k t, k ≠ i → P t → P (f k t)) (after : ∀ k t, k ≠ i → Q t → Q (f k t)) (s : σ) (hs : P s) :
    Q (forEach n f s) := by
  obtain ⟨front, back, list⟩ := List.append_of_mem (List.mem_finRange i)
  have distinct := List.nodup_finRange n
  rw [list, List.nodup_append] at distinct
  obtain ⟨-, rest, apart⟩ := distinct
  obtain ⟨notBack, -⟩ := List.nodup_cons.mp rest
  have keeps {l : List (Fin n)} {R : σ → Prop} (out : i ∉ l) (step : ∀ k t, k ≠ i → R t → R (f k t)) (t : σ) (ht : R t) :
      R (l.foldl (fun t k => f k t) t) :=
    List.foldlRecOn l _ ht fun u hu k mem => step k u (fun same => out (same ▸ mem)) hu
  have notFront : i ∉ front := fun mem => apart i mem i List.mem_cons_self rfl
  unfold forEach
  rw [list, List.foldl_append, List.foldl_cons]
  exact keeps notBack after _ (brings _ (keeps notFront before s hs))

/-! ## The station's state (R21, R23) -/

/-- A station emptied and moved to a state in which it does not run. -/
def Station.idled (x : StationState) (z : Station) : Station := { z.emptied with state := x, newestSerial := none }

/-- What an entry's application before a line test's end and the tracker mode does: nothing, or an entry into ABSENT or DISABLED, with
the counts cleared or not. -/
structure StationApplied (i : Fin 16) (g : Station → Station) (s t : State) : Prop where
  station : t.stations[i] = g s.stations[i]
  others : ∀ k : Fin 16, k ≠ i → t.stations[k] = s.stations[k]
  engine : t.engine = s.engine
  portA : t.ports.a = s.ports.a
  flags : ∀ f, flagSet s f = true → flagSet t f = true
  moved : t.stations[i].state ≠ s.stations[i].state → flagSet t .stationState = true

theorem StationApplied.refl (i : Fin 16) (s : State) : StationApplied i id s s :=
  ⟨rfl, fun _ _ => rfl, rfl, rfl, fun _ set => set, fun moves => absurd rfl moves⟩

theorem enterIdleState_applied (i : Fin 16) (x : StationState) (s : State) :
    StationApplied i (Station.idled x) s (enterIdleState i x s) := by
  obtain ⟨v, only, entered, station, moved⟩ := enterIdleState_only i x s
  rw [entered]
  refine ⟨station, only.others, ?_, ?_, only.flags, fun moves => moved fun same => moves ?_⟩
  · rw [flushStation_engine, only.frame]
  · rw [flushStation_ports, only.frame]
  · rw [flushStation_stations, station, ← same]

theorem StationApplied.after_modStation {g h : Station → Station} (applied : StationApplied i g s t)
    (stays : ∀ x, (h x).state = x.state) : StationApplied i (h ∘ g) s (modStation i h t) := by
  refine ⟨?_, fun k other => ?_, applied.engine, applied.portA, applied.flags, fun moves => applied.moved ?_⟩
  · rw [modStation_station_self, applied.station]
    rfl
  · rw [modStation_station_other _ _ _ _ other, applied.others k other]
  · rwa [modStation_station_self, stays] at moves

/-- A station after its entry's application, but for the tracker mode (R21, cases 1 to 3). -/
def Station.entered (old new : StationEntry) (x : Station) : Station :=
  if new.valid = false then (if x.state = .disabled then x else x.idled .disabled)
  else if old.valid = false then x.idled .absent
  else if old.sameIdentity new then x
  else (x.idled .absent).clearIdentity

theorem applyEntryState_applied (i : Fin 16) (old new : StationEntry) (s : State) :
    StationApplied i (Station.entered old new) s (applyEntryState i old new s) := by
  have as {g : Station → Station} {v : State} (applied : StationApplied i g s v)
      (same : g s.stations[i] = Station.entered old new s.stations[i]) : StationApplied i (Station.entered old new) s v :=
    { applied with station := applied.station.trans same }
  unfold applyEntryState
  split
  · next invalid =>
    split
    · next disabled => exact as (.refl i s) (by rw [Station.entered, if_pos invalid, if_pos disabled]; rfl)
    · next awaits =>
      exact as (enterIdleState_applied i .disabled s) (by rw [Station.entered, if_pos invalid, if_neg awaits])
  · next valid =>
    split
    · next wasInvalid =>
      exact as (enterIdleState_applied i .absent s) (by rw [Station.entered, if_neg valid, if_pos wasInvalid])
    · next wasValid =>
      split
      · next same => exact as (.refl i s) (by rw [Station.entered, if_neg valid, if_neg wasValid, if_pos same]; rfl)
      · next differs =>
        refine as ((enterIdleState_applied i .absent s).after_modStation (h := Station.clearIdentity) fun _ => rfl) ?_
        rw [Station.entered, if_neg valid, if_neg wasValid, if_neg differs]
        rfl

/-- The tracker mode loaded from an entry (R21). -/
def Station.load (new : StationEntry) (x : Station) : Station := { x with tracker := { x.tracker with mode := new.trackerMode } }

theorem sameIdentity_iff (old new : StationEntry) : old.sameIdentity new = true ↔
    old.address = new.address ∧ old.windowOrder = new.windowOrder ∧ old.channels = new.channels := by
  rw [StationEntry.sameIdentity, Bool.and_eq_true, Bool.and_eq_true, beq_iff_eq, beq_iff_eq, beq_iff_eq, and_assoc]

theorem entryApplied_entered (old new : StationEntry) (x : Station) :
    EntryApplied old new x ((x.entered old new).load new) := by
  unfold EntryApplied Station.entered
  refine ⟨fun invalid disabled => ?_, fun invalid awaits => ?_, fun valid wasInvalid => ?_, fun valid wasValid same => ?_,
    fun valid wasValid differs => ?_⟩
  · rw [if_pos invalid, if_pos disabled]
    rfl
  · rw [if_pos invalid, if_neg awaits]
    rfl
  · rw [if_neg (by rw [valid]; decide), if_pos wasInvalid]
    rfl
  · rw [if_neg (by rw [valid]; decide), if_neg (by rw [wasValid]; decide), if_pos ((sameIdentity_iff old new).mpr same)]
    rfl
  · rw [if_neg (by rw [valid]; decide), if_neg (by rw [wasValid]; decide),
      if_neg fun same => differs ((sameIdentity_iff old new).mp same)]
    rfl

/-! ## The end of a line test (R152) -/

/-- A test ended for a station that has left TEST moves no station. -/
theorem endTest_left {x : LineTest} (test : s.engine.state = .test x) (left : s.stations[x.station].state ≠ .test)
    (r : TestResult) : (endTest r s).stations = s.stations := by
  obtain ⟨q, d, queued, -⟩ := queueTestCommand_spec (endCommand s x) s
  have told : (queueTestCommand (endCommand s x) s).stations = s.stations := by rw [queued]
  have stays : leaveTest x s = queueTestCommand (endCommand s x) s := if_neg (by rw [told]; exact left)
  rw [endTest_stations test, stays, told]

theorem abortTestOf_own {x : LineTest} (test : s.engine.state = .test x) (own : x.station = i) :
    abortTestOf i s = endTest .aborted s := by
  rw [abortTestOf, test]
  exact if_pos own

theorem abortTestOf_elsewhere (elsewhere : ∀ x, s.engine.state = .test x → x.station ≠ i) : abortTestOf i s = s := by
  unfold abortTestOf
  split
  · next x test => exact if_neg (elsewhere x test)
  · rfl
  · rfl

/-- The abort of a test whose station has left TEST leaves the stations and port A. -/
theorem abortTestOf_left (left : s.stations[i].state ≠ .test) :
    (abortTestOf i s).stations = s.stations ∧ (abortTestOf i s).ports.a = s.ports.a := by
  by_cases own : ∃ x, s.engine.state = .test x ∧ x.station = i
  · obtain ⟨x, test, rfl⟩ := own
    rw [abortTestOf_own test rfl]
    exact ⟨endTest_left test left _, (endTest_portA test _).1⟩
  · rw [abortTestOf_elsewhere fun x test same => own ⟨x, test, same⟩]
    exact ⟨rfl, rfl⟩

/-! ## One entry (R21) -/

/-- One entry's application: its station, the flags, and the end of a line test of a station that leaves TEST. -/
structure EntryStep (i : Fin 16) (old new : StationEntry) (s t : State) : Prop where
  station : t.stations[i] = (s.stations[i].entered old new).load new
  others : ∀ k : Fin 16, k ≠ i → t.stations[k] = s.stations[k]
  portA : t.ports.a = s.ports.a
  flags : ∀ f, flagSet s f = true → flagSet t f = true
  moved : t.stations[i].state ≠ s.stations[i].state → flagSet t .stationState = true
  aborts : ∀ x, s.engine.state = .test x → x.station = i → s.stations[i].state = .test → t.stations[i].state ≠ .test →
    t.engine.state = .idle ∧ t.engine.result = some .aborted ∧ flagSet t .testDone = true
  engine : (s.stations[i].state ≠ .test ∨ ∀ x, s.engine.state = .test x → x.station ≠ i) → t.engine = s.engine

theorem applyEntry_step (i : Fin 16) (old new : StationEntry) (s : State) : EntryStep i old new s (applyEntry i old new s) := by
  have applied := applyEntryState_applied i old new s
  unfold applyEntry
  dsimp only
  generalize applyEntryState i old new s = v at applied
  obtain ⟨station, others, engine, portA, flags, moved⟩ := applied
  have loaded (w : State) (same : w.stations = v.stations) :
      (modTracker i (fun x => { x with mode := new.trackerMode }) w).stations[i] = (s.stations[i].entered old new).load new := by
    rw [modTracker_station_self, same, station]
    rfl
  have state (w : State) (same : w.stations = v.stations) :
      (modTracker i (fun x => { x with mode := new.trackerMode }) w).stations[i].state = v.stations[i].state := by
    rw [modTracker_station_self, same]
  have otherStations (w : State) (same : w.stations = v.stations) (k : Fin 16) (other : k ≠ i) :
      (modTracker i (fun x => { x with mode := new.trackerMode }) w).stations[k] = s.stations[k] := by
    rw [modTracker, modStation_station_other _ _ _ _ other, same, others k other]
  by_cases leaves : s.stations[i].state = .test ∧ v.stations[i].state ≠ .test
  · rw [if_pos leaves]
    obtain ⟨tested, left⟩ := leaves
    obtain ⟨same, a⟩ := abortTestOf_left left
    have keeps (f : EventFlag) (set : flagSet v f = true) : flagSet (abortTestOf i v) f = true :=
      (Leaves.refl [] v).after_abortTestOf.flags f set
    refine ⟨loaded _ same, otherStations _ same, a.trans portA, fun f set => keeps f (flags f set), fun moves => ?_,
      fun x test own _ _ => ?_, fun elsewhere => ?_⟩
    · rw [state _ same] at moves
      exact keeps _ (moved moves)
    · have running : v.engine.state = .test x := by rw [engine]; exact test
      rw [abortTestOf_own running own]
      refine ⟨?_, ?_, endTest_testDone running _⟩
      · exact congrArg Engine.state (endTest_engine running .aborted)
      · exact congrArg Engine.result (endTest_engine running .aborted)
    · have kept : abortTestOf i v = v := abortTestOf_elsewhere fun x test => by
        rw [engine] at test
        exact elsewhere.resolve_left (not_not.mpr tested) x test
      rw [kept]
      exact engine
  · rw [if_neg leaves]
    refine ⟨loaded v rfl, otherStations v rfl, portA, flags, fun moves => ?_, fun x _ _ tested left => ?_, fun _ => engine⟩
    · rw [state v rfl] at moves
      exact moved moves
    · rw [state v rfl] at left
      exact absurd ⟨tested, left⟩ leaves

/-! ## All written entries (R21, R73) -/

section
variable {w : Vector Bool 16} {before after : Tables}

/-- The work on one index, written or not. -/
def entryWork (w : Vector Bool 16) (before after : Tables) (i : Fin 16) (t : State) : State :=
  if w[i] then applyEntry i before.stations[i] after.stations[i] t else t

theorem applyEntries_eq (w : Vector Bool 16) (before after : Tables) (s : State) :
    applyEntries w before after s = forEach 16 (entryWork w before after) s := rfl

theorem entryWork_cases (w : Vector Bool 16) (before after : Tables) (i : Fin 16) (t : State) :
    entryWork w before after i t = t ∨
      EntryStep i before.stations[i] after.stations[i] t (entryWork w before after i t) := by
  unfold entryWork
  split
  · exact .inr (applyEntry_step i _ _ t)
  · exact .inl rfl

theorem entryWork_other {k : Fin 16} (apart : k ≠ i) (t : State) :
    (entryWork w before after k t).stations[i] = t.stations[i] := by
  rcases entryWork_cases w before after k t with same | step
  · rw [same]
  · exact step.others i apart.symm

theorem entryWork_flags (k : Fin 16) {f : EventFlag} (set : flagSet t f = true) :
    flagSet (entryWork w before after k t) f = true := by
  rcases entryWork_cases w before after k t with same | step
  · rwa [same]
  · exact step.flags f set

/-- The engine stands while another station's entry is applied, or no test runs. -/
theorem entryWork_engine {k : Fin 16} (elsewhere : ∀ x, t.engine.state = .test x → x.station ≠ k) :
    (entryWork w before after k t).engine = t.engine := by
  rcases entryWork_cases w before after k t with same | step
  · rw [same]
  · exact step.engine (.inr elsewhere)

/-- A written entry has been applied to its station, whatever else was written. -/
structure EntryDone (i : Fin 16) (old new : StationEntry) (s t : State) : Prop where
  station : t.stations[i] = (s.stations[i].entered old new).load new
  moved : t.stations[i].state ≠ s.stations[i].state → flagSet t .stationState = true
  aborts : ∀ x, s.engine.state = .test x → x.station = i → s.stations[i].state = .test → t.stations[i].state ≠ .test →
    t.engine.state = .idle ∧ t.engine.result = some .aborted ∧ flagSet t .testDone = true

theorem applyEntries_written (written : w[i] = true) (s : State) :
    EntryDone i before.stations[i] after.stations[i] s (applyEntries w before after s) := by
  rw [applyEntries_eq]
  refine forEach_once (P := fun t => t.stations[i] = s.stations[i] ∧
      ∀ x, s.engine.state = .test x → x.station = i → t.engine.state = .test x) i (fun t waits => ?_) (fun k t other waits => ?_)
    (fun k t other done => ?_) s ⟨rfl, fun _ test _ => test⟩
  · obtain ⟨same, testing⟩ := waits
    have step := applyEntry_step i before.stations[i] after.stations[i] t
    have here : entryWork w before after i t = applyEntry i before.stations[i] after.stations[i] t := if_pos written
    rw [here]
    refine ⟨by rw [step.station, same], fun moves => step.moved (by rwa [same]), fun x test own tested left => ?_⟩
    exact step.aborts x (testing x test own) own (by rwa [same]) left
  · obtain ⟨same, testing⟩ := waits
    refine ⟨(entryWork_other other t).trans same, fun x test own => ?_⟩
    have running := testing x test own
    have engine : (entryWork w before after k t).engine = t.engine := entryWork_engine fun y test' own' => by
      rw [running] at test'
      cases test'
      exact other (own'.symm.trans own)
    rw [engine]
    exact running
  · obtain ⟨station, moved, aborts⟩ := done
    have same := entryWork_other (w := w) (before := before) (after := after) other t
    refine ⟨same.trans station, fun moves => ?_, fun x test own tested left => ?_⟩
    · rw [same] at moves
      exact entryWork_flags k (moved moves)
    · rw [same] at left
      obtain ⟨idle, result, flag⟩ := aborts x test own tested left
      have engine : (entryWork w before after k t).engine = t.engine := entryWork_engine fun y test' _ => by
        rw [idle] at test'
        cases test'
      rw [engine]
      exact ⟨idle, result, entryWork_flags k flag⟩

/-- A station whose entry was not written stands. -/
theorem applyEntries_unwritten (unwritten : w[i] = false) (s : State) :
    (applyEntries w before after s).stations[i] = s.stations[i] := by
  rw [applyEntries_eq]
  refine forEach_keeps 16 _ (fun t => t.stations[i] = s.stations[i]) (fun k t same => ?_) s rfl
  by_cases here : k = i
  · subst here
    have idle : entryWork w before after k t = t := if_neg (by rw [unwritten]; decide)
    rwa [idle]
  · exact (entryWork_other here t).trans same

theorem applyEntries_portA (s : State) : (applyEntries w before after s).ports.a = s.ports.a := by
  rw [applyEntries_eq]
  refine forEach_keeps 16 _ (fun t => t.ports.a = s.ports.a) (fun k t same => ?_) s rfl
  rcases entryWork_cases w before after k t with kept | step
  · rwa [kept]
  · exact step.portA.trans same

/-- No entry's application puts a station into TEST. -/
theorem entered_state {x : Station} (untested : x.state ≠ .test) : (x.entered old new).state ≠ .test := by
  unfold Station.entered
  split
  · split
    · exact untested
    · exact fun test => StationState.noConfusion test
  · split
    · exact fun test => StationState.noConfusion test
    · split
      · exact untested
      · exact fun test => StationState.noConfusion test

/-- With no station in TEST the engine stands. -/
theorem applyEntries_engine (untested : ∀ k : Fin 16, s.stations[k].state ≠ .test) :
    (applyEntries w before after s).engine = s.engine := by
  rw [applyEntries_eq]
  refine (forEach_keeps 16 _ (fun t => (∀ k : Fin 16, t.stations[k].state ≠ .test) ∧ t.engine = s.engine)
    (fun k t kept => ?_) s ⟨untested, rfl⟩).2
  obtain ⟨none_, engine⟩ := kept
  rcases entryWork_cases w before after k t with same | step
  · rw [same]
    exact ⟨none_, engine⟩
  · refine ⟨fun l => ?_, (step.engine (.inl (none_ k))).trans engine⟩
    by_cases here : l = k
    · subst here
      rw [step.station]
      exact entered_state (none_ l)
    · rw [step.others l here]
      exact none_ l

end

/-! ## Tables that become active (R72 to R75) -/

/-- The tables as new contents become active in both copies. -/
def TableSet.activated (x : TableSet) (new : Tables) : TableSet :=
  { active := new, shadow := new, staged := false, written := Vector.replicate 16 false, mapGeneration := x.mapGeneration + 1 }

/-- The written entries applied once the tables are active. -/
def entriesApplied (w : Vector Bool 16) (new : Tables) (s : State) : State :=
  applyEntries w s.tables.active new { s with tables := s.tables.activated new }

/-- After the stations only the groups and the lamps follow. -/
theorem activate_spec (w : Vector Bool 16) (new : Tables) (s : State) : ∃ g l q d, activate w new s =
    { entriesApplied w new s with
      groups := g, tally := { (entriesApplied w new s).tally with lamps := l }
      ports := { (entriesApplied w new s).ports with control := q, tallyDrop := d } } := by
  obtain ⟨l, q, d, lamps⟩ := recomputeLamps_spec (flushMoved s.tables.active new (entriesApplied w new s))
  exact ⟨_, l, q, d, lamps⟩

theorem activate_tables (w : Vector Bool 16) (new : Tables) (s : State) :
    (activate w new s).tables = s.tables.activated new := by
  obtain ⟨g, l, q, d, shape⟩ := activate_spec w new s
  rw [shape]
  exact ((Leaves.refl [.stations] { s with tables := s.tables.activated new }).after_applyEntries (by simp)).tables (by simp)

theorem activate_unapplied (w : Vector Bool 16) (new : Tables) (s : State) : (activate w new s).unapplied = s.unapplied :=
  (recomputeLamps_unapplied _).trans (applyEntries_unapplied _ _ _ _)

/-! ## Writes outside IDLE (R72) -/

/-- The tables with a write held in the shadow copy. -/
def TableSet.held (x : TableSet) (w : Vector Bool 16) (new : Tables) : TableSet :=
  { x with shadow := new, staged := true, written := unionFlags x.written w }

theorem answerStaged_error (w : Vector Bool 16) (x : ResultCode) (s : State) : answerStaged w (.error x) s = refuse x s := rfl

theorem answerStaged_held (busy : s.proceeding.state ≠ .idle) (w : Vector Bool 16) (new : Tables) :
    answerStaged w (.ok new) s =
      { state := { s with tables := s.tables.held w new }, result := .staged, data := [], after := .nothing } := by
  have commits : commitTables w new s = { s with tables := s.tables.held w new } := if_neg busy
  have result : commitResult s = .staged := if_neg busy
  unfold answerStaged
  dsimp only
  rw [commits, result]

theorem answerStaged_active (idle : s.proceeding.state = .idle) (w : Vector Bool 16) (new : Tables) :
    answerStaged w (.ok new) s = accept (activate w new s) := by
  have commits : commitTables w new s = activate w new s := if_pos idle
  have result : commitResult s = .ok := if_pos idle
  unfold answerStaged
  dsimp only
  rw [commits, result]
  rfl

section
variable {k : RequestKind} {r : Request} {rest : List Request} {h : List Byte → State → Answer} {w : Vector Bool 16}
  {new : Tables}

/-- A staged write changes the tables alone, beside its REPLY. -/
theorem serve_held (settled : s.Settled) (serving : Serving s k r rest) (busy : s.proceeding.state ≠ .idle)
    (answer : h r.payload (dequeued s rest) = answerStaged w (.ok new) (dequeued s rest)) :
    serve k h s = withReply .nothing (replyTo s.config r .staged [])
      { dequeued s rest with tables := s.tables.held w new } := by
  have held := answer.trans (answerStaged_held (s := dequeued s rest) busy w new)
  have quiet : ({ dequeued s rest with tables := s.tables.held w new } : State).Settled :=
    settled.congr rfl (fun p => by cases p <;> rfl) (fun _ => rfl) rfl rfl rfl rfl
  rw [serve_reply s k r rest h serving (by rw [held]; exact quiet), held]
  rfl

/-- A write staged in a proceeding leaves the active copy (R72). -/
theorem serve_held_spec (settled : s.Settled) (serving : Serving s k r rest) (busy : s.proceeding.state ≠ .idle)
    (answer : h r.payload (dequeued s rest) = answerStaged w (.ok new) (dequeued s rest)) :
    (serve k h s).tables.shadow = new ∧ (serve k h s).tables.staged = true ∧
      (serve k h s).tables.active = s.tables.active ∧ Replied .nothing (replyTo s.config r .staged []) (serve k h s) := by
  obtain ⟨replied, b, m, f, frame⟩ := withReply_spec .nothing (replyTo s.config r .staged [])
    { dequeued s rest with tables := s.tables.held w new }
  rw [serve_held settled serving busy answer]
  refine ⟨?_, ?_, ?_, replied⟩ <;> rw [frame] <;> rfl

theorem serve_tableRefused {x : ResultCode} (settled : s.Settled) (serving : Serving s k r rest)
    (answer : h r.payload (dequeued s rest) = answerStaged w (.error x) (dequeued s rest)) :
    serve k h s = withReply .nothing (replyTo s.config r x []) (dequeued s rest) :=
  serve_refused settled serving (answer.trans (answerStaged_error w x _))

/-! ## Writes in IDLE (R72, R74) -/

/-- A write carried out in IDLE: the tables active in both copies with the REPLY on the way, the stations, flags and engine as the
written entries leave them, and the other blocks as they stood. -/
structure TablesActive (s : State) (r : Request) (rest : List Request) (w : Vector Bool 16) (new : Tables) (t : State) : Prop where
  tables : t.tables = s.tables.activated new
  replied : Replied .nothing (replyTo s.config r .ok []) t
  unapplied : t.unapplied = s.unapplied
  stations : t.stations = (entriesApplied w new (dequeued s rest)).stations
  management : t.management = (entriesApplied w new (dequeued s rest)).management
  engineState : t.engine.state = (entriesApplied w new (dequeued s rest)).engine.state
  result : t.engine.result = (entriesApplied w new (dequeued s rest)).engine.result
  engine : (entriesApplied w new (dequeued s rest)).engine = s.engine → t.engine = s.engine

theorem serve_active (settled : s.Settled) (serving : Serving s k r rest) (idle : s.proceeding.state = .idle)
    (answer : h r.payload (dequeued s rest) = answerStaged w (.ok new) (dequeued s rest)) :
    TablesActive s r rest w new (serve k h s) := by
  have carried := answer.trans (answerStaged_active (s := dequeued s rest) idle w new)
  have tables := activate_tables w new (dequeued s rest)
  have unapplied := activate_unapplied w new (dequeued s rest)
  have portA : (entriesApplied w new (dequeued s rest)).ports.a = s.ports.a := applyEntries_portA _
  obtain ⟨g, l, q, d, shape⟩ := activate_spec w new (dequeued s rest)
  have stations : (activate w new (dequeued s rest)).stations = (entriesApplied w new (dequeued s rest)).stations := by rw [shape]
  have management : (activate w new (dequeued s rest)).management = (entriesApplied w new (dequeued s rest)).management := by
    rw [shape]
  have engine : (activate w new (dequeued s rest)).engine = (entriesApplied w new (dequeued s rest)).engine := by rw [shape]
  have a : (activate w new (dequeued s rest)).ports.a = s.ports.a := by rw [shape]; exact portA
  generalize activate w new (dequeued s rest) = u at *
  have kept := unapplied
  simp only [State.unapplied, Prod.mk.injEq] at kept
  obtain ⟨config, -, -, -, -, output, -, -⟩ := kept
  obtain ⟨p, v, served, replied, quiet⟩ := serve_accepted_spec settled serving carried config
    ⟨by rw [output]; rfl, fun st => by rw [State.stream, output]; rfl⟩
  rw [served]
  have state := congrArg Engine.state engine
  have result := congrArg Engine.result engine
  refine ⟨tables, replied, unapplied, stations, management, state, result, fun same => ?_⟩
  have whole : u.engine = s.engine := engine.trans same
  rw [quiet whole a]
  exact whole

end

/-! ## The three handlers -/

section
variable {p : List Byte}

theorem answerWriteStation_outside (outside : fieldAt p 6 1 = 0 ∨ 16 < fieldAt p 5 1 + fieldAt p 6 1) (s : State) :
    answerWriteStation p s = refuse .range s := if_pos ((rangeOk_eq_false_iff .station _ _).mpr outside)

theorem answerWriteTrackMap_outside (outside : fieldAt p 6 1 = 0 ∨ 48 < fieldAt p 5 1 + fieldAt p 6 1) (s : State) :
    answerWriteTrackMap p s = refuse .range s := if_pos ((rangeOk_eq_false_iff .trackMap _ _).mpr outside)

theorem answerWriteDisposition_outside (outside : fieldAt p 6 1 = 0 ∨ 6 < fieldAt p 5 1 + fieldAt p 6 1) (s : State) :
    answerWriteDisposition p s = refuse .range s := if_pos ((rangeOk_eq_false_iff .disposition _ _).mpr outside)

section
variable (named : 0 < fieldAt p 6 1)
include named

theorem answerWriteStation_inside (fits : fieldAt p 5 1 + fieldAt p 6 1 ≤ 16) (s : State) : answerWriteStation p s =
    answerStaged (writtenFlags 16 (fieldAt p 5 1) (fieldAt p 6 1))
      (stationWrite (writeCopy s) (fieldAt p 5 1) (fieldAt p 6 1) p) s :=
  if_neg (by rw [show rangeOk .station (pFirst p) (pCount p) = true from (rangeOk_iff _ _ _).mpr ⟨named, fits⟩]; decide)

theorem answerWriteTrackMap_inside (fits : fieldAt p 5 1 + fieldAt p 6 1 ≤ 48) (s : State) : answerWriteTrackMap p s =
    answerStaged noEntries (trackWrite (writeCopy s) (fieldAt p 5 1) (fieldAt p 6 1) p) s :=
  if_neg (by rw [show rangeOk .trackMap (pFirst p) (pCount p) = true from (rangeOk_iff _ _ _).mpr ⟨named, fits⟩]; decide)

theorem answerWriteDisposition_inside (fits : fieldAt p 5 1 + fieldAt p 6 1 ≤ 6) (s : State) : answerWriteDisposition p s =
    answerStaged noEntries (dispositionWrite (writeCopy s) (fieldAt p 5 1) (fieldAt p 6 1) p) s :=
  if_neg (by rw [show rangeOk .disposition (pFirst p) (pCount p) = true from (rangeOk_iff _ _ _).mpr ⟨named, fits⟩]; decide)

end
end

theorem writeCopy_busy (busy : s.proceeding.state ≠ .idle) (rest : List Request) :
    writeCopy (dequeued s rest) = s.tables.shadow := if_neg busy

theorem writeCopy_idle (idle : s.proceeding.state = .idle) (rest : List Request) :
    writeCopy (dequeued s rest) = s.tables.active := if_pos idle

theorem writtenFlags_eq (first count : Nat) (i : Fin 16) :
    (writtenFlags 16 first count)[i] = (decide (first ≤ i.val) && decide (i.val < first + count)) := by
  simp [writtenFlags]

/-- What a write in IDLE is seen to have done, whichever table it wrote. -/
theorem TablesActive.seen {r : Request} {rest : List Request} {w : Vector Bool 16} {new : Tables}
    (active : TablesActive s r rest w new t) :
    t.tables.active = new ∧ t.tables.shadow = new ∧ t.tables.staged = false ∧
      t.tables.mapGeneration = s.tables.mapGeneration + 1 ∧ Replied .nothing (replyTo s.config r .ok []) t ∧
      t.config = s.config ∧ t.timebase = s.timebase ∧ t.mode = s.mode ∧ t.proceeding = s.proceeding ∧ t.output = s.output := by
  have kept := active.unapplied
  simp only [State.unapplied, Prod.mk.injEq] at kept
  obtain ⟨config, -, timebase, mode, -, output, proceeding, -⟩ := kept
  rw [active.tables]
  exact ⟨rfl, rfl, rfl, rfl, active.replied, config, timebase, mode, proceeding, output⟩

theorem entriesApplied_written {w : Vector Bool 16} (new : Tables) (written : w[i] = true) (s : State) :
    EntryDone i s.tables.active.stations[i] new.stations[i] s (entriesApplied w new s) := by
  have done := applyEntries_written (before := s.tables.active) (after := new) written
    { s with tables := s.tables.activated new }
  exact ⟨done.station, done.moved, done.aborts⟩

/-- What a write in IDLE is seen to have done to a written station. -/
theorem TablesActive.written {r : Request} {rest : List Request} {w : Vector Bool 16} {new : Tables}
    (active : TablesActive s r rest w new t) (named : w[i] = true) :
    EntryApplied s.tables.active.stations[i] new.stations[i] s.stations[i] t.stations[i] ∧
      (t.stations[i].state ≠ s.stations[i].state → flagSet t .stationState = true) ∧
      (∀ x, s.engine.state = .test x → x.station = i → s.stations[i].state = .test → t.stations[i].state ≠ .test →
        t.engine.state = .idle ∧ t.engine.result = some .aborted ∧ flagSet t .testDone = true) := by
  obtain ⟨station, moved, aborts⟩ := entriesApplied_written new named (dequeued s rest)
  have flags (f : EventFlag) : flagSet t f = flagSet (entriesApplied w new (dequeued s rest)) f := by
    rw [flagSet, flagSet, active.management]
  rw [active.stations, active.engineState, active.result, flags, flags]
  refine ⟨?_, moved, aborts⟩
  rw [station]
  exact entryApplied_entered _ _ _

/-- Settles O46: the three handlers by range and state; in IDLE the written entries' effects, one station at a time. -/
theorem tableWritesByState : Obligations.TableWritesByState := by
  unfold Obligations.TableWritesByState
  intro s r rest settled first count
  refine ⟨fun busy => ⟨fun serving named fits => ?_, fun serving named fits => ?_, fun serving named fits => ?_⟩,
    fun outside serving => ?_, fun outside serving => ?_, fun outside serving => ?_,
    fun u idle => ⟨fun serving named fits written => ?_, fun serving named fits written => ?_,
      fun serving named fits written => ?_⟩⟩
  · have answer := answerWriteStation_inside named fits (dequeued s rest)
    rw [writeCopy_busy busy] at answer
    refine ⟨fun u written => ?_, fun e written => ?_⟩
    · rw [written] at answer
      refine congrArg Host.Outcome.next ((serve_held settled serving busy answer).trans ?_)
      have flags : unionFlags s.tables.written (writtenFlags 16 (fieldAt r.payload 5 1) (fieldAt r.payload 6 1)) =
          Vector.ofFn fun i => s.tables.written[i] || (decide (first ≤ i.val) && decide (i.val < first + count)) :=
        congrArg Vector.ofFn (funext fun i => by rw [writtenFlags_eq])
      rw [TableSet.held, flags]
    · rw [written] at answer
      exact congrArg Host.Outcome.next (serve_tableRefused settled serving answer)
  · have answer := answerWriteTrackMap_inside named fits (dequeued s rest)
    rw [writeCopy_busy busy] at answer
    refine ⟨fun u written => ?_, fun e written => ?_⟩
    · rw [written] at answer
      exact ⟨_, rfl, serve_held_spec settled serving busy answer⟩
    · rw [written] at answer
      exact congrArg Host.Outcome.next (serve_tableRefused settled serving answer)
  · have answer := answerWriteDisposition_inside named fits (dequeued s rest)
    rw [writeCopy_busy busy] at answer
    refine ⟨fun u written => ?_, fun e written => ?_⟩
    · rw [written] at answer
      exact ⟨_, rfl, serve_held_spec settled serving busy answer⟩
    · rw [written] at answer
      exact congrArg Host.Outcome.next (serve_tableRefused settled serving answer)
  · exact congrArg Host.Outcome.next (serve_refused settled serving (answerWriteStation_outside outside _))
  · exact congrArg Host.Outcome.next (serve_refused settled serving (answerWriteTrackMap_outside outside _))
  · exact congrArg Host.Outcome.next (serve_refused settled serving (answerWriteDisposition_outside outside _))
  · have answer := answerWriteStation_inside named fits (dequeued s rest)
    rw [writeCopy_idle idle, written] at answer
    have active := serve_active settled serving idle answer
    refine ⟨⟨_, rfl, active.seen⟩, _, rfl, fun i out => ?_, fun i low high => ?_, fun untested => ?_⟩
    · have unwritten : (writtenFlags 16 first count)[i] = false := by
        rw [writtenFlags_eq, Bool.and_eq_false_iff, decide_eq_false_iff_not, decide_eq_false_iff_not]
        omega
      rw [active.stations]
      exact applyEntries_unwritten unwritten _
    · have named : (writtenFlags 16 first count)[i] = true := by
        rw [writtenFlags_eq, decide_eq_true low, decide_eq_true high]
        rfl
      exact active.written named
    · exact active.engine (applyEntries_engine untested)
  · have answer := answerWriteTrackMap_inside named fits (dequeued s rest)
    rw [writeCopy_idle idle, written] at answer
    exact ⟨_, rfl, (serve_active settled serving idle answer).seen⟩
  · have answer := answerWriteDisposition_inside named fits (dequeued s rest)
    rw [writeCopy_idle idle, written] at answer
    exact ⟨_, rfl, (serve_active settled serving idle answer).seen⟩

end Sys2Proof.Machine
end
